-- ==== Sys2Proof/Word.lean ====
section
/-! DEFINITION. The words of the router's formats (R195, R198): bytes, 16-bit codes and checks, 32-bit addresses, counters
and checks, and how several bytes make one value, most significant byte first (R202). -/

namespace Sys2Proof

/-- One byte: a station, a tag, a kind code, a byte of payload. -/
abbrev Byte := BitVec 8

/-- A 16-bit value: a notice code, a message check. -/
abbrev Word16 := BitVec 16

/-- A 32-bit value: a point address, a counter, a link check. -/
abbrev Word32 := BitVec 32

/-- Two bytes as one value, most significant first (R202). -/
def word16 (hi lo : Byte) : Word16 := hi ++ lo

/-- Four bytes as one value, most significant first (R202). -/
def word32 (b3 b2 b1 b0 : Byte) : Word32 := b3 ++ b2 ++ b1 ++ b0

end Sys2Proof
end

