-- ==== Sys2Proof/Config.lean ====
section
/-! DEFINITION. What the part fixes: the sizes of its buffers and tables, the bounds of its settings, its times in
milliseconds, its codes and identity values. The spec leaves no value free that a row writes, so no uninterpreted constant
stands here; the conventions it leaves open are the assumption log's. -/

namespace Sys2Proof.Config

/-- Frames an ingress class holds (R100), and the credits a greeting of the router grants per class (R116, R124). -/
def ingressSize : Nat := 4
/-- Frames a request lane holds (R103). -/
def requestLaneSize : Nat := 12
/-- Frames an answer lane holds (R103). -/
def answerLaneSize : Nat := 8
/-- Forwarded answers an answer lane holds at most (R103). -/
def forwardedMax : Nat := 6
/-- Records the station inbox holds (R61). -/
def inboxSize : Nat := 16
/-- Messages the receive queue holds (R185). -/
def receiveQueueSize : Nat := 4
/-- Messages the outgoing queue holds; one place is kept for RESTARTED (R189). -/
def outgoingQueueSize : Nat := 8
/-- Entries a response of LIST EXCHANGES holds at most (R98). -/
def listedEntries : Nat := 16
/-- The quota of M, written by no command (R70). -/
def quotaM : Nat := 1
/-- Largest requested length of a FETCH (R5). -/
def fetchMax : Nat := 4096
/-- Largest payload of a STORE or an ANSWER (R5). -/
def payloadMax : Nat := 1024
/-- Largest payload of a NOTICE (R5). -/
def noticeMax : Nat := 32
/-- Bytes in the point address space (R2). -/
def pointSpace : Nat := 4294967296
/-- Failed attempts in a row that take a port to FAILED (R126). -/
def attemptsMax : Nat := 3
/-- Damaged frames the damaged window holds before the next one takes the link down (R129). -/
def damagedBudget : Nat := 7
/-- A damaged frame's time in the damaged window, in ms (R129). -/
def damagedTime : Nat := 10
/-- The quiet interval of a port that enters DOWN, in ms (R123). -/
def quietTime : Nat := 1
/-- The time of a training attempt, in ms (R124). -/
def attemptTime : Nat := 2
/-- The largest later-fault count of a capture record (R148). -/
def laterMax : Nat := 65535
/-- Smallest and largest body length of a management message (R183). -/
def bodyMin : Nat := 2
/-- The longest time between two bytes of one management message, in ms (R184). -/
def byteGap : Nat := 5
/-- Largest body length of a management message (R183). -/
def bodyMax : Nat := 4160
/-- Most parameter bytes of ECHO (R193). -/
def echoMax : Nat := 4157
/-- Most records of a load image (R172). -/
def recordsMax : Nat := 64
/-- Most bytes of the records area of a load image (R172). -/
def recordsAreaMax : Nat := 4096
/-- The start byte of a management message (R195). -/
def startByte : Byte := 0x9C
/-- The device address of the serial memory (R172). -/
def memoryDevice : Byte := 0x51
/-- The marker of a load image (R199). -/
def imageMarker : Word16 := 0x5A7E
/-- The payload capabilities a link may have (R120, R125). -/
def capabilities : List Nat := [64, 128, 256, 512, 1024]
/-- IDENTIFY's vendor code (R192). -/
def vendorCode : Word16 := 0x3A5C
/-- IDENTIFY's part code (R192). -/
def partCode : Word16 := 0x0F07
/-- IDENTIFY's revision (R192); R195 names no type for it, and one byte is the model's choice (log 18). -/
def revision : Byte := 0x01
/-- IDENTIFY's port count (R192). -/
def portCount : Nat := 7
/-- Entries of the exchange table (R68), also IDENTIFY's value (R192). -/
def tableSize : Nat := 64
/-- IDENTIFY's stream capability (R192). -/
def streamCapability : Nat := 4

end Sys2Proof.Config
end

