-- ==== Sys2Proof/Syntax.lean ====
section
/-! DEFINITION. The commands and events the router takes: one constructor per row of spec/opcode_table.json, with its
operands. The names of ports, classes and messages that the operands need stand here too. -/

namespace Sys2Proof

/-- The seven link ports (R1). -/
inductive Port where
  | t | b1 | b2 | b3 | b4 | b5 | b6
  deriving DecidableEq, Repr

/-- The six bays (R1). -/
inductive Bay where
  | b1 | b2 | b3 | b4 | b5 | b6
  deriving DecidableEq, Repr

/-- Where a request comes from: a link port, or M, the host (R1). Also a position of a lane arbiter's cycle (R108). -/
inductive Origin where
  | link (p : Port)
  | m
  deriving DecidableEq, Repr

/-- The two classes of frames: STORE, FETCH and NOTICE are requests, ANSWER is an answer (R5). A frame's class is its start
symbol's; it names an ingress class, an egress lane and a kind of credit. -/
inductive FrameClass where
  | request
  | answer
  deriving DecidableEq, Repr

/-- A host message without its kind: the sequence, the parameter bytes as they stand in the body, and the check its envelope
carried (R195, R187). The kind is the row's. -/
structure HostMsg where
  seq : Byte
  params : List Byte
  check : Word16
  deriving DecidableEq, Repr

/-- What the serial memory answered to the loader's reads (R172): whether it acknowledged its device address at the first
read, whether every other part of every read was acknowledged, and the bytes brought, in order of offset from 0. -/
structure ImageRead where
  deviceAck : Bool
  allAck : Bool
  bytes : List Byte
  deriving DecidableEq, Repr

/-- A stall timer: that of one ingress class of one link port, or that of M's head (R111). -/
inductive StallTimer where
  | ingress (p : Port) (c : FrameClass)
  | m
  deriving DecidableEq, Repr

/-- The rows of spec/opcode_table.json. A host command's operand is its message as the management link takes it from the
receive queue (R186); the parameters stand in the message's bytes as R195 lays them out. -/
inductive Instr where
  /-- SET STATION (station), R26. -/
  | setStation (m : HostMsg)
  /-- SET BAY RANGE (bay, first, last), R27. -/
  | setBayRange (m : HostMsg)
  /-- SET WINDOW (bay, kind, base, limit), R28. -/
  | setWindow (m : HostMsg)
  /-- SET DIRECTED (base, limit, target, switch), R30. -/
  | setDirected (m : HostMsg)
  /-- SET PERMITS (bay, upstream, peer), R31. -/
  | setPermits (m : HostMsg)
  /-- SET SPOILED (port, drop), R32. -/
  | setSpoiled (m : HostMsg)
  /-- READ ROUTES (selector), R37. -/
  | readRoutes (m : HostMsg)
  /-- PROBE ROUTE (ingress, kind, address and length, or station), R38. -/
  | probeRoute (m : HostMsg)
  /-- READ INBOX (count), R63. -/
  | readInbox (m : HostMsg)
  /-- ISSUE STORE (address, payload, spoiled flag), R64. -/
  | issueStore (m : HostMsg)
  /-- SEND NOTICE (target, code, payload), R66. -/
  | sendNotice (m : HostMsg)
  /-- SET QUOTA (port, n), R71. -/
  | setQuota (m : HostMsg)
  /-- SET EXCHANGE TIMERS (timeout, quarantine), R72. -/
  | setExchangeTimers (m : HostMsg)
  /-- CANCEL EXCHANGE (tag), R89. -/
  | cancelExchange (m : HostMsg)
  /-- ISSUE FETCH (address, length), R93. -/
  | issueFetch (m : HostMsg)
  /-- LIST EXCHANGES (start), R98. -/
  | listExchanges (m : HostMsg)
  /-- SET STALL LIMIT (limit), R113. -/
  | setStallLimit (m : HostMsg)
  /-- READ LANES (port), R117. -/
  | readLanes (m : HostMsg)
  /-- SET LINK (port, enable, max), R121. -/
  | setLink (m : HostMsg)
  /-- HOLD BAY (bay), R133. -/
  | holdBay (m : HostMsg)
  /-- RELEASE BAY (bay), R134. -/
  | releaseBay (m : HostMsg)
  /-- RETRAIN (port), R135. -/
  | retrain (m : HostMsg)
  /-- READ LINK (port), R136. -/
  | readLink (m : HostMsg)
  /-- SET REPORTING (category, enable, masked names), R143. -/
  | setReporting (m : HostMsg)
  /-- READ CONDITIONS (selector), R145. -/
  | readConditions (m : HostMsg)
  /-- CLEAR CONDITIONS (selector, names or all), R146. -/
  | clearConditions (m : HostMsg)
  /-- READ CAPTURE (category), R149. -/
  | readCapture (m : HostMsg)
  /-- RELEASE CAPTURE (category), R150. -/
  | releaseCapture (m : HostMsg)
  /-- READ COUNTERS (selector, clear), R153. -/
  | readCounters (m : HostMsg)
  /-- SET STREAMS (n), R158. -/
  | setStreams (m : HostMsg)
  /-- ACK NOTIFY (stream), R162. `notifyFirst`: the NOTIFY it releases enters the outgoing queue before the response. -/
  | ackNotify (m : HostMsg) (notifyFirst : Bool)
  /-- MASK STREAM (stream), R163. -/
  | maskStream (m : HostMsg)
  /-- UNMASK STREAM (stream), R163. `notifyFirst` as for ACK NOTIFY. -/
  | unmaskStream (m : HostMsg) (notifyFirst : Bool)
  /-- RESET ROUTER, R170. -/
  | resetRouter (m : HostMsg)
  /-- READ LOAD REPORT, R179. -/
  | readLoadReport (m : HostMsg)
  /-- OPEN ROUTING, R180. -/
  | openRouting (m : HostMsg)
  /-- CLOSE ROUTING, R181. -/
  | closeRouting (m : HostMsg)
  /-- IDENTIFY, R192. -/
  | identify (m : HostMsg)
  /-- ECHO (bytes), R193. -/
  | echo (m : HostMsg)
  /-- A good message whose kind is no command kind is taken from the receive queue, R186. -/
  | badKindMessage (kind : Byte) (m : HostMsg)
  /-- The bytes of a framed message arrive on RXD, to its last byte, R183. -/
  | messageReceive (bytes : List Byte)
  /-- More than 5 ms pass between two bytes of a message being gathered, R184. -/
  | messageAbandoned
  /-- The response of the command in progress, which waited for a place, enters the outgoing queue, R188. -/
  | responseEntersQueue
  /-- The last byte of the message at the head of the outgoing queue is sent, R189. -/
  | messageSent
  /-- A stream's NOTIFY enters the outgoing queue, R160. -/
  | notify (stream : Fin 4)
  /-- FETCH DONE enters the outgoing queue, R97. -/
  | fetchDone
  /-- RESTARTED enters the outgoing queue and START ends, R176. -/
  | restarted
  /-- PORN rises, with these levels on the strap pins, R168, R182. -/
  | powerOnReset (rate1 rate0 : Bool)
  /-- PORN goes low, R168. -/
  | pornLow
  /-- A RESET symbol arrives, R132. -/
  | resetSymbol (p : Port)
  /-- The loader completes reading the load image, R172. -/
  | loadImageRead (r : ImageRead)
  /-- The loader replays the next record, R173. -/
  | loadRecord
  /-- A frame arrives whole: its start symbol's class and its bytes, up to the next control symbol, R100, R198. -/
  | frameArrival (p : Port) (c : FrameClass) (bytes : List Byte)
  /-- The arbiter of a lane of port `p` grants room, R109. -/
  | laneGrant (p : Port) (c : FrameClass)
  /-- A port begins to send a frame, R106, R107. -/
  | transmitFrame (p : Port)
  /-- A port sends an owed credit return, R102. -/
  | sendCreditReturn (p : Port) (c : FrameClass)
  /-- A credit return arrives from the partner, R105. -/
  | creditReturn (p : Port) (c : FrameClass)
  /-- A stall timer runs out, R112. -/
  | stallTimerRunsOut (timer : StallTimer)
  /-- The deadline of an entry runs out, R85. -/
  | deadlineRunsOut (tag : Fin 64)
  /-- The quarantine of an entry runs out, R86. -/
  | quarantineRunsOut (tag : Fin 64)
  /-- The quiet interval of a port ends, R123. -/
  | quietIntervalEnd (p : Port)
  /-- The partner signal appears at a port, R123. -/
  | partnerSignalPresent (p : Port)
  /-- A port in training sends its greeting again, R124. -/
  | greetingRepeat (p : Port)
  /-- A greeting arrives: the bytes between its symbol and the next control symbol, R125, R198. -/
  | greeting (p : Port) (bytes : List Byte)
  /-- An accept symbol arrives, R124. -/
  | accept (p : Port)
  /-- The time of a training attempt runs out, R126. -/
  | trainingTimeout (p : Port)
  /-- The partner signal is lost, R128. -/
  | partnerSignalLoss (p : Port)
  /-- The oldest damaged frame drops out of the damaged window, R129. -/
  | damagedWindowExpiry (p : Port)
  /-- The last byte of the frame being sent goes out, R107. -/
  | frameLastByteSent (p : Port)
  /-- The hunting receiver meets a start byte, R183. -/
  | startByteFound
  /-- The two length bytes after a start byte are out of range, R183. -/
  | bodyLengthOutOfRange (hi lo : Byte)
  deriving DecidableEq, Repr

end Sys2Proof
end

