-- ==== Sys2Proof/Decode.lean ====
section
/-! DEFINITION. decodeTableWord, over the rows of the opcode table that give bits (none does), and the checks of R200 and
R201, which say whether a message, a load image, a frame or a greeting arrived as it was sent; the command kinds and the range of a body
length. -/

namespace Sys2Proof

/-- The command a word spells by the bits of spec/opcode_table.json. No row of the table gives bits, so no word spells one. -/
def decodeTableWord (_nbits _w : Nat) : Option Instr := none

/-- One step of the CRC-16 of R200: polynomial 1021h, most significant bit first. -/
def crc16Bit (c : Word16) : Word16 := if c.msb then (c <<< 1) ^^^ 0x1021 else c <<< 1

/-- One byte of the CRC-16 of R200. -/
def crc16Byte (c : Word16) (b : Byte) : Word16 :=
  (List.range 8).foldl (fun c _ => crc16Bit c) (c ^^^ word16 b 0)

/-- The 16-bit check of the management link and of the load image (R200). -/
def crc16 (bytes : List Byte) : Word16 := bytes.foldl crc16Byte 0xFFFF

/-- One step of the CRC-32 of R201: polynomial 04C11DB7h, most significant bit first. -/
def crc32Bit (c : Word32) : Word32 := if c.msb then (c <<< 1) ^^^ 0x04C11DB7 else c <<< 1

/-- One byte of the CRC-32 of R201. -/
def crc32Byte (c : Word32) (b : Byte) : Word32 :=
  (List.range 8).foldl (fun c _ => crc32Bit c) (c ^^^ word32 b 0 0 0)

/-- The 32-bit link check (R201). -/
def crc32 (bytes : List Byte) : Word32 := bytes.foldl crc32Byte 0xFFFFFFFF

/-- A length or count as its two bytes, most significant first (R195, R202). -/
def nat16 (n : Nat) : List Byte := [BitVec.ofNat 8 (n / 256), BitVec.ofNat 8 n]

/-- A 16-bit value as its two bytes (R202). -/
def bytes16 (w : Word16) : List Byte := [w.extractLsb' 8 8, w.extractLsb' 0 8]

/-- A 32-bit value as its four bytes (R202). -/
def bytes32 (w : Word32) : List Byte :=
  [w.extractLsb' 24 8, w.extractLsb' 16 8, w.extractLsb' 8 8, w.extractLsb' 0 8]

/-- The bytes a message's check covers: the body length, the kind, the sequence and the parameters (R195, R200). -/
def HostMsg.covered (kind : Byte) (m : HostMsg) : List Byte :=
  nat16 (m.params.length + 2) ++ kind :: m.seq :: m.params

/-- The message is good: its body length is in range and its check matches (R183, R200). -/
def HostMsg.good (kind : Byte) (m : HostMsg) : Bool :=
  m.params.length + 2 ≤ Config.bodyMax && m.check == crc16 (m.covered kind)

/-- The message's envelope on the line (R195). -/
def HostMsg.envelope (kind : Byte) (m : HostMsg) : List Byte :=
  Config.startByte :: m.covered kind ++ bytes16 m.check

/-- A good message with these contents: its check computed by R200. -/
def HostMsg.make (kind seq : Byte) (params : List Byte) : HostMsg :=
  { seq, params, check := crc16 (HostMsg.covered kind { seq, params, check := 0 }) }

/-- The command kind codes (R196). -/
def commandKinds : List Byte :=
  [0x01, 0x02, 0x10, 0x11, 0x12, 0x13, 0x14, 0x15, 0x16, 0x17, 0x20, 0x21, 0x22, 0x30, 0x31, 0x32, 0x33, 0x34, 0x38, 0x39,
    0x40, 0x41, 0x42, 0x43, 0x44, 0x50, 0x51, 0x52, 0x53, 0x54, 0x55, 0x60, 0x61, 0x62, 0x63, 0x70, 0x71, 0x72, 0x73]

/-- The kind is a command kind (R196). -/
def isCommandKind (k : Byte) : Bool := commandKinds.contains k

/-- Two bytes give a body length outside 2-4160 (R183). -/
def lengthOutOfRange (hi lo : Byte) : Bool :=
  (word16 hi lo).toNat < Config.bodyMin || Config.bodyMax < (word16 hi lo).toNat

end Sys2Proof
end

