-- ==== Sys2Proof/WellFormed.lean ====
section
/-! DEFINITION. The commands that can be given: a host command carries a good message (R183), a bad-kind message carries a kind
that is no command's (R186, R196), a length named out of range is out of range (R183), and an absent memory brings nothing
(R172). -/

namespace Sys2Proof

/-- The kind and the message of a row that takes a message from the receive queue (R186, R196); none for the other rows. -/
def Instr.message : Instr → Option (Byte × HostMsg)
  | .identify m => some (0x01, m)
  | .echo m => some (0x02, m)
  | .setStation m => some (0x10, m)
  | .setBayRange m => some (0x11, m)
  | .setWindow m => some (0x12, m)
  | .setDirected m => some (0x13, m)
  | .setPermits m => some (0x14, m)
  | .setSpoiled m => some (0x15, m)
  | .readRoutes m => some (0x16, m)
  | .probeRoute m => some (0x17, m)
  | .readInbox m => some (0x20, m)
  | .issueStore m => some (0x21, m)
  | .sendNotice m => some (0x22, m)
  | .setQuota m => some (0x30, m)
  | .setExchangeTimers m => some (0x31, m)
  | .cancelExchange m => some (0x32, m)
  | .issueFetch m => some (0x33, m)
  | .listExchanges m => some (0x34, m)
  | .setStallLimit m => some (0x38, m)
  | .readLanes m => some (0x39, m)
  | .setLink m => some (0x40, m)
  | .holdBay m => some (0x41, m)
  | .releaseBay m => some (0x42, m)
  | .retrain m => some (0x43, m)
  | .readLink m => some (0x44, m)
  | .setReporting m => some (0x50, m)
  | .readConditions m => some (0x51, m)
  | .clearConditions m => some (0x52, m)
  | .readCapture m => some (0x53, m)
  | .releaseCapture m => some (0x54, m)
  | .readCounters m => some (0x55, m)
  | .setStreams m => some (0x60, m)
  | .ackNotify m _ => some (0x61, m)
  | .maskStream m => some (0x62, m)
  | .unmaskStream m _ => some (0x63, m)
  | .resetRouter m => some (0x70, m)
  | .readLoadReport m => some (0x71, m)
  | .openRouting m => some (0x72, m)
  | .closeRouting m => some (0x73, m)
  | .badKindMessage kind m => some (kind, m)
  | .messageReceive _ => none
  | .messageAbandoned => none
  | .responseEntersQueue => none
  | .messageSent => none
  | .notify _ => none
  | .fetchDone => none
  | .restarted => none
  | .powerOnReset _ _ => none
  | .pornLow => none
  | .resetSymbol _ => none
  | .loadImageRead _ => none
  | .loadRecord => none
  | .frameArrival _ _ _ => none
  | .laneGrant _ _ => none
  | .transmitFrame _ => none
  | .sendCreditReturn _ _ => none
  | .creditReturn _ _ => none
  | .stallTimerRunsOut _ => none
  | .deadlineRunsOut _ => none
  | .quarantineRunsOut _ => none
  | .quietIntervalEnd _ => none
  | .partnerSignalPresent _ => none
  | .greetingRepeat _ => none
  | .greeting _ _ => none
  | .accept _ => none
  | .trainingTimeout _ => none
  | .partnerSignalLoss _ => none
  | .damagedWindowExpiry _ => none
  | .frameLastByteSent _ => none
  | .startByteFound => none
  | .bodyLengthOutOfRange _ _ => none

/-- The command is well formed: its message, if it has one, is good, and its operands are such as its row can have. -/
def Instr.wellFormed : Instr → Bool
  | .identify m => m.good 0x01
  | .echo m => m.good 0x02
  | .setStation m => m.good 0x10
  | .setBayRange m => m.good 0x11
  | .setWindow m => m.good 0x12
  | .setDirected m => m.good 0x13
  | .setPermits m => m.good 0x14
  | .setSpoiled m => m.good 0x15
  | .readRoutes m => m.good 0x16
  | .probeRoute m => m.good 0x17
  | .readInbox m => m.good 0x20
  | .issueStore m => m.good 0x21
  | .sendNotice m => m.good 0x22
  | .setQuota m => m.good 0x30
  | .setExchangeTimers m => m.good 0x31
  | .cancelExchange m => m.good 0x32
  | .issueFetch m => m.good 0x33
  | .listExchanges m => m.good 0x34
  | .setStallLimit m => m.good 0x38
  | .readLanes m => m.good 0x39
  | .setLink m => m.good 0x40
  | .holdBay m => m.good 0x41
  | .releaseBay m => m.good 0x42
  | .retrain m => m.good 0x43
  | .readLink m => m.good 0x44
  | .setReporting m => m.good 0x50
  | .readConditions m => m.good 0x51
  | .clearConditions m => m.good 0x52
  | .readCapture m => m.good 0x53
  | .releaseCapture m => m.good 0x54
  | .readCounters m => m.good 0x55
  | .setStreams m => m.good 0x60
  | .ackNotify m _ => m.good 0x61
  | .maskStream m => m.good 0x62
  | .unmaskStream m _ => m.good 0x63
  | .resetRouter m => m.good 0x70
  | .readLoadReport m => m.good 0x71
  | .openRouting m => m.good 0x72
  | .closeRouting m => m.good 0x73
  | .badKindMessage kind m => m.good kind && !isCommandKind kind
  | .messageReceive _ => true
  | .messageAbandoned => true
  | .responseEntersQueue => true
  | .messageSent => true
  | .notify _ => true
  | .fetchDone => true
  | .restarted => true
  | .powerOnReset _ _ => true
  | .pornLow => true
  | .resetSymbol _ => true
  | .loadImageRead r => r.deviceAck || (!r.allAck && r.bytes.isEmpty)
  | .loadRecord => true
  | .frameArrival _ _ _ => true
  | .laneGrant _ _ => true
  | .transmitFrame _ => true
  | .sendCreditReturn _ _ => true
  | .creditReturn _ _ => true
  | .stallTimerRunsOut _ => true
  | .deadlineRunsOut _ => true
  | .quarantineRunsOut _ => true
  | .quietIntervalEnd _ => true
  | .partnerSignalPresent _ => true
  | .greetingRepeat _ => true
  | .greeting _ _ => true
  | .accept _ => true
  | .trainingTimeout _ => true
  | .partnerSignalLoss _ => true
  | .damagedWindowExpiry _ => true
  | .frameLastByteSent _ => true
  | .startByteFound => true
  | .bodyLengthOutOfRange hi lo => lengthOutOfRange hi lo

end Sys2Proof
end

