-- ==== Sys2Proof/Machine/State.lean ====
section
/-! DEFINITION. The state of the router: every item the spec gives each block, the reasons a step could stop, and the state
right after a power-on reset. -/

namespace Sys2Proof.Machine

/-- The reasons the router stops with a fault. The spec names none: every misuse has a status (R191), a condition (R138) or a
discarded frame or message (R14, R15, R183). So no constructor stands here, and no meaning faults. -/
inductive Fault where
  deriving DecidableEq, Repr

/-- The reasons a row has no meaning. -/
inductive Refusal where
  /-- The row is not modelled yet. Raised by an arm of exec alone; safe: no claim about the row can be proved. -/
  | notModelled (mnemonic : String)
  deriving DecidableEq, Repr

/-! ## One item for each port, each bay, each class, each category -/

/-- One item for each link port. -/
structure PerPort (α : Type) where
  t : α
  b1 : α
  b2 : α
  b3 : α
  b4 : α
  b5 : α
  b6 : α
  deriving DecidableEq, Repr

/-- The same item at every port. -/
def PerPort.const {α : Type} (a : α) : PerPort α := ⟨a, a, a, a, a, a, a⟩

/-- The item of a port. -/
def PerPort.get {α : Type} (v : PerPort α) : Port → α
  | .t => v.t
  | .b1 => v.b1
  | .b2 => v.b2
  | .b3 => v.b3
  | .b4 => v.b4
  | .b5 => v.b5
  | .b6 => v.b6

/-- The items with that of one port replaced. -/
def PerPort.set {α : Type} (v : PerPort α) (p : Port) (a : α) : PerPort α :=
  match p with
  | .t => { v with t := a }
  | .b1 => { v with b1 := a }
  | .b2 => { v with b2 := a }
  | .b3 => { v with b3 := a }
  | .b4 => { v with b4 := a }
  | .b5 => { v with b5 := a }
  | .b6 => { v with b6 := a }

/-- Every item changed alike. -/
def PerPort.map {α β : Type} (f : α → β) (v : PerPort α) : PerPort β :=
  ⟨f v.t, f v.b1, f v.b2, f v.b3, f v.b4, f v.b5, f v.b6⟩

/-- One item for each bay. -/
structure PerBay (α : Type) where
  b1 : α
  b2 : α
  b3 : α
  b4 : α
  b5 : α
  b6 : α
  deriving DecidableEq, Repr

/-- The same item at every bay. -/
def PerBay.const {α : Type} (a : α) : PerBay α := ⟨a, a, a, a, a, a⟩

/-- The item of a bay. -/
def PerBay.get {α : Type} (v : PerBay α) : Bay → α
  | .b1 => v.b1
  | .b2 => v.b2
  | .b3 => v.b3
  | .b4 => v.b4
  | .b5 => v.b5
  | .b6 => v.b6

/-- The items with that of one bay replaced. -/
def PerBay.set {α : Type} (v : PerBay α) (b : Bay) (a : α) : PerBay α :=
  match b with
  | .b1 => { v with b1 := a }
  | .b2 => { v with b2 := a }
  | .b3 => { v with b3 := a }
  | .b4 => { v with b4 := a }
  | .b5 => { v with b5 := a }
  | .b6 => { v with b6 := a }

/-- One item for each class of frames. -/
structure PerClass (α : Type) where
  request : α
  answer : α
  deriving DecidableEq, Repr

/-- The item of a class. -/
def PerClass.get {α : Type} (v : PerClass α) : FrameClass → α
  | .request => v.request
  | .answer => v.answer

/-- The items with that of one class replaced. -/
def PerClass.set {α : Type} (v : PerClass α) (c : FrameClass) (a : α) : PerClass α :=
  match c with
  | .request => { v with request := a }
  | .answer => { v with answer := a }

/-- The four categories of conditions (R138). -/
inductive Category where
  | port | routing | exchange | inbox
  deriving DecidableEq, Repr

/-- One item for each category. -/
structure PerCategory (α : Type) where
  port : α
  routing : α
  exchange : α
  inbox : α
  deriving DecidableEq, Repr

/-- The item of a category. -/
def PerCategory.get {α : Type} (v : PerCategory α) : Category → α
  | .port => v.port
  | .routing => v.routing
  | .exchange => v.exchange
  | .inbox => v.inbox

/-- The items with that of one category replaced. -/
def PerCategory.set {α : Type} (v : PerCategory α) (c : Category) (a : α) : PerCategory α :=
  match c with
  | .port => { v with port := a }
  | .routing => { v with routing := a }
  | .exchange => { v with exchange := a }
  | .inbox => { v with inbox := a }

/-- A configuration item and its fixed mark (R33, R73, R113, R122, R142). -/
structure Setting (α : Type) where
  value : α
  fixed : Bool
  deriving DecidableEq, Repr

/-! ## Statuses -/

/-- The fourteen statuses of an ANSWER (R9). -/
inductive AnsStatus where
  | good | fault | noRoute | portDown | blocked | loopback | notReady | tableFull | expired | linkLost | cancelled
  | overrun | oversize | stalled
  deriving DecidableEq, Repr

/-- The result status of a response (R191); a host-issued request may also return an ANSWER status (R197). -/
inductive Status where
  | done | busy | notReady | badKind | badLength | badValue | conflict | fixed | noSuch | wrongState | notInLoad
  | answer (a : AnsStatus)
  deriving DecidableEq, Repr

/-! ## Frames (chapter 1) -/

/-- The four kinds of frame (R5). -/
inductive FrameKind where
  | store | fetch | answer | notice
  deriving DecidableEq, Repr

/-- A request-class frame; `τ` is what a FETCH carries as its tag: a byte on arrival, the router tag in a lane, nothing
from M (R7). -/
inductive Request (τ : Type) where
  | store (addr : Word32) (payload : List Byte) (spoiled : Bool)
  | fetch (addr : Word32) (len : Nat) (tag : τ) (spoiled : Bool)
  | notice (target source : Byte) (code : Word16) (payload : List Byte) (spoiled : Bool)
  deriving DecidableEq, Repr

/-- An answer-class frame (R8). -/
structure Answer where
  tag : Byte
  status : AnsStatus
  final : Bool
  payload : List Byte
  spoiled : Bool
  deriving DecidableEq, Repr

/-- The index of an exchange entry, which a FETCH carries beyond the router (R7, R68). -/
abbrev RouterTag := Fin 64

/-- A frame that came in intact (R5). -/
inductive Frame where
  | request (r : Request Byte)
  | answer (a : Answer)
  deriving DecidableEq, Repr

/-- A frame of an answer lane: a forwarded answer or a router-made one (R103). -/
structure LaneAnswer where
  answer : Answer
  routerMade : Bool
  deriving DecidableEq, Repr

/-- A frame of a request lane and the position it came from (R56, R103): a STORE from M counts in no frames dropped (R64). -/
structure LaneRequest where
  request : Request RouterTag
  origin : Origin
  deriving DecidableEq, Repr

/-- A frame being sent (R107). -/
inductive Outbound where
  | request (r : Request RouterTag)
  | answer (a : Answer)
  deriving DecidableEq, Repr

/-! ## Route tables (chapter 2) -/

/-- The directed range (R18). -/
structure Directed where
  base : Word32
  limit : Word32
  target : Bay
  on : Bool
  deriving DecidableEq, Repr

/-- A station range (R19). -/
structure StationRange where
  first : Byte
  last : Byte
  deriving DecidableEq, Repr

/-- A general or bulk window (R19). -/
structure Window where
  base : Word32
  limit : Word32
  deriving DecidableEq, Repr

/-- The two permits of a bay (R19). -/
structure Permits where
  upstream : Bool
  peer : Bool
  deriving DecidableEq, Repr

/-- A bay routing record (R19). -/
structure BayRecord where
  range : Setting StationRange
  general : Setting Window
  bulk : Setting Window
  permits : Setting Permits
  deriving DecidableEq, Repr

/-- The route tables (R18, R19, R20) with their 33 fixed marks (R33). -/
structure RouteTables where
  ownStation : Setting Byte
  directed : Setting Directed
  bays : PerBay BayRecord
  dropSpoiled : PerPort (Setting Bool)
  deriving DecidableEq, Repr

/-- The route tables after any reset (R18, R19, R20, R40). -/
def RouteTables.reset : RouteTables where
  ownStation := ⟨0, false⟩
  directed := ⟨⟨0xFFFFFF00, 0x000000FF, .b1, false⟩, false⟩
  bays := PerBay.const
    { range := ⟨⟨0, 0⟩, false⟩
      general := ⟨⟨0xFFFFF000, 0x00000FFF⟩, false⟩
      bulk := ⟨⟨0xFFF00000, 0x000FFFFF⟩, false⟩
      permits := ⟨⟨false, false⟩, false⟩ }
  dropSpoiled := PerPort.const ⟨false, false⟩

/-! ## Station inbox (chapter 3) -/

/-- A record of the station inbox (R61). -/
structure NoticeRecord where
  source : Byte
  arrival : Origin
  code : Word16
  payload : List Byte
  spoiled : Bool
  deriving DecidableEq, Repr

/-! ## The exchange table (chapter 4) -/

/-- Whose fetch an exchange is: a link port's, with the tag it arrived with, or the host's, which has none (R68). -/
inductive Requester where
  | link (p : Port) (tag : Byte)
  | host
  deriving DecidableEq, Repr

/-- The fields an entry keeps from admission to its end (R68). -/
structure Exchange where
  origin : Requester
  dest : Port
  addr : Word32
  len : Nat
  answered : Nat
  pieces : Nat
  deriving DecidableEq, Repr

/-- Whether the FETCH waits in its lane or has begun to be sent (R77). -/
inductive Issue where
  | queued | sent
  deriving DecidableEq, Repr

/-- Why an exchange ended unanswered (R68). -/
inductive EndCause where
  | expired | cancelled | linkLost | overrun | oversize | stalled
  deriving DecidableEq, Repr

/-- An exchange entry in one of its four states, with the fields R68 names for it; times left in ms. -/
inductive Entry where
  | free
  | opened (x : Exchange) (issue : Issue) (deadline : Nat)
  | orphan (x : Exchange) (issue : Issue) (deadline : Nat)
  | quarantine (x : Exchange) (cause : EndCause) (left : Nat)
  deriving DecidableEq, Repr

/-- The exchange timeout and the quarantine time, in ms (R72). -/
structure ExchangeTimers where
  timeout : Nat
  quarantine : Nat
  deriving DecidableEq, Repr

/-- The exchange table: entries, quotas and timers with their eight fixed marks (R68, R70, R72, R73). -/
structure ExchangeTable where
  entries : Vector Entry 64
  quotas : PerPort (Setting Nat)
  timers : Setting ExchangeTimers
  deriving DecidableEq, Repr

/-- The exchange table after any reset (R70, R72, R99). -/
def ExchangeTable.reset : ExchangeTable where
  entries := Vector.replicate 64 .free
  quotas := (PerPort.const ⟨8, false⟩).set .t ⟨32, false⟩
  timers := ⟨⟨50, 50⟩, false⟩

/-- The host fetch buffer; the bytes gathered are the data's length (R92). -/
inductive HostFetch where
  | empty
  | gathering (tag : RouterTag) (len : Nat) (data : List Byte)
  | holding (tag : RouterTag) (len : Nat) (data : List Byte) (status : AnsStatus)
  deriving DecidableEq, Repr

/-! ## One port: link, buffers, lanes, credits, counters (chapters 5, 6, 7) -/

/-- The partner kinds of a greeting (R125). -/
inductive PartnerKind where
  | module | router | controller
  deriving DecidableEq, Repr

/-- The values of an accepted greeting (R120, R125). -/
structure Greeting where
  kind : PartnerKind
  capability : Nat
  requestCredits : Nat
  answerCredits : Nat
  deriving DecidableEq, Repr

/-- A training attempt in progress (R124): ms left of its 2, whether the router has sent a greeting in it, the partner
greeting kept, whether an accept has come. -/
structure Attempt where
  left : Nat
  greeted : Bool
  kept : Option Greeting
  accepted : Bool
  deriving DecidableEq, Repr

/-- The six link states (R119) with what belongs to each: the time left of a quiet interval still running (R123), the attempt
(R124), the effective max payload (R120). -/
inductive Link where
  | disabled
  | down (quiet : Option Nat)
  | training (a : Attempt)
  | up (effectiveMax : Nat)
  | held
  | failed
  deriving DecidableEq, Repr

/-- Last down causes (R120). -/
inductive DownCause where
  | loss | budget | greeting | hold | disable
  deriving DecidableEq, Repr

/-- Last failure causes (R120). -/
inductive FailCause where
  | timeout | badGreeting
  deriving DecidableEq, Repr

/-- The values SET LINK writes (R121). -/
structure LinkSettings where
  enable : Bool
  max : Nat
  deriving DecidableEq, Repr

/-- What a request-class head waits for, with the ms left of its stall timer (R43, R111). -/
inductive RequestWait where
  /-- AWAIT LANE for the request lane of the decided target. -/
  | lane (target : Port) (left : Nat)
  /-- AWAIT ANSWER SLOT: the refused FETCH's router-made answer, of this status, wants a slot of the port's own lane. -/
  | answerSlot (status : AnsStatus) (left : Nat)
  deriving DecidableEq, Repr

/-- The counters of a port (R151). -/
structure Counters where
  received : Word32
  sent : Word32
  dropped : Word32
  damaged : Word32
  routerMade : Word32
  deriving DecidableEq, Repr

/-- Everything one link port holds. -/
structure PortState where
  /-- Link state (R119). -/
  link : Link
  /-- Enable and configured max payload, with the settings fixed mark (R120, R122). -/
  settings : Setting LinkSettings
  /-- Attempt count (R120). -/
  attempts : Nat
  /-- Offered max (R120). -/
  offered : Option Nat
  /-- Greeting record (R120). -/
  greeting : Option Greeting
  /-- Damaged window: ms left of each damaged frame's 10, oldest first (R129). -/
  window : List Nat
  /-- Last down cause (R120). -/
  downCause : Option DownCause
  /-- Last failure cause (R120). -/
  failCause : Option FailCause
  /-- Request class, oldest first (R100). -/
  requests : List (Request Byte)
  /-- What the request class's head waits for (R43). -/
  requestWait : Option RequestWait
  /-- Answer class, oldest first (R100). -/
  answers : List Answer
  /-- AWAIT MATCH: ms left of the answer class's stall timer while its head waits (R43, R111). -/
  answerWait : Option Nat
  /-- Granted counts (R101). -/
  granted : PerClass Nat
  /-- Credit returns owed to the partner and not yet sent (R102). -/
  owed : PerClass Nat
  /-- Request lane, head first (R103). -/
  requestLane : List LaneRequest
  /-- Answer lane, head first (R103). -/
  answerLane : List LaneAnswer
  /-- Partner credit counts (R105). -/
  partner : PerClass Nat
  /-- Round-robin pointers of the two lanes' arbiters (R108). -/
  pointer : PerClass Origin
  /-- The frame being sent (R106, R107). -/
  sending : Option Outbound
  /-- The port's counters (R151). -/
  counters : Counters
  deriving DecidableEq, Repr

/-- Every counter of a port at 0. -/
def Counters.zero : Counters := ⟨0, 0, 0, 0, 0⟩

/-- A port after any reset: R118, R120, R137, R154. -/
def PortState.reset : PortState where
  link := .down (some Config.quietTime)
  settings := ⟨⟨true, 256⟩, false⟩
  attempts := 0
  offered := none
  greeting := none
  window := []
  downCause := none
  failCause := none
  requests := []
  requestWait := none
  answers := []
  answerWait := none
  granted := ⟨0, 0⟩
  owed := ⟨0, 0⟩
  requestLane := []
  answerLane := []
  partner := ⟨0, 0⟩
  pointer := ⟨.link .t, .link .t⟩
  sending := none
  counters := Counters.zero

/-! ## Conditions, captures and counters (chapter 7) -/

/-- The twenty-one conditions, in the order of R138. -/
inductive Condition where
  | linkUp | linkDown | linkFailed | malformed | loadFailed
  | noRoute | straddle | blocked | loopback | oversize | stallDrop | notReadyDrop | spoiled
  | tableFull | quotaRefused | expired | strayAnswer | lateAnswer | overrun
  | inboxArrival | inboxOverflow
  deriving DecidableEq, Repr

/-- Which of the nine condition sets (R139): a port's or M's, or the router-wide one. -/
inductive SetId where
  | origin (o : Origin)
  | router
  deriving DecidableEq, Repr

/-- The nine condition sets (R139); each lists its latched names in the order of R138. -/
structure ConditionSets where
  ports : PerPort (List Condition)
  host : List Condition
  router : List Condition
  deriving DecidableEq, Repr

/-- The enable and the masked names of one category, the names in the order of R138 (R142). -/
structure Reporting where
  enable : Bool
  masked : List Condition
  deriving DecidableEq, Repr

/-- The fields of the frame or entry a ROUTING or EXCHANGE condition is about (R44, R147). -/
inductive Subject where
  | store (addr : Word32) (len : Nat) (spoiled : Bool)
  | fetch (addr : Word32) (len : Nat) (tag : Option Byte) (spoiled : Bool)
  | notice (target : Byte) (len : Nat) (spoiled : Bool)
  | answer (tag : Byte) (len : Nat) (originTag : Option Byte) (spoiled : Bool)
  deriving DecidableEq, Repr

/-- A FULL capture record (R147). -/
structure Capture where
  origin : Origin
  condition : Condition
  subject : Subject
  later : Nat
  deriving DecidableEq, Repr

/-- The router-wide counters (R152). -/
structure RouterCounters where
  framingErrors : Word32
  busyAnswers : Word32
  discarded : Word32
  inboxDrops : Word32
  deriving DecidableEq, Repr

/-- The condition unit (R139, R142, R147, R152). A capture record is none when EMPTY. -/
structure ConditionUnit where
  sets : ConditionSets
  reporting : PerCategory (Setting Reporting)
  routingCapture : Option Capture
  exchangeCapture : Option Capture
  counters : RouterCounters
  deriving DecidableEq, Repr

/-- The reporting settings after any reset (R142). -/
def reportingReset : PerCategory (Setting Reporting) :=
  ⟨⟨⟨false, []⟩, false⟩, ⟨⟨false, []⟩, false⟩, ⟨⟨false, []⟩, false⟩, ⟨⟨false, []⟩, false⟩⟩

/-- The condition unit after power-on (R154). -/
def ConditionUnit.reset : ConditionUnit where
  sets := ⟨PerPort.const [], [], []⟩
  reporting := reportingReset
  routingCapture := none
  exchangeCapture := none
  counters := ⟨0, 0, 0, 0⟩

/-! ## Notification unit (chapter 8) -/

/-- A stream that exists (R156). -/
structure Stream where
  masked : Bool
  awaiting : Bool
  deriving DecidableEq, Repr

/-- The notification unit; the granted stream count is the number of streams (R156). -/
structure NotificationUnit where
  streams : List Stream
  countFixed : Bool
  marks : PerCategory Bool
  deriving DecidableEq, Repr

/-- The notification unit after any reset (R156). -/
def NotificationUnit.reset : NotificationUnit where
  streams := []
  countFixed := false
  marks := ⟨false, false, false, false⟩

/-! ## Start-up loader (chapter 9) -/

/-- A record of a load image: its flag byte and its command body, kind first (R199). -/
structure LoadRecord where
  flag : Byte
  body : List Byte
  deriving DecidableEq, Repr

/-- The outcome of a load (R177). -/
inductive LoadOutcome where
  | absent | good | partly | badImage
  deriving DecidableEq, Repr

/-- How far START has gone: the image is being read (R172), records are being replayed, `next` the index of the first of
those left (R173), or RESTARTED is offered with this outcome (R176); the report shows no outcome before START ends (R179). -/
inductive LoadPhase where
  | reading
  | replaying (next : Nat) (records : List LoadRecord)
  | offering (outcome : LoadOutcome)
  deriving DecidableEq, Repr

/-- The router state (R166). -/
inductive RouterState where
  | start (phase : LoadPhase)
  | configuring
  | forwarding
  deriving DecidableEq, Repr

/-- What began a START (R177). -/
inductive ResetCause where
  | powerOn | trunkReset | commandReset
  deriving DecidableEq, Repr

/-- The load report (R179). The lost host fetch is its router tag and whether the buffer was HOLDING (R177). -/
structure LoadReport where
  cause : ResetCause
  outcome : Option LoadOutcome
  executed : Nat
  refused : Nat
  firstRefused : Option (Nat × Status)
  lostFetch : Option (RouterTag × Bool)
  deriving DecidableEq, Repr

/-- The start-up loader (R166, R175, R179). -/
structure Loader where
  state : RouterState
  pendingOpen : Bool
  report : LoadReport
  deriving DecidableEq, Repr

/-- The loader as START begins (R171). -/
def Loader.begin (cause : ResetCause) (lost : Option (RouterTag × Bool)) : Loader where
  state := .start .reading
  pendingOpen := false
  report := { cause, outcome := none, executed := 0, refused := 0, firstRefused := none, lostFetch := lost }

/-! ## Management link (chapter 10) -/

/-- The state of an entry, without its fields (R68). -/
inductive EntryState where
  | free | opened | orphan | quarantine
  deriving DecidableEq, Repr

/-- What a decision reached, as PROBE ROUTE reports it (R39). -/
inductive ProbeOutcome where
  | place | inbox | refuse | drop
  deriving DecidableEq, Repr

/-- What claimed the first point of a span, or a station (R39). -/
inductive Claim where
  | directed
  | general (b : Bay)
  | bulk (b : Bay)
  | range (b : Bay)
  | ownStation
  | byDefault
  | nothing
  deriving DecidableEq, Repr

/-- The decision record of PROBE ROUTE (R39). -/
structure ProbeReport where
  outcome : ProbeOutcome
  claim : Claim
  target : Option Port
  effectiveMax : Option Nat
  status : Option AnsStatus
  condition : Option Condition
  deriving DecidableEq, Repr

/-- The summary of LIST EXCHANGES (R98). -/
structure ExchangeSummary where
  freeCount : Nat
  activePorts : PerPort Nat
  activeM : Nat
  quotas : PerPort (Setting Nat)
  timers : Setting ExchangeTimers
  hostFetch : HostFetch
  deriving DecidableEq, Repr

/-- The waiting states READ LANES names (R117). -/
inductive WaitState where
  | idle | awaitLane | awaitAnswerSlot | awaitMatch
  deriving DecidableEq, Repr

/-- The values of READ LANES (R117). -/
structure LanesReport where
  requestsHeld : Nat
  answersHeld : Nat
  requestWait : WaitState
  answerWait : WaitState
  requestStall : Option Nat
  answerStall : Option Nat
  granted : PerClass Nat
  requestLane : Nat
  answerLane : Nat
  forwarded : Nat
  partner : PerClass Nat
  pointer : PerClass Origin
  stallLimit : Setting Nat
  deriving DecidableEq, Repr

/-- The six link states by name (R119). -/
inductive LinkName where
  | disabled | down | training | up | held | failed
  deriving DecidableEq, Repr

/-- The values of READ LINK (R136). -/
structure LinkReport where
  state : LinkName
  settings : Setting LinkSettings
  offered : Option Nat
  attempts : Nat
  greeting : Option Greeting
  effectiveMax : Option Nat
  windowCount : Nat
  downCause : Option DownCause
  failCause : Option FailCause
  deriving DecidableEq, Repr

/-- One stream of a stream report (R164). -/
structure StreamLine where
  categories : List Category
  masked : Bool
  awaiting : Bool
  pending : Bool
  deriving DecidableEq, Repr

/-- The stream report (R164). -/
structure StreamReport where
  countFixed : Bool
  marks : PerCategory Bool
  streams : List StreamLine
  deriving DecidableEq, Repr

/-- The router states by name (R166). -/
inductive RouterStateName where
  | start | configuring | forwarding
  deriving DecidableEq, Repr

/-- The values a response carries after DONE, by command. -/
inductive Values where
  | empty
  /-- READ ROUTES of a bay: its record and its port's drop-spoiled setting (R37). -/
  | routesBay (r : BayRecord) (drop : Setting Bool)
  /-- READ ROUTES of T (R37). -/
  | routesT (drop : Setting Bool)
  /-- READ ROUTES of the router-wide part (R37). -/
  | routesRouter (own : Setting Byte) (directed : Setting Directed)
  /-- PROBE ROUTE (R39). -/
  | probe (r : ProbeReport)
  /-- READ INBOX (R63). -/
  | notices (records : List NoticeRecord)
  /-- ISSUE STORE: the target port (R64). -/
  | target (p : Port)
  /-- SEND NOTICE: arrival INBOX, or the target port (R66). -/
  | noticeWent (target : Option Port)
  /-- CANCEL EXCHANGE: the previous state and the origin port (R89). -/
  | cancelled (previous : EntryState) (origin : Origin)
  /-- ISSUE FETCH: the router tag and the destination port (R93). -/
  | fetchIssued (tag : RouterTag) (dest : Port)
  /-- LIST EXCHANGES (R98). -/
  | exchanges (summary : ExchangeSummary) (records : List (RouterTag × Entry))
  /-- READ LANES (R117). -/
  | lanes (r : LanesReport)
  /-- SET LINK: the link state after the command (R121). -/
  | linkState (s : LinkName)
  /-- READ LINK (R136). -/
  | link (r : LinkReport)
  /-- READ CONDITIONS (R145). -/
  | conditions (names : List Condition) (reporting : PerCategory (Setting Reporting))
  /-- CLEAR CONDITIONS: the names cleared (R146). -/
  | names (cleared : List Condition)
  /-- READ CAPTURE (R149). -/
  | capture (c : Option Capture)
  /-- RELEASE CAPTURE: the later-fault count, when it was FULL (R150). -/
  | released (later : Option Nat)
  /-- READ COUNTERS of a port (R153). -/
  | counters (c : Counters)
  /-- READ COUNTERS of the router-wide group (R153). -/
  | routerCounters (c : RouterCounters)
  /-- The commands of chapter 8 (R164). -/
  | streams (r : StreamReport)
  /-- READ LOAD REPORT (R179). -/
  | loadReport (s : RouterStateName) (r : LoadReport)
  /-- IDENTIFY (R192). -/
  | identity
  /-- ECHO (R193). -/
  | echoed (b : List Byte)
  deriving DecidableEq, Repr

/-- What an outgoing message says (R195): a response, or an unsolicited message's fields. -/
inductive Body where
  | response (status : Status) (values : Values)
  /-- NOTIFY (R160). -/
  | notify (count : Nat) (stream : Fin 4) (categories : List Category)
  /-- FETCH DONE (R97). -/
  | fetchDone (tag : RouterTag) (status : AnsStatus) (data : List Byte)
  /-- RESTARTED: the load report and the router state entered (R177). -/
  | restarted (report : LoadReport) (state : RouterStateName)
  deriving DecidableEq, Repr

/-- A message of the outgoing queue: kind, sequence and the rest of its body (R195). -/
structure OutMessage where
  kind : Byte
  seq : Byte
  body : Body
  deriving DecidableEq, Repr

/-- A message of the receive queue: its kind and the rest (R185). -/
structure Message where
  kind : Byte
  msg : HostMsg
  deriving DecidableEq, Repr

/-- How far a command in progress has gone (R188): the head of a host-issued request holds AWAIT LANE, with the ms left of M's
stall timer (R65), or the outcome is decided and the response waits for a place. The response of ACK NOTIFY or UNMASK STREAM waits
so too, when the NOTIFY it released took the last place (R161, R162, R163). -/
inductive Stage where
  | awaitLane (head : Request Unit) (target : Port) (left : Nat)
  | answered (response : OutMessage)
  deriving DecidableEq, Repr

/-- The command in progress (R186, R188). -/
structure Running where
  command : Message
  stage : Stage
  deriving DecidableEq, Repr

/-- The last response memory's contents (R187). -/
structure LastResponse where
  seq : Byte
  check : Word16
  response : OutMessage
  deriving DecidableEq, Repr

/-- A message that waits for a place in the outgoing queue (R189). -/
inductive Waiter where
  /-- The response of the command in progress, or of the one at the head of the receive queue. -/
  | response
  | fetchDone
  | notify (stream : Fin 4)
  | restarted
  deriving DecidableEq, Repr

/-- The line rates (R182). -/
inductive LineRate where
  | r115200 | r230400 | r460800 | r921600
  deriving DecidableEq, Repr

/-- The line rate the strap pins select (R182). -/
def lineRate (rate1 rate0 : Bool) : LineRate :=
  match rate1, rate0 with
  | false, false => .r115200
  | false, true => .r230400
  | true, false => .r460800
  | true, true => .r921600

/-- A message being gathered: the bytes taken since the start byte (R183), and the ms left of the 5 in which the next byte must
follow (R184). -/
structure Gathering where
  taken : List Byte
  left : Nat
  deriving DecidableEq, Repr

/-- The management link (R182 to R190). -/
structure ManagementLink where
  rate : LineRate
  /-- The receiver: none while hunting, else the message being gathered (R183, R184). -/
  gathered : Option Gathering
  /-- Receive queue, oldest first (R185). -/
  receiveQueue : List Message
  /-- The command in progress (R186). -/
  running : Option Running
  /-- Outgoing queue, oldest first (R189). -/
  outgoing : List OutMessage
  /-- Waiting messages, those that began to wait together in one group, oldest group first (R189). -/
  waiting : List (List Waiter)
  /-- Last response memory (R187). -/
  last : Option LastResponse
  /-- Unsolicited sequence counter (R190). -/
  unsolicited : Byte
  deriving DecidableEq, Repr

/-- The management link after power-on with these straps (R182, R194). -/
def ManagementLink.reset (rate1 rate0 : Bool) : ManagementLink where
  rate := lineRate rate1 rate0
  gathered := none
  receiveQueue := []
  running := none
  outgoing := []
  waiting := []
  last := none
  unsolicited := 0

/-! ## Pins, wires, the whole state -/

/-- The levels the outside drives: PORN (high is true), the straps, the partner signal of each port. -/
structure Pins where
  porn : Bool
  rate1 : Bool
  rate0 : Bool
  signal : PerPort Bool
  deriving DecidableEq, Repr

/-- What the router puts on its wires. -/
inductive Emission where
  /-- A frame sent whole: its class and its bytes (R198). -/
  | frame (p : Port) (c : FrameClass) (bytes : List Byte)
  | creditReturn (p : Port) (c : FrameClass)
  /-- A greeting's bytes after its symbol (R198). -/
  | greeting (p : Port) (bytes : List Byte)
  | accept (p : Port)
  | resetSymbol (p : Port)
  /-- A message's bytes on TXD (R195). -/
  | message (bytes : List Byte)
  /-- The loader's first read: device address and offset (R172). -/
  | memoryRead (device : Byte) (offset : Nat)
  deriving DecidableEq, Repr

/-- The state of the router. -/
structure State where
  /-- The commands that wait to be taken, first in, first out: the model's own. -/
  pending : List Instr
  pins : Pins
  routes : RouteTables
  inbox : List NoticeRecord
  exchange : ExchangeTable
  hostFetch : HostFetch
  ports : PerPort PortState
  /-- The stall limit, in ms (R113). -/
  stallLimit : Setting Nat
  conditions : ConditionUnit
  notification : NotificationUnit
  loader : Loader
  management : ManagementLink
  /-- All that was put on the wires, oldest first: the model's own; no rule of the router reads it. Levels that last, a quiet
  transmitter and the idle signal, are no entries: PortState.transmitter gives them (R119). -/
  wire : List Emission
  deriving DecidableEq, Repr

/-- The state right after a power-on reset with both straps low and no partner signal: START with cause POWER-ON, the loader
about to read the image (R168, R171, and the chapters' own after-reset rules). -/
def State.reset : State where
  pending := []
  pins := ⟨true, false, false, PerPort.const false⟩
  routes := RouteTables.reset
  inbox := []
  exchange := ExchangeTable.reset
  hostFetch := .empty
  ports := PerPort.const PortState.reset
  stallLimit := ⟨10, false⟩
  conditions := ConditionUnit.reset
  notification := NotificationUnit.reset
  loader := Loader.begin .powerOn none
  management := ManagementLink.reset false false
  wire := []

end Sys2Proof.Machine
end

