-- ==== Sys2Proof/Machine/Ops.lean ====
section
/-! DEFINITION. The named operations over the parts of State: ports, classes, lanes, credits, counters, entries, the clock and
the wires. A block that has no exception entry takes none; the three resets stand in Machine/Resets.lean. -/

namespace Sys2Proof

/-- The port of a bay. -/
def Bay.port : Bay → Port
  | .b1 => .b1
  | .b2 => .b2
  | .b3 => .b3
  | .b4 => .b4
  | .b5 => .b5
  | .b6 => .b6

/-- The bay of a port; T is none. -/
def Port.bay? : Port → Option Bay
  | .t => none
  | .b1 => some .b1
  | .b2 => some .b2
  | .b3 => some .b3
  | .b4 => some .b4
  | .b5 => some .b5
  | .b6 => some .b6

/-- The ports, T first (R1). -/
def Port.all : List Port := [.t, .b1, .b2, .b3, .b4, .b5, .b6]

/-- The bays. -/
def Bay.all : List Bay := [.b1, .b2, .b3, .b4, .b5, .b6]

/-- The arbiters' cycle T, B1 to B6, M (R108). -/
def Origin.cycle : List Origin :=
  [.link .t, .link .b1, .link .b2, .link .b3, .link .b4, .link .b5, .link .b6, .m]

/-- The positions in cycle order, beginning with the one after `o` and wrapping from M to T (R109). -/
def Origin.after (o : Origin) : List Origin :=
  let k := Origin.cycle.idxOf o + 1
  Origin.cycle.drop k ++ Origin.cycle.take k

end Sys2Proof

namespace Sys2Proof.Machine

/-! ## Ports -/

/-- The link is UP (R119). -/
def Link.isUp : Link → Bool
  | .up _ => true
  | _ => false

/-- The effective max payload, present while UP (R120). -/
def Link.effectiveMax : Link → Option Nat
  | .up m => some m
  | _ => none

/-- What a transmitter does (R119): it is quiet, drives the idle signal, sends greeting and accept symbols, or sends a frame. -/
inductive Transmitter where
  | quiet | idle | training | frame
  deriving DecidableEq, Repr

/-- What the transmitter of a port does, by its link state: quiet in DISABLED, HELD, FAILED and in the quiet interval of DOWN; the
idle signal in DOWN from then on; greetings and accepts in TRAINING; in UP a frame being sent, else the idle signal (R119, R123). -/
def PortState.transmitter (x : PortState) : Transmitter :=
  match x.link with
  | .disabled => .quiet
  | .down (some _) => .quiet
  | .down none => .idle
  | .training _ => .training
  | .up _ => if x.sending.isSome then .frame else .idle
  | .held => .quiet
  | .failed => .quiet

/-- The router drives the line of a port: the partner at its other end sees the router's signal (R119, R123). -/
def PortState.drives (x : PortState) : Bool := x.transmitter != .quiet

/-- What a port holds. -/
def State.port (s : State) (p : Port) : PortState := s.ports.get p

/-- A port changed by `f`. -/
def State.modPort (p : Port) (f : PortState → PortState) (s : State) : State :=
  { s with ports := s.ports.set p (f (s.port p)) }

/-- The port's link is UP. -/
def State.isUp (s : State) (p : Port) : Bool := (s.port p).link.isUp

/-- Counters with one more frame received (R151). -/
def Counters.addReceived (c : Counters) : Counters := { c with received := c.received + 1 }
/-- Counters with one more frame sent (R151). -/
def Counters.addSent (c : Counters) : Counters := { c with sent := c.sent + 1 }
/-- Counters with one more frame dropped (R151). -/
def Counters.addDropped (c : Counters) : Counters := { c with dropped := c.dropped + 1 }
/-- Counters with one more damaged frame (R151). -/
def Counters.addDamaged (c : Counters) : Counters := { c with damaged := c.damaged + 1 }
/-- Counters with one more router-made answer sent (R151). -/
def Counters.addRouterMade (c : Counters) : Counters := { c with routerMade := c.routerMade + 1 }

/-- A port's counters changed by `f`. -/
def PortState.count (f : Counters → Counters) (x : PortState) : PortState := { x with counters := f x.counters }

/-- A credit return of a class is owed to the partner, while the link is UP (R102). -/
def PortState.oweCredit (c : FrameClass) (x : PortState) : PortState :=
  if x.link.isUp then { x with owed := x.owed.set c (x.owed.get c + 1) } else x

/-- The request head leaves its class, and a credit return is owed for it (R102). -/
def PortState.popRequest (x : PortState) : PortState :=
  PortState.oweCredit .request { x with requests := x.requests.tail, requestWait := none }

/-- The answer head leaves its class, and a credit return is owed for it (R102). -/
def PortState.popAnswer (x : PortState) : PortState :=
  PortState.oweCredit .answer { x with answers := x.answers.tail, answerWait := none }

/-- The request head leaves its class as dropped (R43). -/
def State.dropRequest (p : Port) (s : State) : State :=
  s.modPort p fun x => x.popRequest.count Counters.addDropped

/-- The answer head is discarded: it leaves its class and counts as dropped (R43, chapter 4 section 4.4). -/
def State.dropAnswer (p : Port) (s : State) : State :=
  s.modPort p fun x => x.popAnswer.count Counters.addDropped

/-! ## Lanes (R103) -/

/-- Forwarded answers in an answer lane (R104). -/
def forwardedCount (lane : List LaneAnswer) : Nat := (lane.filter fun a => !a.routerMade).length

/-- The frame counts in frames dropped when it is emptied from the lane (R114); only a STORE from M does not (R64). The last exception of
R151 is read as the head's, not the lane's (log 32). -/
def LaneRequest.countsEmptied (r : LaneRequest) : Bool :=
  match r.origin, r.request with
  | .m, .store _ _ _ => false
  | _, _ => true

/-- A frame enters the tail of a request lane. -/
def PortState.pushRequest (r : LaneRequest) (x : PortState) : PortState :=
  { x with requestLane := x.requestLane ++ [r] }

/-- A frame enters the tail of an answer lane. -/
def PortState.pushAnswer (a : LaneAnswer) (x : PortState) : PortState := { x with answerLane := x.answerLane ++ [a] }

/-- A lane of an UP link has room for a request: fewer than 12 frames (R103, R108). -/
def PortState.requestRoom (x : PortState) : Bool := x.link.isUp && x.requestLane.length < Config.requestLaneSize

/-- An answer lane of an UP link has room for a router-made answer: fewer than 8 frames (R103, R108). -/
def PortState.routerMadeRoom (x : PortState) : Bool := x.link.isUp && x.answerLane.length < Config.answerLaneSize

/-- An answer lane of an UP link has room for a forwarded answer: fewer than 8 frames, fewer than 6 of them forwarded
(R82, R103, R108). -/
def PortState.forwardedRoom (x : PortState) : Bool :=
  x.routerMadeRoom && forwardedCount x.answerLane < Config.forwardedMax

/-- The arbiter's pointer of a lane is set to a position (R109). -/
def State.setPointer (p : Port) (c : FrameClass) (o : Origin) (s : State) : State :=
  s.modPort p fun x => { x with pointer := x.pointer.set c o }

/-- A router-made answer: final, no payload, not spoiled (R13). -/
def routerMadeAnswer (tag : Byte) (status : AnsStatus) : LaneAnswer :=
  { answer := { tag, status, final := true, payload := [], spoiled := false }, routerMade := true }

/-! ## Requests -/

/-- The same frame with another tag on a FETCH; no other field changes (R12). -/
def Request.retag {τ σ : Type} (tag : σ) : Request τ → Request σ
  | .store a d sp => .store a d sp
  | .fetch a n _ sp => .fetch a n tag sp
  | .notice dst src c d sp => .notice dst src c d sp

/-- The spoiled flag of a request-class frame (R11). -/
def Request.spoiled {τ : Type} : Request τ → Bool
  | .store _ _ sp => sp
  | .fetch _ _ _ sp => sp
  | .notice _ _ _ _ sp => sp

/-! ## Exchange entries -/

/-- The entry of a router tag. -/
def State.entry (s : State) (i : RouterTag) : Entry := s.exchange.entries[i]

/-- An entry replaced. -/
def State.setEntry (i : RouterTag) (e : Entry) (s : State) : State :=
  { s with exchange := { s.exchange with entries := s.exchange.entries.set i e } }

/-! ## Wires and clock -/

/-- Something goes out on a wire. -/
def State.emit (e : Emission) (s : State) : State := { s with wire := s.wire ++ [e] }

/-- An entry `n` ms later (R85, R86). -/
def Entry.elapse (n : Nat) : Entry → Entry
  | .free => .free
  | .opened x i d => .opened x i (d - n)
  | .orphan x i d => .orphan x i (d - n)
  | .quarantine x c l => .quarantine x c (l - n)

/-- A waiting request head `n` ms later (R111). -/
def RequestWait.elapse (n : Nat) : RequestWait → RequestWait
  | .lane p l => .lane p (l - n)
  | .answerSlot st l => .answerSlot st (l - n)

/-- A link `n` ms later: its quiet interval and its attempt run on (R123, R124). -/
def Link.elapse (n : Nat) : Link → Link
  | .disabled => .disabled
  | .down q => .down (q.map (· - n))
  | .training a => .training { a with left := a.left - n }
  | .up m => .up m
  | .held => .held
  | .failed => .failed

/-- A port `n` ms later. -/
def PortState.elapse (n : Nat) (x : PortState) : PortState :=
  { x with
    link := x.link.elapse n
    window := x.window.map (· - n)
    requestWait := x.requestWait.map (RequestWait.elapse n)
    answerWait := x.answerWait.map (· - n) }

/-- A command in progress `n` ms later: M's stall timer runs on (R65). -/
def Running.elapse (n : Nat) (r : Running) : Running :=
  match r.stage with
  | .awaitLane h p l => { r with stage := .awaitLane h p (l - n) }
  | .answered _ => r

/-- A message being gathered `n` ms later: it is abandoned, its bytes discarded, once more than 5 ms have passed since its last
byte (R184). -/
def Gathering.elapse (n : Nat) (g : Gathering) : Option Gathering := if n ≤ g.left then some { g with left := g.left - n } else none

/-- The management link `n` ms later: M's stall timer and the byte gap of the receiver run on. -/
def ManagementLink.elapse (n : Nat) (m : ManagementLink) : ManagementLink :=
  { m with
    gathered := m.gathered.bind (Gathering.elapse n)
    running := m.running.map (Running.elapse n) }

/-- Every running countdown `n` ms later; none goes below 0. -/
def State.elapse (n : Nat) (s : State) : State :=
  { s with
    ports := s.ports.map (PortState.elapse n)
    exchange := { s.exchange with entries := s.exchange.entries.map (Entry.elapse n) }
    management := s.management.elapse n }

/-- The step on an empty queue: one millisecond passes, every running countdown goes down by one, and nothing else happens;
while PORN is low not even that (R168; log 4). -/
def State.tick (s : State) : State := if s.pins.porn then s.elapse 1 else s

end Sys2Proof.Machine
end

