-- ==== Sys2Proof/Machine/Flags.lean ====
section
/-! DEFINITION. The condition unit's flags: which condition belongs where (R138, R139), latching and reporting (R140, R141), and
the capture records (R147, R148). -/

namespace Sys2Proof.Machine

/-- The conditions in the order of R138. -/
def Condition.all : List Condition :=
  [.linkUp, .linkDown, .linkFailed, .malformed, .loadFailed, .noRoute, .straddle, .blocked, .loopback, .oversize, .stallDrop,
    .notReadyDrop, .spoiled, .tableFull, .quotaRefused, .expired, .strayAnswer, .lateAnswer, .overrun, .inboxArrival,
    .inboxOverflow]

/-- The category of a condition (R138). -/
def Condition.category : Condition → Category
  | .linkUp => .port
  | .linkDown => .port
  | .linkFailed => .port
  | .malformed => .port
  | .loadFailed => .port
  | .noRoute => .routing
  | .straddle => .routing
  | .blocked => .routing
  | .loopback => .routing
  | .oversize => .routing
  | .stallDrop => .routing
  | .notReadyDrop => .routing
  | .spoiled => .routing
  | .tableFull => .exchange
  | .quotaRefused => .exchange
  | .expired => .exchange
  | .strayAnswer => .exchange
  | .lateAnswer => .exchange
  | .overrun => .exchange
  | .inboxArrival => .inbox
  | .inboxOverflow => .inbox

/-- The sticky conditions (R144). -/
def Condition.sticky : Condition → Bool
  | .linkFailed => true
  | .malformed => true
  | .loadFailed => true
  | .spoiled => true
  | _ => false

/-- The names a set may hold (R139). -/
def SetId.mayHold : SetId → Condition → Bool
  | .origin (.link _), c => (c.category == .port && c != .loadFailed) || c.category == .routing || c.category == .exchange
  | .origin .m, c => c.category == .routing || c.category == .exchange
  | .router, c => c == .loadFailed || c.category == .inbox

/-- A condition set (R139). -/
def ConditionSets.get (k : ConditionSets) : SetId → List Condition
  | .origin (.link p) => k.ports.get p
  | .origin .m => k.host
  | .router => k.router

/-- A condition set replaced. -/
def ConditionSets.set (k : ConditionSets) (i : SetId) (names : List Condition) : ConditionSets :=
  match i with
  | .origin (.link p) => { k with ports := k.ports.set p names }
  | .origin .m => { k with host := names }
  | .router => { k with router := names }

/-- The names of a list, each once, in the order of R138. -/
def inOrder (names : List Condition) : List Condition := Condition.all.filter fun c => names.contains c

/-- The names latched in a set. -/
def State.latched (s : State) (i : SetId) : List Condition := s.conditions.sets.get i

/-- A set holds these names. -/
def State.setLatched (i : SetId) (names : List Condition) (s : State) : State :=
  { s with conditions := { s.conditions with sets := s.conditions.sets.set i names } }

/-- The unreported mark of a category is set (R157). -/
def State.mark (c : Category) (s : State) : State :=
  { s with notification := { s.notification with marks := s.notification.marks.set c true } }

/-- The second and third test of R141: the category is enabled and the name is not masked. -/
def State.reports (s : State) (c : Condition) : Bool :=
  let r := (s.conditions.reporting.get c.category).value
  r.enable && !r.masked.contains c

/-- A detection of a condition latches it in its set, and is reported when it took the name from clear to latched and the
settings allow (R140, R141). -/
def State.latch (i : SetId) (c : Condition) (s : State) : State :=
  let old := s.latched i
  let s₁ := s.setLatched i (inOrder (c :: old))
  if !old.contains c && s.reports c then s₁.mark c.category else s₁

/-- A capture record after a detection of its category (R148). -/
def captured (old : Option Capture) (o : Origin) (c : Condition) (x : Subject) : Option Capture :=
  match old with
  | none => some { origin := o, condition := c, subject := x, later := 0 }
  | some k => some { k with later := min (k.later + 1) Config.laterMax }

/-- A detection reaches the capture record of its category (R148). PORT and INBOX conditions have none. -/
def State.fillCapture (o : Origin) (c : Condition) (x : Subject) (s : State) : State :=
  match c.category with
  | .routing => { s with conditions := { s.conditions with routingCapture := captured s.conditions.routingCapture o c x } }
  | .exchange => { s with conditions := { s.conditions with exchangeCapture := captured s.conditions.exchangeCapture o c x } }
  | .port => s
  | .inbox => s

/-- A detection of a ROUTING or EXCHANGE condition at a port or M, with the fields of its frame or entry (R44, R140). -/
def State.detect (o : Origin) (c : Condition) (x : Subject) (s : State) : State :=
  (s.latch (.origin o) c).fillCapture o c x

/-- The fields of a request from a link, as handed to the condition unit (R44, R147). -/
def Request.subject : Request Byte → Subject
  | .store a d sp => .store a d.length sp
  | .fetch a n t sp => .fetch a n (some t) sp
  | .notice t _ _ d sp => .notice t d.length sp

/-- The fields of a request from M; its FETCH has no origin tag (R147). -/
def Request.hostSubject : Request Unit → Subject
  | .store a d sp => .store a d.length sp
  | .fetch a n _ sp => .fetch a n none sp
  | .notice t _ _ d sp => .notice t d.length sp

/-- The origin tag of an exchange, when its origin is a link port (R68). -/
def Requester.tag? : Requester → Option Byte
  | .link _ tag => some tag
  | .host => none

/-- The origin of an exchange (R68). -/
def Requester.origin : Requester → Origin
  | .link p _ => .link p
  | .host => .m

/-- The exchange an entry records, in any state but FREE (R68). -/
def Entry.exchange? : Entry → Option Exchange
  | .free => none
  | .opened x _ _ => some x
  | .orphan x _ _ => some x
  | .quarantine x _ _ => some x

/-- The fields of an answer, with the origin tag of the entry looked up, when it holds one (R147). -/
def Answer.subject (a : Answer) (e : Entry) : Subject :=
  .answer a.tag a.payload.length (e.exchange?.bind fun x => x.origin.tag?) a.spoiled

/-- The fields of an entry whose deadline ran out: kind FETCH, spoiled flag clear (R85). -/
def Exchange.subject (x : Exchange) : Subject := .fetch x.addr x.len x.origin.tag? false

/-- A router-wide counter changed by `f` (R152). -/
def State.countRouter (f : RouterCounters → RouterCounters) (s : State) : State :=
  { s with conditions := { s.conditions with counters := f s.conditions.counters } }

end Sys2Proof.Machine
end

