-- ==== Sys2Proof/Machine/Operands.lean ====
section
/-! DEFINITION. What stands in bytes: the codes of R195 to R197, the parameters of commands, the values of responses, messages
on the management line, frames and greetings on a link (R198, R201), and the load image (R199). -/

namespace Sys2Proof

/-- The byte of a port (R195). -/
def Port.byte : Port → Byte
  | .t => 0
  | .b1 => 1
  | .b2 => 2
  | .b3 => 3
  | .b4 => 4
  | .b5 => 5
  | .b6 => 6

/-- The byte of an origin: M is 07h (R195). -/
def Origin.byte : Origin → Byte
  | .link p => p.byte
  | .m => 7

/-- The link port a byte names (R195). -/
def Port.ofByte (b : Byte) : Option Port :=
  match b.toNat with
  | 0 => some .t
  | 1 => some .b1
  | 2 => some .b2
  | 3 => some .b3
  | 4 => some .b4
  | 5 => some .b5
  | 6 => some .b6
  | _ => none

/-- The bay a byte names (R195). -/
def Bay.ofByte (b : Byte) : Option Bay := (Port.ofByte b).bind Port.bay?

/-- The origin a byte names: a link port or M (R195). -/
def Origin.ofByte (b : Byte) : Option Origin :=
  match b.toNat with
  | 7 => some .m
  | _ => (Port.ofByte b).map .link

/-- The flag a byte stands for: 00h off, 01h on (R195). -/
def flagOfByte (b : Byte) : Option Bool :=
  match b.toNat with
  | 0 => some false
  | 1 => some true
  | _ => none

/-- The byte of a flag (R195). -/
def flagByte (f : Bool) : Byte := if f then 1 else 0

end Sys2Proof

namespace Sys2Proof.Machine

/-! ## Codes -/

/-- The code of an ANSWER status (R197). -/
def AnsStatus.code : AnsStatus → Byte
  | .good => 0x10
  | .fault => 0x11
  | .noRoute => 0x12
  | .portDown => 0x13
  | .blocked => 0x14
  | .loopback => 0x15
  | .notReady => 0x16
  | .tableFull => 0x17
  | .expired => 0x18
  | .linkLost => 0x19
  | .cancelled => 0x1A
  | .overrun => 0x1B
  | .oversize => 0x1C
  | .stalled => 0x1D

/-- The ANSWER status of a code; a code that is none of the fourteen has none (R15, R197). -/
def AnsStatus.ofCode (b : Byte) : Option AnsStatus :=
  match b.toNat with
  | 0x10 => some .good
  | 0x11 => some .fault
  | 0x12 => some .noRoute
  | 0x13 => some .portDown
  | 0x14 => some .blocked
  | 0x15 => some .loopback
  | 0x16 => some .notReady
  | 0x17 => some .tableFull
  | 0x18 => some .expired
  | 0x19 => some .linkLost
  | 0x1A => some .cancelled
  | 0x1B => some .overrun
  | 0x1C => some .oversize
  | 0x1D => some .stalled
  | _ => none

/-- The code of an ANSWER status in a response: NOT READY is there the result status 02h, since 16h appears only in ANSWER frames
and in FETCH DONE (R197). -/
def AnsStatus.responseCode : AnsStatus → Byte
  | .notReady => 0x02
  | a => a.code

/-- The code of a result status (R197). -/
def Status.code : Status → Byte
  | .done => 0x00
  | .busy => 0x01
  | .notReady => 0x02
  | .badKind => 0x03
  | .badLength => 0x04
  | .badValue => 0x05
  | .conflict => 0x06
  | .fixed => 0x07
  | .noSuch => 0x08
  | .wrongState => 0x09
  | .notInLoad => 0x0A
  | .answer a => a.responseCode

/-- The end cause as the status a router-made final carries (R84). -/
def EndCause.status : EndCause → AnsStatus
  | .expired => .expired
  | .cancelled => .cancelled
  | .linkLost => .linkLost
  | .overrun => .overrun
  | .oversize => .oversize
  | .stalled => .stalled

/-- The byte of a category (R195). -/
def Category.byte : Category → Byte
  | .port => 0
  | .routing => 1
  | .exchange => 2
  | .inbox => 3

/-- The category of a byte (R195). -/
def Category.ofByte (b : Byte) : Option Category :=
  match b.toNat with
  | 0 => some .port
  | 1 => some .routing
  | 2 => some .exchange
  | 3 => some .inbox
  | _ => none

/-- The four categories in their order (R142). -/
def Category.all : List Category := [.port, .routing, .exchange, .inbox]

/-- The byte of a condition: its place in the table of R138, from 00h (R195). -/
def Condition.byte (c : Condition) : Byte := BitVec.ofNat 8 (Condition.all.idxOf c)

/-- The condition of a byte (R195). -/
def Condition.ofByte (b : Byte) : Option Condition := Condition.all[b.toNat]?

/-- The condition set a selector names: T, B1-B6, M or ROUTER, 08h (R145, R195). -/
def SetId.ofByte (b : Byte) : Option SetId :=
  match b.toNat with
  | 8 => some .router
  | _ => (Origin.ofByte b).map .origin

/-- The code of a frame kind (R198). -/
def FrameKind.code : FrameKind → Byte
  | .store => 1
  | .fetch => 2
  | .answer => 3
  | .notice => 4

/-- The code of a partner kind (R198). READ LINK uses the greeting's codes too, not the codes from 00h of R195: the model's choice
(log 18). -/
def PartnerKind.code : PartnerKind → Byte
  | .module => 1
  | .router => 2
  | .controller => 3

/-- The partner kind of a code (R198). -/
def PartnerKind.ofCode (b : Byte) : Option PartnerKind :=
  match b.toNat with
  | 1 => some .module
  | 2 => some .router
  | 3 => some .controller
  | _ => none

/-- Link state codes, DISABLED 00h to FAILED 05h (R195). -/
def LinkName.byte : LinkName → Byte
  | .disabled => 0
  | .down => 1
  | .training => 2
  | .up => 3
  | .held => 4
  | .failed => 5

/-- The name of a link state (R119). -/
def Link.name : Link → LinkName
  | .disabled => .disabled
  | .down _ => .down
  | .training _ => .training
  | .up _ => .up
  | .held => .held
  | .failed => .failed

/-- The name of an entry's state (R68). -/
def Entry.state : Entry → EntryState
  | .free => .free
  | .opened _ _ _ => .opened
  | .orphan _ _ _ => .orphan
  | .quarantine _ _ _ => .quarantine

/-- Entry state codes in the order of R68 (R195). -/
def EntryState.byte : EntryState → Byte
  | .free => 0
  | .opened => 1
  | .orphan => 2
  | .quarantine => 3

/-- Waiting state codes (R195). -/
def WaitState.byte : WaitState → Byte
  | .idle => 0
  | .awaitLane => 1
  | .awaitAnswerSlot => 2
  | .awaitMatch => 3

/-- Router state codes in the order of R166 (R195). -/
def RouterStateName.byte : RouterStateName → Byte
  | .start => 0
  | .configuring => 1
  | .forwarding => 2

/-- The name of the router state (R166). -/
def RouterState.name : RouterState → RouterStateName
  | .start _ => .start
  | .configuring => .configuring
  | .forwarding => .forwarding

/-! ## Encoding of values (R195) -/

/-- A field present only in some cases: 00h when absent, 01h and the field when present (R195). -/
def optField {α : Type} (f : α → List Byte) : Option α → List Byte
  | none => [0]
  | some a => 1 :: f a

/-- A list: a count byte, then the items (R195). -/
def listField {α : Type} (f : α → List Byte) (l : List α) : List Byte := BitVec.ofNat 8 l.length :: l.flatMap f

/-- A payload that is not the body's last field: its count in two bytes, then its bytes (R195). -/
def payloadField (d : List Byte) : List Byte := nat16 d.length ++ d

/-- A range is empty when its first station is 0 or above its last (R19). -/
def StationRange.isEmpty (r : StationRange) : Bool := r.first == 0 || r.last < r.first

/-- A window is open when its base is not above its limit (R19). -/
def Window.isOpen (w : Window) : Bool := w.base ≤ w.limit

/-- The directed range is open when its base is not above its limit (R18). -/
def Directed.isOpen (d : Directed) : Bool := d.base ≤ d.limit

/-- A window's fields in READ ROUTES (R37). -/
def Window.bytes (w : Window) : List Byte := bytes32 w.base ++ bytes32 w.limit ++ [flagByte w.isOpen]

/-- A claim: its byte, and the bay's port byte where it names one (R39, R195). -/
def Claim.bytes : Claim → List Byte
  | .directed => [0]
  | .general b => [1, b.port.byte]
  | .bulk b => [2, b.port.byte]
  | .range b => [3, b.port.byte]
  | .ownStation => [4]
  | .byDefault => [5]
  | .nothing => [6]

/-- Outcome codes in the order of R39 (R195). -/
def ProbeOutcome.byte : ProbeOutcome → Byte
  | .place => 0
  | .inbox => 1
  | .refuse => 2
  | .drop => 3

/-- An inbox record in the order of R61. -/
def NoticeRecord.bytes (r : NoticeRecord) : List Byte :=
  r.source :: r.arrival.byte :: bytes16 r.code ++ payloadField r.payload ++ [flagByte r.spoiled]

/-- Issue codes in the order of R68 (R195). -/
def Issue.byte : Issue → Byte
  | .queued => 0
  | .sent => 1

/-- The issue field, present in OPEN and ORPHAN (R68). -/
def Entry.issue? : Entry → Option Issue
  | .opened _ i _ => some i
  | .orphan _ i _ => some i
  | _ => none

/-- The deadline, present in OPEN and ORPHAN (R68). -/
def Entry.deadline? : Entry → Option Nat
  | .opened _ _ d => some d
  | .orphan _ _ d => some d
  | _ => none

/-- The end cause, present in QUARANTINE (R68). -/
def Entry.cause? : Entry → Option EndCause
  | .quarantine _ c _ => some c
  | _ => none

/-- The quarantine left, present in QUARANTINE (R68). -/
def Entry.left? : Entry → Option Nat
  | .quarantine _ _ l => some l
  | _ => none

/-- A record of LIST EXCHANGES: the index, the state, and every other field of R68, each present only in some states (R98). -/
def entryBytes (r : RouterTag × Entry) : List Byte :=
  let x := r.2.exchange?
  [BitVec.ofNat 8 r.1.val, r.2.state.byte]
    ++ optField (fun x => [x.origin.origin.byte]) x
    ++ optField (fun b => [b]) (x.bind fun x => x.origin.tag?)
    ++ optField (fun x => [x.dest.byte]) x
    ++ optField (fun x => bytes32 x.addr) x
    ++ optField (fun x => nat16 x.len) x
    ++ optField (fun i => [i.byte]) r.2.issue?
    ++ optField (fun x => nat16 x.answered) x
    ++ optField (fun x => nat16 x.pieces) x
    ++ optField nat16 r.2.deadline?
    ++ optField (fun c => [c.status.code]) r.2.cause?
    ++ optField nat16 r.2.left?

/-- Host fetch buffer state codes in the order of R92 (R195). -/
def HostFetch.byte : HostFetch → Byte
  | .empty => 0
  | .gathering _ _ _ => 1
  | .holding _ _ _ _ => 2

/-- The router tag of the host fetch buffer, when not EMPTY (R92). -/
def HostFetch.tag? : HostFetch → Option RouterTag
  | .empty => none
  | .gathering i _ _ => some i
  | .holding i _ _ _ => some i

/-- The data of the host fetch buffer, when not EMPTY (R92). -/
def HostFetch.data? : HostFetch → Option (List Byte)
  | .empty => none
  | .gathering _ _ d => some d
  | .holding _ _ d _ => some d

/-- A port's items as a list, T first. -/
def PerPort.toList {α : Type} (v : PerPort α) : List α := [v.t, v.b1, v.b2, v.b3, v.b4, v.b5, v.b6]

/-- The summary of LIST EXCHANGES in the order of R98; M's quota is always 1. -/
def ExchangeSummary.bytes (x : ExchangeSummary) : List Byte :=
  nat16 x.freeCount
    ++ x.activePorts.toList.flatMap nat16 ++ nat16 x.activeM
    ++ x.quotas.toList.flatMap (fun q => nat16 q.value) ++ nat16 Config.quotaM
    ++ nat16 x.timers.value.timeout ++ nat16 x.timers.value.quarantine
    ++ x.quotas.toList.map (fun q => flagByte q.fixed) ++ [flagByte x.timers.fixed]
    ++ [x.hostFetch.byte]
    ++ optField (fun i => [BitVec.ofNat 8 i.val]) x.hostFetch.tag?
    ++ optField (fun d => nat16 d.length) x.hostFetch.data?

/-- The values of READ LANES in the order of R117. -/
def LanesReport.bytes (r : LanesReport) : List Byte :=
  nat16 r.requestsHeld ++ nat16 r.answersHeld ++ [r.requestWait.byte, r.answerWait.byte]
    ++ optField nat16 r.requestStall ++ optField nat16 r.answerStall
    ++ nat16 r.granted.request ++ nat16 r.granted.answer
    ++ nat16 r.requestLane ++ nat16 r.answerLane ++ nat16 r.forwarded
    ++ nat16 r.partner.request ++ nat16 r.partner.answer
    ++ [r.pointer.request.byte, r.pointer.answer.byte]
    ++ nat16 r.stallLimit.value ++ [flagByte r.stallLimit.fixed]

/-- Down cause codes in the order of R120 (R195). -/
def DownCause.byte : DownCause → Byte
  | .loss => 0
  | .budget => 1
  | .greeting => 2
  | .hold => 3
  | .disable => 4

/-- Failure cause codes in the order of R120 (R195). -/
def FailCause.byte : FailCause → Byte
  | .timeout => 0
  | .badGreeting => 1

/-- The values of READ LINK in the order of R136; the partner kind by its code in the greeting (log 18). -/
def LinkReport.bytes (r : LinkReport) : List Byte :=
  [r.state.byte, flagByte r.settings.value.enable] ++ nat16 r.settings.value.max ++ [flagByte r.settings.fixed]
    ++ optField nat16 r.offered ++ nat16 r.attempts
    ++ optField (fun g => [g.kind.code]) r.greeting
    ++ optField (fun g => nat16 g.capability) r.greeting
    ++ optField (fun g => nat16 g.requestCredits) r.greeting
    ++ optField (fun g => nat16 g.answerCredits) r.greeting
    ++ optField nat16 r.effectiveMax ++ nat16 r.windowCount
    ++ optField (fun c => [c.byte]) r.downCause ++ optField (fun c => [c.byte]) r.failCause

/-- One category's reporting item: enable, masked names, fixed mark (R145). -/
def reportingBytes (r : Setting Reporting) : List Byte :=
  flagByte r.value.enable :: listField (fun c => [c.byte]) r.value.masked ++ [flagByte r.fixed]

/-- The frame kind of a capture's subject (R147). -/
def Subject.kind : Subject → FrameKind
  | .store _ _ _ => .store
  | .fetch _ _ _ _ => .fetch
  | .notice _ _ _ => .notice
  | .answer _ _ _ _ => .answer

/-- The point address of a STORE or FETCH subject (R147). -/
def Subject.addr? : Subject → Option Word32
  | .store a _ _ => some a
  | .fetch a _ _ _ => some a
  | _ => none

/-- The target station of a NOTICE subject (R147). -/
def Subject.station? : Subject → Option Byte
  | .notice d _ _ => some d
  | _ => none

/-- The router tag of an ANSWER subject (R147). -/
def Subject.routerTag? : Subject → Option Byte
  | .answer g _ _ _ => some g
  | _ => none

/-- The length of a subject (R147). -/
def Subject.length : Subject → Nat
  | .store _ n _ => n
  | .fetch _ n _ _ => n
  | .notice _ n _ => n
  | .answer _ n _ _ => n

/-- The origin tag of a subject (R147). -/
def Subject.originTag? : Subject → Option Byte
  | .fetch _ _ g _ => g
  | .answer _ _ g _ => g
  | _ => none

/-- The spoiled flag of a subject (R147). -/
def Subject.spoiled : Subject → Bool
  | .store _ _ sp => sp
  | .fetch _ _ _ sp => sp
  | .notice _ _ sp => sp
  | .answer _ _ _ sp => sp

/-- READ CAPTURE's values: the state, EMPTY 00h or FULL 01h, then each field of R147, present when FULL and its own case
holds (R149). -/
def captureBytes (c : Option Capture) : List Byte :=
  [flagByte c.isSome]
    ++ optField (fun k => [k.origin.byte]) c
    ++ optField (fun k => [k.condition.byte]) c
    ++ optField (fun k => [k.subject.kind.code]) c
    ++ optField bytes32 (c.bind fun k => k.subject.addr?)
    ++ optField (fun b => [b]) (c.bind fun k => k.subject.station?)
    ++ optField (fun b => [b]) (c.bind fun k => k.subject.routerTag?)
    ++ optField (fun k => nat16 k.subject.length) c
    ++ optField (fun b => [b]) (c.bind fun k => k.subject.originTag?)
    ++ optField (fun k => [flagByte k.subject.spoiled]) c
    ++ optField (fun k => nat16 k.later) c

/-- The stream report in the order of R164. The part for each existing stream is a list with a count byte, not fields with presence
bytes: the model's choice (log 18). -/
def StreamReport.bytes (r : StreamReport) : List Byte :=
  nat16 r.streams.length ++ [flagByte r.countFixed]
    ++ Category.all.map (fun c => flagByte (r.marks.get c))
    ++ listField (fun l => listField (fun c => [c.byte]) l.categories
        ++ [flagByte l.masked, flagByte l.awaiting, flagByte l.pending]) r.streams

/-- Cause codes in the order of R177 (R195). -/
def ResetCause.byte : ResetCause → Byte
  | .powerOn => 0
  | .trunkReset => 1
  | .commandReset => 2

/-- Outcome codes in the order of R177 (R195). -/
def LoadOutcome.byte : LoadOutcome → Byte
  | .absent => 0
  | .good => 1
  | .partly => 2
  | .badImage => 3

/-- The lost host fetch: its router tag, and GATHERING or HOLDING by its code in R92's order (R177). -/
def lostFetchBytes (x : RouterTag × Bool) : List Byte := [BitVec.ofNat 8 x.1.val, if x.2 then 2 else 1]

/-- Report fields from the records executed to the first refused status (R177, R179). -/
def LoadReport.countBytes (r : LoadReport) : List Byte :=
  nat16 r.executed ++ nat16 r.refused
    ++ optField (fun x => nat16 x.1) r.firstRefused ++ optField (fun x => [x.2.code]) r.firstRefused

/-- The values of a response (R195), in the order in which each command's rule names them. SEND NOTICE's two fields, the arrival
(INBOX as 00h) and the target port, each with its presence byte, and the one byte of IDENTIFY's revision are the model's choice
(log 18). -/
def Values.bytes : Values → List Byte
  | .empty => []
  | .routesBay r drop =>
    [r.range.value.first, r.range.value.last, flagByte r.range.value.isEmpty]
      ++ r.general.value.bytes ++ r.bulk.value.bytes
      ++ [flagByte r.permits.value.upstream, flagByte r.permits.value.peer, flagByte drop.value, flagByte r.range.fixed,
        flagByte r.general.fixed, flagByte r.bulk.fixed, flagByte r.permits.fixed, flagByte drop.fixed]
  | .routesT drop => [flagByte drop.value, flagByte drop.fixed]
  | .routesRouter own d =>
    own.value :: bytes32 d.value.base ++ bytes32 d.value.limit
      ++ [d.value.target.port.byte, flagByte d.value.on, flagByte d.value.isOpen, flagByte own.fixed, flagByte d.fixed]
  | .probe r =>
    r.outcome.byte :: r.claim.bytes ++ optField (fun p => [p.byte]) r.target ++ optField nat16 r.effectiveMax
      ++ optField (fun a => [a.responseCode]) r.status ++ optField (fun c => [c.byte]) r.condition
  | .notices rs => listField NoticeRecord.bytes rs
  | .target p => [p.byte]
  | .noticeWent none => [1, 0, 0]
  | .noticeWent (some p) => [0, 1, p.byte]
  | .cancelled st o => [st.byte, o.byte]
  | .fetchIssued i p => [BitVec.ofNat 8 i.val, p.byte]
  | .exchanges x rs => x.bytes ++ listField entryBytes rs
  | .lanes r => r.bytes
  | .linkState n => [n.byte]
  | .link r => r.bytes
  | .conditions latched rep =>
    listField (fun c => [c.byte, flagByte c.sticky]) latched ++ Category.all.flatMap (fun c => reportingBytes (rep.get c))
  | .names cleared => listField (fun c => [c.byte]) cleared
  | .capture c => captureBytes c
  | .released n => optField nat16 n
  | .counters c => bytes32 c.received ++ bytes32 c.sent ++ bytes32 c.dropped ++ bytes32 c.damaged ++ bytes32 c.routerMade
  | .routerCounters c => bytes32 c.framingErrors ++ bytes32 c.busyAnswers ++ bytes32 c.discarded ++ bytes32 c.inboxDrops
  | .streams r => r.bytes
  | .loadReport st r =>
    [st.byte, r.cause.byte] ++ optField (fun o => [o.byte]) r.outcome ++ r.countBytes ++ optField lostFetchBytes r.lostFetch
  | .identity =>
    bytes16 Config.vendorCode ++ bytes16 Config.partCode ++ [Config.revision] ++ nat16 Config.portCount
      ++ nat16 Config.tableSize ++ nat16 Config.inboxSize ++ nat16 Config.streamCapability
  | .echoed b => b

/-- What follows kind and sequence in a body (R195): status and values, or an unsolicited message's fields. -/
def Body.bytes : Body → List Byte
  | .response st v => st.code :: v.bytes
  | .notify count k cats => nat16 count ++ BitVec.ofNat 8 k.val :: listField (fun c => [c.byte]) cats
  | .fetchDone i st d => [BitVec.ofNat 8 i.val, st.code] ++ nat16 d.length ++ d
  | .restarted r st =>
    [r.cause.byte] ++ (r.outcome.map LoadOutcome.byte).toList ++ r.countBytes ++ [st.byte]
      ++ optField lostFetchBytes r.lostFetch

/-- An outgoing message's bytes on the line: the envelope of R195 with the check of R200. -/
def OutMessage.bytes (m : OutMessage) : List Byte :=
  let body := m.kind :: m.seq :: m.body.bytes
  let covered := nat16 body.length ++ body
  Config.startByte :: covered ++ bytes16 (crc16 covered)

/-! ## The management receiver (R183) -/

/-- What the bytes after a start byte come to. -/
inductive Gathered where
  /-- More bytes must arrive. -/
  | incomplete
  /-- The body length is out of range. -/
  | lengthOut
  /-- The check does not match. -/
  | badCheck
  /-- A good message, and how many bytes it took. -/
  | good (m : Message) (used : Nat)
  deriving DecidableEq, Repr

/-- The body of a message that passed its check, as kind, sequence and parameters (R195). -/
def messageOf (body : List Byte) (check : Word16) : Option Message :=
  match body with
  | kind :: seq :: params => some { kind, msg := { seq, params, check } }
  | _ => none

/-- Gathering after a start byte: two length bytes, the body, two check bytes (R183). -/
def gather (bs : List Byte) : Gathered :=
  match bs with
  | hi :: lo :: rest =>
    let n := (word16 hi lo).toNat
    if lengthOutOfRange hi lo then .lengthOut
    else
      match rest.drop n with
      | c1 :: c0 :: _ =>
        if crc16 (hi :: lo :: rest.take n) = word16 c1 c0 then
          match messageOf (rest.take n) (word16 c1 c0) with
          | some m => .good m (n + 4)
          | none => .badCheck
        else .badCheck
      | _ => .incomplete
  | _ => .incomplete

/-- What the receiver hands on: a good message, or a framing error to count. -/
inductive ReceiverEvent where
  | message (m : Message)
  | framingError
  deriving DecidableEq, Repr

/-- The receiver over the bytes not yet finally taken, beginning as it hunts; the first `skip` bytes belong to a message
already taken. It answers what it found, in order, and the bytes gathered since the start byte of an unfinished message, if
there is one. After an out-of-range length or a bad check, hunting resumes at the byte after the start byte (R183). -/
def scan : Nat → List Byte → List ReceiverEvent × Option (List Byte)
  | _, [] => ([], none)
  | skip + 1, _ :: bs => scan skip bs
  | 0, b :: bs =>
    if b = Config.startByte then
      match gather bs with
      | .incomplete => ([], some bs)
      | .lengthOut => scan 0 bs
      | .badCheck => (.framingError :: (scan 0 bs).1, (scan 0 bs).2)
      | .good m used => (.message m :: (scan used bs).1, (scan used bs).2)
    else scan 0 bs

/-! ## Link frames and greetings (R198, R201) -/

/-- Bytes of a kind's fields (R198); none for a kind that is none of the four. -/
def kindFieldBytes (kind : Byte) : Option Nat :=
  match kind.toNat with
  | 1 => some 4
  | 2 => some 7
  | 3 => some 2
  | 4 => some 4
  | _ => none

/-- How many bytes a frame's check covers: kind, flags, length, kind fields and the payload bytes the length field names; for
an unknown kind all but the last four bytes received (log 12). -/
def coveredBytes (bytes : List Byte) : Nat :=
  match bytes with
  | kind :: _ :: p1 :: p0 :: _ =>
    match kindFieldBytes kind with
    | some k => 4 + k + (word16 p1 p0).toNat
    | none => bytes.length - 4
  | _ => 0

/-- The frame's check matches over the bytes its length field names (R201). A frame for which it does not is damaged (R14). -/
def frameCheckOk (bytes : List Byte) : Bool :=
  let n := coveredBytes bytes
  4 ≤ n && n + 4 ≤ bytes.length && bytes32 (crc32 (bytes.take n)) == (bytes.drop n).take 4

/-- The status, final mark and payload length of an ANSWER agree (R8, R15). -/
def answerFieldsOk (st : AnsStatus) (final : Bool) (p maxPayload : Nat) : Bool :=
  if st = .good then (final || 1 ≤ p) && p ≤ maxPayload && p ≤ Config.payloadMax else final && p = 0

/-- The field checks of an intact frame (R15), against the class its start symbol names and the ingress port's effective max
payload; none means malformed. -/
def parseFrame (c : FrameClass) (maxPayload : Nat) (bytes : List Byte) : Option Frame :=
  match bytes with
  | kind :: flags :: p1 :: p0 :: rest =>
    let p := (word16 p1 p0).toNat
    let spoiled := flags.getLsbD 0
    match kind.toNat, c, rest with
    | 1, .request, a3 :: a2 :: a1 :: a0 :: tail =>
      if tail.length = p + 4 ∧ 1 ≤ p ∧ p ≤ maxPayload ∧ p ≤ Config.payloadMax then
        some (.request (.store (word32 a3 a2 a1 a0) (tail.take p) spoiled))
      else none
    | 2, .request, a3 :: a2 :: a1 :: a0 :: l1 :: l0 :: tag :: tail =>
      let n := (word16 l1 l0).toNat
      if tail.length = p + 4 ∧ p = 0 ∧ 1 ≤ n ∧ n ≤ Config.fetchMax then
        some (.request (.fetch (word32 a3 a2 a1 a0) n tag spoiled))
      else none
    | 3, .answer, tag :: code :: tail =>
      match AnsStatus.ofCode code with
      | some st =>
        let final := flags.getLsbD 1
        if tail.length = p + 4 ∧ answerFieldsOk st final p maxPayload then
          some (.answer { tag, status := st, final, payload := tail.take p, spoiled })
        else none
      | none => none
    | 4, .request, target :: source :: c1 :: c0 :: tail =>
      if tail.length = p + 4 ∧ target ≠ 0 ∧ p ≤ Config.noticeMax then
        some (.request (.notice target source (word16 c1 c0) (tail.take p) spoiled))
      else none
    | _, _, _ => none
  | _ => none

/-- The flags byte: bit 0 spoiled, bit 1 final mark, the rest 0 (R198). A STORE, a FETCH and a NOTICE are sent with bit 1 as 0, also
when they arrived with it set: R198 has it ignored there and does not say how it is sent, so this is the model's choice (log 28). -/
def frameFlags (spoiled final : Bool) : Byte := (if spoiled then 1 else 0) ||| (if final then 2 else 0)

/-- A frame's bytes with the check computed over them (R198, R201). -/
def withLinkCheck (covered : List Byte) : List Byte := covered ++ bytes32 (crc32 covered)

/-- A request-class frame as sent, its FETCH with these tag bytes (R198); flag bit 1 is 0 (log 28). -/
def Request.bytes {τ : Type} (tagByte : τ → Byte) : Request τ → List Byte
  | .store a d sp => withLinkCheck ([FrameKind.store.code, frameFlags sp false] ++ nat16 d.length ++ bytes32 a ++ d)
  | .fetch a n g sp =>
    withLinkCheck ([FrameKind.fetch.code, frameFlags sp false] ++ nat16 0 ++ bytes32 a ++ nat16 n ++ [tagByte g])
  | .notice dst src c d sp =>
    withLinkCheck ([FrameKind.notice.code, frameFlags sp false] ++ nat16 d.length ++ [dst, src] ++ bytes16 c ++ d)

/-- An ANSWER as sent (R198). -/
def Answer.bytes (a : Answer) : List Byte :=
  withLinkCheck ([FrameKind.answer.code, frameFlags a.spoiled a.final] ++ nat16 a.payload.length ++ [a.tag, a.status.code]
    ++ a.payload)

/-- A frame being sent, as it goes out: class and bytes (R198). -/
def Outbound.emission (p : Port) : Outbound → Emission
  | .request r => .frame p .request (r.bytes fun i => BitVec.ofNat 8 i.val)
  | .answer a => .frame p .answer a.bytes

/-- The router's greeting with this offered max: kind ROUTER, request and answer credits 4 (R124, R198). -/
def greetingBytes (offered : Nat) : List Byte :=
  withLinkCheck ([PartnerKind.router.code] ++ nat16 offered
    ++ [BitVec.ofNat 8 Config.ingressSize, BitVec.ofNat 8 Config.ingressSize])

/-- What a greeting's bytes come to: damaged (R124, R201), or its values pass the check of R125 or fail it. -/
inductive GreetingCheck where
  | damaged
  | bad
  | good (g : Greeting)
  deriving DecidableEq, Repr

/-- The values of an intact greeting against the ranges of R125. -/
def greetingValues (kind : Byte) (capability req ans : Nat) : Option Greeting :=
  match PartnerKind.ofCode kind with
  | some k =>
    if Config.capabilities.contains capability ∧ 1 ≤ req ∧ req ≤ 16 ∧ 1 ≤ ans ∧ ans ≤ 16 then
      some { kind := k, capability, requestCredits := req, answerCredits := ans }
    else none
  | none => none

/-- A greeting's bytes after its symbol: five bytes and their check (R198). R201 gives its rule for a byte count that disagrees for
frames alone; a greeting of any other count than nine is damaged here, even where its first nine bytes check: the model's choice
(log 30). -/
def checkGreeting (bytes : List Byte) : GreetingCheck :=
  match bytes with
  | [k, c1, c0, r, a, x3, x2, x1, x0] =>
    if crc32 [k, c1, c0, r, a] = word32 x3 x2 x1 x0 then
      match greetingValues k (word16 c1 c0).toNat r.toNat a.toNat with
      | some g => .good g
      | none => .bad
    else .damaged
  | _ => .damaged

/-! ## The load image (R172, R199) -/

/-- Exactly `count` records that fill the area exactly: flag byte, two length bytes, a body of that length, at least 1
(test 6 of R172). -/
def parseRecords : Nat → List Byte → Option (List LoadRecord)
  | 0, [] => some []
  | 0, _ :: _ => none
  | n + 1, flag :: r1 :: r0 :: rest =>
    let r := (word16 r1 r0).toNat
    if 1 ≤ r ∧ r ≤ rest.length then
      (parseRecords n (rest.drop r)).map fun rs => { flag, body := rest.take r } :: rs
    else none
  | _ + 1, _ => none

/-- The records of an image that passes tests 2, 3, 5 and 6 of R172; none is BAD IMAGE. -/
def parseImage (bytes : List Byte) : Option (List LoadRecord) :=
  match bytes with
  | m1 :: m0 :: n1 :: n0 :: l1 :: l0 :: c1 :: c0 :: rest =>
    let count := (word16 n1 n0).toNat
    let total := (word16 l1 l0).toNat
    let area := rest.take total
    if word16 m1 m0 = Config.imageMarker ∧ count ≤ Config.recordsMax ∧ total ≤ Config.recordsAreaMax ∧ area.length = total
        ∧ crc16 area = word16 c1 c0 then
      parseRecords count area
    else none
  | _ => none

end Sys2Proof.Machine
end

