-- ==== Sys2Proof/Machine/Streams.lean ====
section
/-! DEFINITION. The notification unit: which categories a stream carries, when it is pending, the stream report, regrouping, and
what is left when a NOTIFY enters the outgoing queue (R156 to R164). -/

namespace Sys2Proof.Machine

/-- The categories a stream carries under a granted count (R158). -/
def streamCategories (count : Nat) (k : Nat) : List Category :=
  match count, k with
  | 1, 0 => [.port, .routing, .exchange, .inbox]
  | 2, 0 => [.port, .inbox]
  | 2, 1 => [.routing, .exchange]
  | 4, 0 => [.port]
  | 4, 1 => [.routing]
  | 4, 2 => [.exchange]
  | 4, 3 => [.inbox]
  | _, _ => []

/-- The categories of a stream whose marks are set, in the order of R160. -/
def NotificationUnit.marked (n : NotificationUnit) (k : Nat) : List Category :=
  (streamCategories n.streams.length k).filter fun c => n.marks.get c

/-- A stream is pending (R156). -/
def NotificationUnit.isPending (n : NotificationUnit) (k : Nat) : Bool := !(n.marked k).isEmpty

/-- The first three things of R160: the stream exists, is unmasked and pending, and does not await acknowledgement. -/
def NotificationUnit.ready (n : NotificationUnit) (k : Nat) : Bool :=
  match n.streams[k]? with
  | some x => !x.masked && !x.awaiting && n.isPending k
  | none => false

/-- One line of the stream report (R164). -/
def NotificationUnit.line (n : NotificationUnit) (k : Nat) (x : Stream) : StreamLine :=
  { categories := streamCategories n.streams.length k, masked := x.masked, awaiting := x.awaiting, pending := n.isPending k }

/-- The stream report (R164). -/
def NotificationUnit.report (n : NotificationUnit) : StreamReport :=
  { countFixed := n.countFixed, marks := n.marks, streams := n.streams.mapIdx n.line }

/-- The count granted to a request of `n` streams, at most 8 (R158). -/
def grantedCount (n : Nat) : Nat :=
  if n = 0 then 0
  else if n = 1 then 1
  else if n = 2 then 2
  else 4

/-- The streams after a SET STREAMS that grants `count`: every flag clear, a kept stream keeps its mask, a new one starts
masked (R159). -/
def regroup (old : List Stream) (count : Nat) : List Stream :=
  (List.range count).map fun k =>
    match old[k]? with
    | some x => { x with awaiting := false }
    | none => { masked := true, awaiting := false }

/-- A stream changed by `f`. -/
def NotificationUnit.modStream (k : Nat) (f : Stream → Stream) (n : NotificationUnit) : NotificationUnit :=
  { n with streams := n.streams.modify k f }

/-- The marks of these categories cleared. -/
def clearMarks (marks : PerCategory Bool) (cats : List Category) : PerCategory Bool := cats.foldl (fun m c => m.set c false) marks

/-- A NOTIFY of the stream has entered the outgoing queue: the marks it lists are clear and the stream awaits acknowledgement
(R160). -/
def NotificationUnit.sent (n : NotificationUnit) (k : Nat) : NotificationUnit :=
  { n.modStream k (fun x => { x with awaiting := true }) with marks := clearMarks n.marks (n.marked k) }

end Sys2Proof.Machine
end

