-- ==== Sys2Proof/Machine/Queue.lean ====
section
/-! DEFINITION. The management link's two queues: places and waiting (R189), the unsolicited sequence (R190), responses and the last
response memory (R186, R187), BUSY answers (R185), and how a command is taken and tested (R186). -/

namespace Sys2Proof.Machine

/-! ## Places in the outgoing queue (R189) -/

/-- The waiting groups without one message. -/
def ManagementLink.without (w : Waiter) (m : ManagementLink) : List (List Waiter) :=
  (m.waiting.map fun g => g.filter (· != w)).filter fun g => !g.isEmpty

/-- RESTARTED waits for a place. -/
def ManagementLink.restartedWaits (m : ManagementLink) : Bool := m.waiting.any fun g => g.contains .restarted

/-- The message is among those that began to wait first, or none waits; RESTARTED stands outside this order. -/
def ManagementLink.isNext (w : Waiter) (m : ManagementLink) : Bool :=
  match m.without .restarted with
  | [] => true
  | g :: _ => g.contains w

/-- A message that is ready may enter the outgoing queue now (R189). RESTARTED may take the eighth place, and waits for the
response of a command in progress (R176); that response goes ahead of it, and nothing else does. -/
def ManagementLink.mayEnter (m : ManagementLink) : Waiter → Bool
  | .restarted => m.outgoing.length < Config.outgoingQueueSize && m.running.isNone
  | .response =>
    m.outgoing.length + 1 < Config.outgoingQueueSize
      && (if m.restartedWaits then m.running.isSome else m.isNext .response)
  | .fetchDone => m.outgoing.length + 1 < Config.outgoingQueueSize && !m.restartedWaits && m.isNext .fetchDone
  | .notify k => m.outgoing.length + 1 < Config.outgoingQueueSize && !m.restartedWaits && m.isNext (.notify k)

/-- A message enters the tail of the outgoing queue and no longer waits. -/
def ManagementLink.enter (w : Waiter) (msg : OutMessage) (m : ManagementLink) : ManagementLink :=
  { m with outgoing := m.outgoing ++ [msg], waiting := m.without w }

/-- A command's response is ready: it is decided and waits in progress (R188), or no command is in progress and the receive
queue is not empty (R186). -/
def ManagementLink.responseReady (m : ManagementLink) : Bool :=
  match m.running with
  | some { command := _, stage := .answered _ } => true
  | some { command := _, stage := .awaitLane _ _ _ } => false
  | none => !m.receiveQueue.isEmpty

/-- The host fetch buffer is HOLDING (R92). -/
def HostFetch.isHolding : HostFetch → Bool
  | .holding _ _ _ _ => true
  | _ => false

/-- RESTARTED is offered (R176). -/
def RouterState.offersRestarted : RouterState → Bool
  | .start (.offering _) => true
  | _ => false

/-- The messages that are ready apart from room (R189). -/
def State.ready (s : State) : List Waiter :=
  (if s.management.responseReady then [.response] else [])
    ++ (if s.hostFetch.isHolding then [.fetchDone] else [])
    ++ ([0, 1, 2, 3].filter fun k : Fin 4 => s.notification.ready k.val).map .notify
    ++ (if s.loader.state.offersRestarted then [.restarted] else [])

/-- Waiting messages that are no longer ready wait no more; those that are ready and find no place begin to wait together
(R189; log 16). -/
def State.noteWaiting (s : State) : State :=
  let ready := s.ready
  let kept := (s.management.waiting.map fun g => g.filter ready.contains).filter fun g => !g.isEmpty
  let m := { s.management with waiting := kept }
  let fresh := ready.filter fun w => !kept.flatten.contains w && !m.mayEnter w
  { s with management := { m with waiting := if fresh.isEmpty then kept else kept ++ [fresh] } }

/-- An event, taken whole: while PORN is low nothing happens (R168); afterwards the messages that find no place wait. -/
def event (f : State → State) (s : State) : Host.Outcome State Fault Refusal :=
  if s.pins.porn then .next (f s).noteWaiting else .next s

/-! ## Unsolicited messages (R190) -/

/-- An unsolicited message enters the outgoing queue with the next unsolicited sequence. -/
def State.sendUnsolicited (w : Waiter) (kind : Byte) (body : Body) (s : State) : State :=
  let m := s.management
  { s with management :=
      { m.enter w { kind, seq := m.unsolicited, body } with unsolicited := m.unsolicited + 1 } }

/-- A stream's NOTIFY enters the outgoing queue, if the four things of R160 hold. -/
def State.sendNotify (k : Fin 4) (s : State) : State :=
  let n := s.notification
  if n.ready k.val && s.management.mayEnter (.notify k) then
    s.sendUnsolicited (.notify k) 0xFA (.notify n.streams.length k (n.marked k.val)) |> fun t =>
      { t with notification := n.sent k.val }
  else s

/-! ## Responses (R186, R187) -/

/-- The response kind of a message kind (R196). -/
def responseKind (kind : Byte) : Byte := if isCommandKind kind then kind + 0x80 else 0xFF

/-- The response to a command. -/
def Message.response (c : Message) (status : Status) (values : Values) : OutMessage :=
  { kind := responseKind c.kind, seq := c.msg.seq, body := .response status values }

/-- A response formed under R186 enters the outgoing queue: the command is answered, and the last response memory holds it
(R187). -/
def State.enterResponse (c : Message) (r : OutMessage) (s : State) : State :=
  { s with management :=
      { s.management.enter .response r with running := none, last := some { seq := c.msg.seq, check := c.msg.check, response := r } } }

/-- A command taken in one act is answered. -/
def State.respond (c : Message) (status : Status) (values : Values) (s : State) : State :=
  s.enterResponse c (c.response status values)

/-- A response that has been formed enters the outgoing queue if a place is free; else it waits, and its command stays in progress
until it enters (R186, R188, R189). -/
def State.offerResponse (c : Message) (r : OutMessage) (s : State) : State :=
  if s.management.mayEnter .response then s.enterResponse c r
  else { s with management := { s.management with running := some { command := c, stage := .answered r } } }

/-- The outcome of a host request in progress is decided, and its response enters if a place is free, else waits (R188). An event that
decides it may also make a NOTIFY or FETCH DONE ready; R161 and R189 let either go first, and the response does, be it to the last place:
the model's choice (log 34). -/
def State.conclude (status : Status) (values : Values) (s : State) : State :=
  match s.management.running with
  | some r => s.offerResponse r.command (r.command.response status values)
  | none => s

/-- The response of the command in progress, which waited for a place, enters the outgoing queue (R188, R189). -/
def State.offerRunning (s : State) : State :=
  match s.management.running with
  | some { command, stage := .answered resp } =>
    if s.management.mayEnter .response then s.enterResponse command resp else s
  | _ => s

/-! ## The receive queue (R185) -/

/-- A router-wide counter of messages answered BUSY (R152). -/
def RouterCounters.addBusy (c : RouterCounters) : RouterCounters := { c with busyAnswers := c.busyAnswers + 1 }
/-- A router-wide counter of discarded messages (R152). -/
def RouterCounters.addDiscarded (c : RouterCounters) : RouterCounters := { c with discarded := c.discarded + 1 }
/-- A router-wide counter of framing errors (R152). -/
def RouterCounters.addFraming (c : RouterCounters) : RouterCounters := { c with framingErrors := c.framingErrors + 1 }
/-- A router-wide counter of inbox drops (R152). -/
def RouterCounters.addInboxDrop (c : RouterCounters) : RouterCounters := { c with inboxDrops := c.inboxDrops + 1 }

/-- Room for a BUSY answer, which never waits: a place that no waiting message takes (R185, R189; log 16). -/
def ManagementLink.busyRoom (m : ManagementLink) : Bool :=
  m.outgoing.length + m.waiting.flatten.length + 1 < Config.outgoingQueueSize && !m.restartedWaits

/-- A good message arrives (R185). -/
def State.messageArrives (c : Message) (s : State) : State :=
  let m := s.management
  if m.receiveQueue.length < Config.receiveQueueSize then
    { s with management := { m with receiveQueue := m.receiveQueue ++ [c] } }
  else if m.busyRoom then
    { s with management := { m with outgoing := m.outgoing ++ [c.response .busy .empty] } }.countRouter RouterCounters.addBusy
  else s.countRouter RouterCounters.addDiscarded

/-- What the receiver found is acted on (R183, R185). -/
def State.received (e : ReceiverEvent) (s : State) : State :=
  match e with
  | .message c => s.messageArrives c
  | .framingError => s.countRouter RouterCounters.addFraming

/-- The bytes the receiver has still to decide on when these arrive: those of the message being gathered come first (R183). -/
def ManagementLink.stream (bytes : List Byte) (m : ManagementLink) : List Byte :=
  match m.gathered with
  | some g => Config.startByte :: g.taken ++ bytes
  | none => bytes

/-- What the receiver found, acted on in order; then it hunts, or gathers with the whole of the 5 ms before it (R183, R184). -/
def State.afterScan (found : List ReceiverEvent × Option (List Byte)) (s : State) : State :=
  let t := found.1.foldl (fun s e => (s.received e).noteWaiting) s
  { t with management :=
      { t.management with gathered := found.2.map fun taken => { taken, left := Config.byteGap } } }

/-- Bytes arrive at the receiver (R183); no byte leaves it as it is. -/
def State.receive (bytes : List Byte) (s : State) : State :=
  match bytes with
  | [] => s
  | _ :: _ => s.afterScan (scan 0 (s.management.stream bytes))

/-! ## Taking a command (R186) -/

/-- The message leaves the receive queue, when no command is in progress, its response may enter, and it is the head; or the
queue is empty, the receiver hunts, and the message arrives and is taken at once (log 3): a receiver that is gathering would take its
bytes as part of another message (R183). None when it cannot be taken. -/
def State.takeHead (c : Message) (s : State) : Option State :=
  let m := s.management
  if m.running.isNone && m.mayEnter .response then
    match m.receiveQueue with
    | [] => if m.gathered.isNone && c.msg.good c.kind then some s else none
    | h :: rest => if h = c then some { s with management := { m with receiveQueue := rest } } else none
  else none

/-- The stored response of the last answered command, when the command's sequence and check repeat it (test 1 of R186). -/
def ManagementLink.repeated (m : ManagementLink) (c : Message) : Option OutMessage :=
  match m.last with
  | some l => if l.seq = c.msg.seq ∧ l.check = c.msg.check then some l.response else none
  | none => none

/-- The router is in START (R166). -/
def RouterState.isStart : RouterState → Bool
  | .start _ => true
  | _ => false

/-- The router is in START. -/
def State.inStart (s : State) : Bool := s.loader.state.isStart

/-- A message is taken and put to tests 1 and 3 of R186; `run` is what follows them. `inStart`: it is run in START (R167). -/
def State.take (c : Message) (inStart : Bool) (run : State → State) (s : State) : State :=
  match s.takeHead c with
  | none => s
  | some t =>
    match t.management.repeated c with
    | some r => { t with management := t.management.enter .response r }
    | none => if t.inStart && !inStart then t.respond c .notReady .empty else run t

/-- What a command run whole comes to: the state it leaves, its status, its values. -/
structure Reply where
  state : State
  status : Status
  values : Values
  deriving DecidableEq, Repr

/-- A command refused: no state changes and no values are returned (R191). -/
def refuse (status : Status) (s : State) : Reply := { state := s, status, values := .empty }

/-- A command taken: DONE with its values. -/
def done (values : Values) (s : State) : Reply := { state := s, status := .done, values }

/-- A command's act: none when its parameters do not have the length it requires (R186, R195). -/
abbrev Act := List Byte → State → Option Reply

/-- Tests 4 and 5 of R186, and the response. -/
def State.runAct (c : Message) (act : Act) (s : State) : State :=
  match act c.msg.params s with
  | none => s.respond c .badLength .empty
  | some r => r.state.respond c r.status r.values

/-- A host command other than the host-issued requests. -/
def hostCommand (kind : Byte) (m : HostMsg) (act : Act) : State → Host.Outcome State Fault Refusal :=
  event (State.take { kind, msg := m } false (State.runAct { kind, msg := m } act))

/-- A host command that is run in START as in any other state (R167). -/
def hostCommandInStart (kind : Byte) (m : HostMsg) (act : Act) : State → Host.Outcome State Fault Refusal :=
  event (State.take { kind, msg := m } true (State.runAct { kind, msg := m } act))

end Sys2Proof.Machine
end

