-- ==== Sys2Proof/Machine/Route.lean ====
section
/-! DEFINITION. What the route tables claim (R18 to R24) and the decision of a request or a notice (R45, R59), as the forwarding
unit and PROBE ROUTE both reach it. -/

namespace Sys2Proof.Machine

/-! ## Claims -/

/-- The window holds the point (R21); a closed window holds none. -/
def Window.holds (w : Window) (a : Word32) : Bool := w.base ≤ a && a ≤ w.limit

/-- The directed range claims the point: it is on, and open since it holds a point (R22). -/
def Directed.claims (d : Directed) (a : Word32) : Bool := d.on && d.base ≤ a && a ≤ d.limit

/-- The station range holds the station (R19, R23). -/
def StationRange.holds (r : StationRange) (st : Byte) : Bool := !r.isEmpty && r.first ≤ st && st ≤ r.last

/-- The window of a bay that claims the point; at most one of all bays does (R21, R29). -/
def RouteTables.windowClaim (r : RouteTables) (a : Word32) (b : Bay) : Option Claim :=
  if (r.bays.get b).general.value.holds a then some (.general b)
  else if (r.bays.get b).bulk.value.holds a then some (.bulk b)
  else none

/-- What claims a point (R21, R22, R24). -/
def RouteTables.claimOf (r : RouteTables) (a : Word32) : Claim :=
  if r.directed.value.claims a then .directed
  else (Bay.all.findSome? (r.windowClaim a)).getD .byDefault

/-- What claims a station, apart from the own station (R23). -/
def RouteTables.stationClaim (r : RouteTables) (st : Byte) : Claim :=
  (Bay.all.findSome? fun b => if (r.bays.get b).range.value.holds st then some (Claim.range b) else none).getD .byDefault

/-- The target a claim names for a frame from `i`; a frame from T that nothing claims has none (steps 2 to 4, N3 and N4). -/
def RouteTables.targetOf (r : RouteTables) (i : Origin) : Claim → Option Port
  | .directed => some r.directed.value.target.port
  | .general b => some b.port
  | .bulk b => some b.port
  | .range b => some b.port
  | .byDefault => if i = .link .t then none else some .t
  | .ownStation => none
  | .nothing => none

/-! ## Straddles (R2, R3, R22) -/

/-- The run from `base` to `limit` has a point in common with the span from `a` to `last`. -/
def meets (base limit a : Word32) (last : Nat) : Bool :=
  decide (base ≤ limit) && decide (base.toNat ≤ last) && decide (a ≤ limit)

/-- Some open window, or the directed range while it is on, has a point of the span. -/
def RouteTables.meetsSpan (r : RouteTables) (a : Word32) (last : Nat) : Bool :=
  (r.directed.value.on && meets r.directed.value.base r.directed.value.limit a last)
    || Bay.all.any fun b =>
      meets (r.bays.get b).general.value.base (r.bays.get b).general.value.limit a last
        || meets (r.bays.get b).bulk.value.base (r.bays.get b).bulk.value.limit a last

/-- The span of `n` points from `a` is a straddle, given what claims `a` (R3, R22). The last point is computed without losing
the carry, so a span that wraps lies outside every window (R2). -/
def RouteTables.straddles (r : RouteTables) (claim : Claim) (a : Word32) (n : Nat) : Bool :=
  let last := a.toNat + n - 1
  match claim with
  | .directed => r.directed.value.limit.toNat < last
  | .general b => (r.bays.get b).general.value.limit.toNat < last
  | .bulk b => (r.bays.get b).bulk.value.limit.toNat < last
  | _ => Config.pointSpace ≤ last || r.meetsSpan a last

/-! ## Decisions -/

/-- The outcome of a decision (R42); MATCH is the answers' own. -/
inductive Verdict where
  | place (p : Port)
  | inbox
  | refuse (status : AnsStatus) (c : Condition)
  | drop (c : Condition)
  deriving DecidableEq, Repr

/-- A decision: what claimed the point or station, the target when one was found, the outcome. -/
structure Decision where
  claim : Claim
  target : Option Port
  verdict : Verdict
  deriving DecidableEq, Repr

/-- Permits forbid a request from this ingress port to this target (steps 7 and N6; R19, R50). -/
def RouteTables.forbids (r : RouteTables) (i : Origin) (target : Port) : Bool :=
  match i with
  | .link p =>
    match p.bay? with
    | some b => if target = .t then !(r.bays.get b).permits.value.upstream else !(r.bays.get b).permits.value.peer
    | none => false
  | .m => false

/-- The router is FORWARDING (R166). -/
def State.isForwarding (s : State) : Bool := s.loader.state.name == .forwarding

/-- Decode steps 1 to 8 for a STORE or FETCH from `i` whose span is `n` points from `a` (R45). -/
def State.routeRequest (s : State) (i : Origin) (a : Word32) (n : Nat) : Decision :=
  if !s.isForwarding ∧ i ≠ .m then ⟨.nothing, none, .refuse .notReady .notReadyDrop⟩
  else
    let claim := s.routes.claimOf a
    match s.routes.targetOf i claim with
    | none => ⟨claim, none, .refuse .noRoute .noRoute⟩
    | some p =>
      ⟨claim, some p,
        if s.routes.straddles claim a n then .refuse .noRoute .straddle
        else if i = .link p then .refuse .loopback .loopback
        else if s.routes.forbids i p then .refuse .blocked .blocked
        else if !s.isUp p then .refuse .portDown .noRoute
        else .place p⟩

/-- The notice is to the router itself, and step N1 applies (R59). -/
def State.forOwnStation (s : State) (st : Byte) : Bool :=
  s.routes.ownStation.value != 0 && st == s.routes.ownStation.value && !s.inStart

/-- Decode steps N1 to N7 for a NOTICE from `i` to station `st` (R59). -/
def State.routeNotice (s : State) (i : Origin) (st : Byte) : Decision :=
  if s.forOwnStation st then ⟨.ownStation, none, .inbox⟩
  else if !s.isForwarding ∧ i ≠ .m then ⟨.nothing, none, .drop .notReadyDrop⟩
  else
    let claim := s.routes.stationClaim st
    match s.routes.targetOf i claim with
    | none => ⟨claim, none, .drop .noRoute⟩
    | some p =>
      ⟨claim, some p,
        if i = .link p then .drop .loopback
        else if s.routes.forbids i p then .drop .blocked
        else if !s.isUp p then .drop .noRoute
        else .place p⟩

/-- Drop-spoiled of an ingress port; M has none (R20). -/
def RouteTables.dropsSpoiled (r : RouteTables) : Origin → Bool
  | .link p => (r.dropSpoiled.get p).value
  | .m => false

/-- Steps 9 and 10 for a STORE that passed step 8 with this target (R52, R53). -/
def State.storeVerdict (s : State) (i : Origin) (len : Nat) (spoiled : Bool) (p : Port) : Verdict :=
  if s.isUp p && (s.port p).link.effectiveMax.any (· < len) then .drop .oversize
  else if spoiled && s.routes.dropsSpoiled i then .drop .spoiled
  else .place p

/-- The decision of a request-class head from `i` (R45, R59). -/
def State.decideHead {τ : Type} (s : State) (i : Origin) : Request τ → Verdict
  | .store a d sp =>
    match (s.routeRequest i a d.length).verdict with
    | .place p => s.storeVerdict i d.length sp p
    | v => v
  | .fetch a n _ _ => (s.routeRequest i a n).verdict
  | .notice st _ _ _ _ => (s.routeNotice i st).verdict

/-- A decision as PROBE ROUTE reports it (R39). -/
def State.probeReport (s : State) (d : Decision) : ProbeReport :=
  match d.verdict with
  | .place p =>
    { outcome := .place, claim := d.claim, target := some p, effectiveMax := (s.port p).link.effectiveMax, status := none,
      condition := none }
  | .inbox => { outcome := .inbox, claim := d.claim, target := none, effectiveMax := none, status := none, condition := none }
  | .refuse st c =>
    { outcome := .refuse, claim := d.claim, target := d.target, effectiveMax := none, status := some st, condition := some c }
  | .drop c =>
    { outcome := .drop, claim := d.claim, target := d.target, effectiveMax := none, status := none, condition := some c }

end Sys2Proof.Machine
end

