-- ==== Sys2Proof/Machine/Table.lean ====
section
/-! DEFINITION. The exchange table's own acts: admission (R74, R75), withdrawal of a QUEUED FETCH (R77), the unanswered end
(R84, R86), freeing an entry (R80, R82), and the host fetch buffer (R95, R96). -/

namespace Sys2Proof.Machine

/-- The entry counts toward this origin: OPEN or ORPHAN with that origin (R69). -/
def Entry.activeFor (o : Origin) : Entry → Bool
  | .opened x _ _ => x.origin.origin == o
  | .orphan x _ _ => x.origin.origin == o
  | _ => false

/-- The entry is FREE (R68). -/
def Entry.isFree : Entry → Bool
  | .free => true
  | _ => false

/-- The entry is OPEN (R68). -/
def Entry.isOpen : Entry → Bool
  | .opened _ _ _ => true
  | _ => false

/-- The router tags, lowest first. -/
def allTags : List RouterTag := List.finRange 64

/-- The active count of an origin (R69). -/
def State.activeCount (s : State) (o : Origin) : Nat := (allTags.filter fun i => (s.entry i).activeFor o).length

/-- The free count (R69). -/
def State.freeCount (s : State) : Nat := (allTags.filter fun i => (s.entry i).isFree).length

/-- The lowest-numbered FREE entry (R74). -/
def State.lowestFree (s : State) : Option RouterTag := allTags.find? fun i => (s.entry i).isFree

/-- The quota of an origin; M's is 1 (R70). -/
def State.quota (s : State) : Origin → Nat
  | .link p => (s.exchange.quotas.get p).value
  | .m => Config.quotaM

/-- What the admission test of R74 comes to: the entry taken, or the condition of a refusal, the quota tested first (R75). -/
def State.admission (s : State) (o : Origin) : Except Condition RouterTag :=
  if s.quota o ≤ s.activeCount o then .error .quotaRefused
  else
    match s.lowestFree with
    | some i => .ok i
    | none => .error .tableFull

/-- The entry a FETCH takes at admission (R74). -/
def State.openEntry (i : RouterTag) (origin : Requester) (dest : Port) (a : Word32) (n : Nat) (s : State) : State :=
  s.setEntry i
    (.opened { origin, dest, addr := a, len := n, answered := 0, pieces := 0 } .queued s.exchange.timers.value.timeout)

/-- A FETCH of this router tag. -/
def Request.isFetchOf (i : RouterTag) : Request RouterTag → Bool
  | .fetch _ _ t _ => t == i
  | _ => false

/-- The lane holds the FETCH of this router tag here. -/
def LaneRequest.isFetchOf (i : RouterTag) (r : LaneRequest) : Bool := r.request.isFetchOf i

/-- The port with the FETCH of this router tag out of its request lane: the frames behind it keep their order, and it counts as dropped
(R77), whichever origin it came from (R94). -/
def PortState.withdrawFetch (i : RouterTag) (x : PortState) : PortState :=
  if x.requestLane.any (LaneRequest.isFetchOf i) then
    PortState.count Counters.addDropped { x with requestLane := x.requestLane.eraseP (LaneRequest.isFetchOf i) }
  else x

/-- The FETCH of an entry is withdrawn from its destination's request lane (R77). -/
def State.withdraw (i : RouterTag) (dest : Port) (s : State) : State := s.modPort dest (PortState.withdrawFetch i)

/-- The FETCH is withdrawn when it is still QUEUED (R77). -/
def State.withdrawQueued (i : RouterTag) (x : Exchange) (issue : Issue) (s : State) : State :=
  match issue with
  | .queued => s.withdraw i x.dest
  | .sent => s

/-- The host fetch ends with this status and the data gathered (R95, R96). -/
def HostFetch.finish (status : AnsStatus) : HostFetch → HostFetch
  | .gathering i n d => .holding i n d status
  | h => h

/-- An answer's payload joins the host fetch buffer (R95). -/
def HostFetch.append (payload : List Byte) : HostFetch → HostFetch
  | .gathering i n d => .gathering i n (d ++ payload)
  | h => h

/-- The origin of an OPEN exchange is told of its unanswered end: a router-made final in any free slot, or the host fetch
buffer's end; no free slot, no answer (R84, R96). -/
def State.tellEnd (cause : EndCause) (origin : Requester) (s : State) : State :=
  match origin with
  | .link p tag =>
    if (s.port p).routerMadeRoom then s.modPort p (PortState.pushAnswer (routerMadeAnswer tag cause.status)) else s
  | .host => { s with hostFetch := s.hostFetch.finish cause.status }

/-- The entry enters QUARANTINE, or is FREE at once when the quarantine time is 0 (R86). -/
def State.toQuarantine (i : RouterTag) (x : Exchange) (cause : EndCause) (s : State) : State :=
  let q := s.exchange.timers.value.quarantine
  s.setEntry i (if q = 0 then .free else .quarantine x cause q)

/-- An exchange ends unanswered (R84 to R87, R89, R90). `withdraw`: a QUEUED FETCH is taken out of its lane (R77); not so when
the lane is emptied with its link (R87). A FREE or QUARANTINE entry is left as it is. -/
def State.endEntry (i : RouterTag) (cause : EndCause) (withdraw : Bool) (s : State) : State :=
  match s.entry i with
  | .opened x issue _ =>
    let t := s.tellEnd cause x.origin
    (if withdraw then t.withdrawQueued i x issue else t).toQuarantine i x cause
  | .orphan x issue _ => (if withdraw then s.withdrawQueued i x issue else s).toQuarantine i x cause
  | .free => s
  | .quarantine _ _ _ => s

/-- An entry becomes FREE by its final answer; a FETCH still QUEUED is withdrawn (R77, R80, R82, R95). -/
def State.freeEntry (i : RouterTag) (x : Exchange) (issue : Issue) (s : State) : State :=
  (s.withdrawQueued i x issue).setEntry i .free

/-- The exchange with one more answer forwarded (R82, R95). -/
def Exchange.forwarded (a : Answer) (x : Exchange) : Exchange :=
  { x with answered := x.answered + a.payload.length, pieces := x.pieces + 1 }

/-- An answer of an OPEN exchange has been forwarded: the entry counts it, or is freed by a final one (R82, R95). -/
def State.noteForwarded (i : RouterTag) (x : Exchange) (issue : Issue) (deadline : Nat) (a : Answer) (s : State) : State :=
  if a.final then s.freeEntry i x issue else s.setEntry i (.opened (x.forwarded a) issue deadline)

/-- The entry an answer's tag names; a tag of 64 or above names none (R78). -/
def State.lookup (s : State) (tag : Byte) : Option (RouterTag × Entry) :=
  if h : tag.toNat < 64 then some (⟨tag.toNat, h⟩, s.entry ⟨tag.toNat, h⟩) else none

/-- The fields of an answer as handed to the condition unit (R78 to R81, R147). -/
def State.answerSubject (s : State) (a : Answer) : Subject :=
  match s.lookup a.tag with
  | some x => a.subject x.2
  | none => a.subject .free

end Sys2Proof.Machine
end

