-- ==== Sys2Proof/Machine/Heads.lean ====
section
/-! DEFINITION. Heads and arbiters: who is a candidate of a lane (R108), what a grant does (R109, R56, R55, R82), how a head is
taken up, waits and is decided again (R41 to R44, R57, R83), and how an answer is matched (R78 to R82). -/

namespace Sys2Proof.Machine

/-! ## Candidates (R108) -/

/-- M's head while it holds AWAIT LANE: its request, its target, the ms left of its stall timer (R65). -/
def State.hostHead (s : State) : Option (Request Unit × Port × Nat) :=
  match s.management.running with
  | some { command := _, stage := .awaitLane h p l } => some (h, p, l)
  | _ => none

/-- The position holds a candidate for the request lane of `d`. -/
def State.wantsRequestLane (s : State) (d : Port) : Origin → Bool
  | .link p =>
    match (s.port p).requestWait with
    | some (.lane target _) => target == d
    | _ => false
  | .m =>
    match s.hostHead with
    | some (_, target, _) => target == d
    | none => false

/-- The port's request head is a refused FETCH that wants a slot of its own answer lane (R55). -/
def State.wantsAnswerSlot (s : State) (p : Port) : Bool :=
  match (s.port p).requestWait with
  | some (.answerSlot _ _) => true
  | _ => false

/-- The OPEN exchange of a port's answer head that holds AWAIT MATCH (R82). -/
def State.awaitedMatch (s : State) (p : Port) : Option (Answer × RouterTag × Exchange × Issue × Nat) :=
  match (s.port p).answerWait, (s.port p).answers with
  | some _, a :: _ =>
    match s.lookup a.tag with
    | some (i, .opened x issue d) => some (a, i, x, issue, d)
    | _ => none
  | _, _ => none

/-- The port's answer head waits for room in the answer lane of `o`. -/
def State.wantsForward (s : State) (p o : Port) : Bool :=
  match s.awaitedMatch p with
  | some (_, _, x, _, _) => x.origin.origin == .link o
  | none => false

/-- The position holds a candidate that has room in this lane of `d` (R103, R108). -/
def State.isCandidate (s : State) (d : Port) (c : FrameClass) (o : Origin) : Bool :=
  match c, o with
  | .request, o => s.wantsRequestLane d o && (s.port d).requestRoom
  | .answer, .link p =>
    (p == d && s.wantsAnswerSlot d && (s.port d).routerMadeRoom) || (s.wantsForward p d && (s.port d).forwardedRoom)
  | .answer, .m => false

/-- The candidates that have room, in cycle order from the position after the pointer (R109). -/
def State.candidates (s : State) (d : Port) (c : FrameClass) : List Origin :=
  (Origin.after ((s.port d).pointer.get c)).filter (s.isCandidate d c)

/-! ## Grants of an answer lane -/

/-- The refused FETCH at the head of the port's request class is answered: its router-made answer enters the port's answer lane
and the FETCH leaves its class as dropped (R55). -/
def State.grantSlot (p : Port) (s : State) : State :=
  match (s.port p).requestWait, (s.port p).requests with
  | some (.answerSlot st _), .fetch _ _ tag _ :: _ =>
    ((s.modPort p (PortState.pushAnswer (routerMadeAnswer tag st))).dropRequest p).setPointer p .answer (.link p)
  | _, _ => s

/-- The answer at the head of `p`'s answer class is forwarded to the answer lane of `o` with the origin tag restored (R82). -/
def State.grantForward (p o : Port) (s : State) : State :=
  match s.awaitedMatch p with
  | some (a, i, x, issue, d) =>
    match x.origin with
    | .link q tag =>
      if q = o then
        (((s.modPort o (PortState.pushAnswer { answer := { a with tag := tag }, routerMade := false })).noteForwarded i x issue d
          a).modPort p PortState.popAnswer).setPointer o .answer (.link p)
      else s
    | .host => s
  | none => s

/-- The answer lane of `d` is granted to this position (R109). -/
def State.grantAnswerLane (d : Port) (o : Origin) (s : State) : State :=
  match o with
  | .link p => if p = d ∧ s.wantsAnswerSlot d ∧ (s.port d).routerMadeRoom then s.grantSlot d else s.grantForward p d
  | .m => s

/-! ## Refusals and grants of a request lane -/

/-- A head that has become a candidate is granted at once when it is the only candidate that has room (R109; log 9). -/
def State.offerAnswerLane (d : Port) (o : Origin) (s : State) : State :=
  if s.candidates d .answer = [o] then s.grantAnswerLane d o else s

/-- The request head of `p` has been refused: a FETCH wants an answer slot, its stall timer with `left` ms; a STORE or a NOTICE is
discarded (R54, R55, R60). -/
def State.refuseHead (p : Port) (r : Request Byte) (status : AnsStatus) (left : Nat) (s : State) : State :=
  match r with
  | .fetch _ _ _ _ =>
    (s.modPort p fun x => { x with requestWait := some (.answerSlot status left) }).offerAnswerLane p (.link p)
  | .store _ _ _ => s.dropRequest p
  | .notice _ _ _ _ _ => s.dropRequest p

/-- A request enters the tail of a request lane, and the arbiter's pointer goes to its position (R56, R109). -/
def State.placeRequest (d : Port) (o : Origin) (r : Request RouterTag) (s : State) : State :=
  (s.modPort d (PortState.pushRequest ⟨r, o⟩)).setPointer d .request o

/-- The request lane of `d` is granted to the head of `p`'s request class: the head is placed, or, a FETCH that admission
refuses, is refused TABLE FULL and keeps its stall timer (R56, R74, R75). -/
def State.grantLink (d p : Port) (s : State) : State :=
  match (s.port p).requestWait, (s.port p).requests with
  | some (.lane _ left), r :: _ =>
    match r with
    | .fetch a n tag sp =>
      match s.admission (.link p) with
      | .ok i =>
        ((s.openEntry i (.link p tag) d a n).placeRequest d (.link p) (.fetch a n i sp)).modPort p PortState.popRequest
      | .error c => ((s.setPointer d .request (.link p)).detect (.link p) c r.subject).refuseHead p r .tableFull left
    | .store a b sp => (s.placeRequest d (.link p) (.store a b sp)).modPort p PortState.popRequest
    | .notice t f c b sp => (s.placeRequest d (.link p) (.notice t f c b sp)).modPort p PortState.popRequest
  | _, _ => s

/-- The request lane of `d` is granted to M's head: it is placed, or its FETCH is refused TABLE FULL, and its command has its
result (R64, R66, R93). -/
def State.grantHost (d : Port) (s : State) : State :=
  match s.hostHead with
  | some (.fetch a n u sp, _, _) =>
    match s.admission .m with
    | .ok i =>
      State.conclude .done (.fetchIssued i d)
        { (s.openEntry i .host d a n).placeRequest d .m (.fetch a n i sp) with hostFetch := .gathering i n [] }
    | .error c =>
      ((s.setPointer d .request .m).detect .m c (Request.fetch a n u sp).hostSubject).conclude (.answer .tableFull) .empty
  | some (.store a b sp, _, _) => (s.placeRequest d .m (.store a b sp)).conclude .done (.target d)
  | some (.notice t f c b sp, _, _) => (s.placeRequest d .m (.notice t f c b sp)).conclude .done (.noticeWent (some d))
  | none => s

/-- The request lane of `d` is granted to this position. -/
def State.grantRequestLane (d : Port) (o : Origin) (s : State) : State :=
  match o with
  | .link p => s.grantLink d p
  | .m => s.grantHost d

/-- A head that has become a candidate is granted at once when it is the only candidate that has room (R109; log 9). -/
def State.offerRequestLane (d : Port) (o : Origin) (s : State) : State :=
  if s.candidates d .request = [o] then s.grantRequestLane d o else s

/-! ## Request heads (R41 to R44) -/

/-- The station inbox is full (R61). -/
def State.inboxFull (s : State) : Bool := Config.inboxSize ≤ s.inbox.length

/-- A notice decided INBOX is appended, or overflows (R62). -/
def State.appendInbox (r : NoticeRecord) (s : State) : State :=
  if s.inboxFull then (s.latch .router .inboxOverflow).countRouter RouterCounters.addInboxDrop
  else { s with inbox := s.inbox ++ [r] }.latch .router .inboxArrival

/-- The record of a notice in the station inbox (R61, R62). -/
def Request.record {τ : Type} (arrival : Origin) : Request τ → Option NoticeRecord
  | .notice _ source code payload spoiled => some { source, arrival, code, payload, spoiled }
  | _ => none

/-- A notice head decided INBOX leaves its class; one that overflows counts as dropped (R43, R62). -/
def State.inboxHead (p : Port) (r : Request Byte) (s : State) : State :=
  match r.record (.link p) with
  | some x =>
    if s.inboxFull then (s.appendInbox x).dropRequest p else (s.appendInbox x).modPort p PortState.popRequest
  | none => s

/-- The request head of `p` is taken up and decided (R41 to R45, R59). SPOILED is latched first; a drop at step 10 adds no
second latch (R44, R53). -/
def State.takeUpRequest (p : Port) (r : Request Byte) (s : State) : State :=
  let t := if r.spoiled then s.detect (.link p) .spoiled r.subject else s
  match t.decideHead (.link p) r with
  | .place d =>
    (t.modPort p fun x => { x with requestWait := some (.lane d t.stallLimit.value) }).offerRequestLane d (.link p)
  | .inbox => t.inboxHead p r
  | .refuse st c => (t.detect (.link p) c r.subject).refuseHead p r st t.stallLimit.value
  | .drop .spoiled => t.dropRequest p
  | .drop c => (t.detect (.link p) c r.subject).dropRequest p

/-- The heads of a request class are taken up one after another until one waits or the class is empty; at most `n`. -/
def State.serveRequestsUpTo : Nat → Port → State → State
  | 0, _, s => s
  | n + 1, p, s =>
    match (s.port p).requestWait, (s.port p).requests with
    | none, r :: _ => State.serveRequestsUpTo n p (s.takeUpRequest p r)
    | _, _ => s

/-- The heads of a request class are taken up until one waits or the class is empty (R41). -/
def State.serveRequests (p : Port) (s : State) : State := s.serveRequestsUpTo (s.port p).requests.length p

/-! ## Answer heads (R58, R78 to R83) -/

/-- An answer of an OPEN exchange, its first deciding tests and what follows (R81, R82, R95). `left`: the stall timer it waits
under if it must. -/
def State.matchOpen (p : Port) (a : Answer) (i : RouterTag) (x : Exchange) (issue : Issue) (d : Nat) (s : State) : State :=
  let subject := s.answerSubject a
  if a.status = .good ∧ x.len < x.answered + a.payload.length then
    ((s.detect (.link p) .overrun subject).dropAnswer p).endEntry i .overrun true
  else
    match x.origin with
    | .host =>
      let t := s.noteForwarded i x issue d a
      let buffer := t.hostFetch.append a.payload
      { t with hostFetch := if a.final then buffer.finish a.status else buffer }.modPort p PortState.popAnswer
    | .link o _ =>
      if a.status = .good ∧ (s.port o).link.effectiveMax.any (· < a.payload.length) then
        ((s.detect (.link p) .oversize subject).dropAnswer p).endEntry i .oversize true
      else
        (s.modPort p fun y => { y with answerWait := some (y.answerWait.getD s.stallLimit.value) }).offerAnswerLane o (.link p)

/-- The answer head of `p` is matched by its tag (R78 to R82). -/
def State.matchAnswer (p : Port) (a : Answer) (s : State) : State :=
  let stray := (s.detect (.link p) .strayAnswer (s.answerSubject a)).dropAnswer p
  match s.lookup a.tag with
  | none => stray
  | some (_, .free) => stray
  | some (i, .opened x issue d) => if x.dest = p then s.matchOpen p a i x issue d else stray
  | some (i, .orphan x issue _) =>
    if x.dest = p then if a.final then (s.dropAnswer p).freeEntry i x issue else s.dropAnswer p
    else stray
  | some (_, .quarantine x _ _) =>
    if x.dest = p then (s.detect (.link p) .lateAnswer (s.answerSubject a)).dropAnswer p else stray

/-- The answer head of `p` is taken up: SPOILED is latched first, before any entry is looked up, so without an origin tag
(R44, R58, R147). -/
def State.takeUpAnswer (p : Port) (a : Answer) (s : State) : State :=
  (if a.spoiled then s.detect (.link p) .spoiled (a.subject .free) else s).matchAnswer p a

/-- The heads of an answer class are taken up one after another until one waits or the class is empty; at most `n`. -/
def State.serveAnswersUpTo : Nat → Port → State → State
  | 0, _, s => s
  | n + 1, p, s =>
    match (s.port p).answerWait, (s.port p).answers with
    | none, a :: _ => State.serveAnswersUpTo n p (s.takeUpAnswer p a)
    | _, _ => s

/-- The heads of an answer class are taken up until one waits or the class is empty (R41). -/
def State.serveAnswers (p : Port) (s : State) : State := s.serveAnswersUpTo (s.port p).answers.length p

/-- An answer head that holds AWAIT MATCH for an entry that is OPEN no more is matched again, and the heads behind it are taken up
(R83). -/
def State.rematch (p : Port) (s : State) : State :=
  match (s.port p).answerWait, (s.port p).answers with
  | some _, a :: _ => if (s.awaitedMatch p).isSome then s else (s.matchAnswer p a).serveAnswers p
  | _, _ => s

/-- An exchange ends unanswered, and an answer that waits for it is matched again (R83, R84). -/
def State.endAndRematch (i : RouterTag) (cause : EndCause) (s : State) : State :=
  match (s.entry i).exchange? with
  | some x => (s.endEntry i cause true).rematch x.dest
  | none => s

/-! ## Decided again (R57) -/

/-- The request head of `p`, which holds AWAIT LANE, is decided again as refused, and the heads behind it are taken up (R57). -/
def State.redecideLink (p : Port) (status : AnsStatus) (c : Condition) (s : State) : State :=
  match (s.port p).requestWait, (s.port p).requests with
  | some (.lane _ left), r :: _ => ((s.detect (.link p) c r.subject).refuseHead p r status left).serveRequests p
  | _, _ => s

/-- M's head is decided again as refused at step 8 or N7: its command is answered PORT DOWN (R57, R64, R66, R93). -/
def State.redecideHost (s : State) : State :=
  match s.hostHead with
  | some (h, _, _) => (s.detect .m .noRoute h.hostSubject).conclude (.answer .portDown) .empty
  | none => s

/-- Every link head that holds AWAIT LANE is decided again at step 1 or N2: the router has left FORWARDING (R57). The spec gives the
ports no order; T goes first and B6 last, each with the heads behind it taken up before the next port: the model's choice (log 29). It
shows in which detection fills an EMPTY capture (R148). -/
def State.redecideAll (s : State) : State :=
  Port.all.foldl (fun s p => s.redecideLink p .notReady .notReadyDrop) s

/-- Every head that waits for the request lane of `d` is decided again at step 8 or N7: its link has left UP (R57). R57 and R131 give
the heads no order; T goes first, B6 last and M after them, and the heads behind each are taken up and decided before the next port's
waiting head is decided again and before any answer is matched again: the model's choice (log 21). -/
def State.redecideFor (d : Port) (s : State) : State :=
  let t := Port.all.foldl (fun s p => if s.wantsRequestLane d (.link p) then s.redecideLink p .portDown .noRoute else s) s
  if t.wantsRequestLane d .m then t.redecideHost else t

/-! ## The arbiter's row (R109) -/

/-- The heads behind the one at this position are taken up. -/
def State.serveOrigin (c : FrameClass) (o : Origin) (s : State) : State :=
  match c, o with
  | .request, .link p => s.serveRequests p
  | .answer, .link p => (s.serveAnswers p).serveRequests p
  | _, .m => s

/-- Admission would refuse the FETCH at this position's head (R75). -/
def State.admissionRefuses (s : State) (o : Origin) : Bool :=
  let isFetch :=
    match o with
    | .link p => match (s.port p).requests with | .fetch _ _ _ _ :: _ => true | _ => false
    | .m => match s.hostHead with | some (.fetch _ _ _ _, _, _) => true | _ => false
  isFetch && match s.admission o with | .ok _ => false | .error _ => true

/-- The room of a request lane is granted to the first candidate; one that admission refuses leaves the room to the next
(R109). The heads behind a refused FETCH are taken up before the room goes to the next candidate, an order the spec leaves open: the
model's choice (log 31). -/
def State.grantDown (d : Port) : List Origin → State → State
  | [], s => s
  | o :: rest, s =>
    if s.isCandidate d .request o then
      let t := (s.grantRequestLane d o).serveOrigin .request o
      if s.admissionRefuses o then State.grantDown d rest t else t
    else State.grantDown d rest s

/-- The arbiter of a lane grants room to the next candidate in cycle order (R109). -/
def State.grantLane (d : Port) (c : FrameClass) (s : State) : State :=
  match c with
  | .request => s.grantDown d (s.candidates d .request)
  | .answer =>
    match s.candidates d .answer with
    | o :: _ => (s.grantAnswerLane d o).serveOrigin .answer o
    | [] => s

end Sys2Proof.Machine
end

