-- ==== Sys2Proof/Machine/LinkOps.lean ====
section
/-! DEFINITION. What a link does whole: entering TRAINING (R123, R124), coming UP (R127, R116), failing an attempt (R126), leaving
UP with everything that follows from it (R131, R114, R87, R88, R57, R83), and the damaged-frame budget (R129). -/

namespace Sys2Proof.Machine

/-- DOWN at the start of a quiet interval (R123). -/
def Link.freshDown : Link := .down (some Config.quietTime)

/-- The port goes to a link state that is neither TRAINING nor UP. -/
def State.setLink (p : Port) (l : Link) (s : State) : State := s.modPort p fun x => { x with link := l }

/-- The offered max of the current attempt (R120, R124). -/
def PortState.offeredMax (x : PortState) : Nat := x.offered.getD x.settings.value.max

/-- The port enters TRAINING: the offered max is fixed and the greeting goes out (R124; log 14). -/
def State.startTraining (p : Port) (s : State) : State :=
  let offer := (s.port p).settings.value.max
  (s.modPort p fun x =>
    { x with
      link := .training { left := Config.attemptTime, greeted := true, kept := none, accepted := false }
      offered := some offer }).emit (.greeting p (greetingBytes offer))

/-- A DOWN port whose quiet interval has ended enters TRAINING when the partner signal is present (R123). -/
def State.tryTraining (p : Port) (s : State) : State :=
  match (s.port p).link with
  | .down none => if s.pins.signal.get p then s.startTraining p else s
  | _ => s

/-- The port enters UP: greeting record, effective max, credits, attempt count, damaged window, LINK_UP (R127, R116). -/
def State.comeUp (p : Port) (g : Greeting) (s : State) : State :=
  (s.modPort p fun x =>
    { x with
      link := .up (min x.offeredMax g.capability)
      attempts := 0
      greeting := some g
      window := []
      granted := ⟨Config.ingressSize, Config.ingressSize⟩
      owed := ⟨0, 0⟩
      partner := ⟨g.requestCredits, g.answerCredits⟩ }).latch (.origin (.link p)) .linkUp

/-- The attempt goes on with this progress, or succeeds when a greeting is kept and an accept has come (R124). -/
def State.progress (p : Port) (a : Attempt) (s : State) : State :=
  match a.kept with
  | some g => if a.accepted then s.comeUp p g else s.setLink p (.training a)
  | none => s.setLink p (.training a)

/-- A training attempt fails (R126). -/
def State.failAttempt (p : Port) (cause : FailCause) (s : State) : State :=
  let n := (s.port p).attempts + 1
  let t := s.modPort p fun x => { x with attempts := n, failCause := some cause }
  if n < Config.attemptsMax then t.setLink p Link.freshDown
  else (t.setLink p .failed).latch (.origin (.link p)) .linkFailed

/-- Counters with `n` more frames dropped (R114). -/
def Counters.addDroppedBy (n : Nat) (c : Counters) : Counters := { c with dropped := c.dropped + BitVec.ofNat 32 n }

/-- The frames that count as dropped when the link leaves UP: both classes, the request lane, the forwarded answers (R114); a STORE from
M in the request lane is not counted (R64). -/
def PortState.emptied (x : PortState) : Nat :=
  x.requests.length + x.answers.length + (x.requestLane.filter LaneRequest.countsEmptied).length + forwardedCount x.answerLane

/-- The port as its link leaves UP: buffers and lanes emptied and counted, credits 0, window empty, down cause set; the pointers
and the greeting record stay (R114, R129, R131). -/
def PortState.leaveUp (l : Link) (cause : DownCause) (x : PortState) : PortState :=
  { x with
    link := l
    downCause := some cause
    window := []
    requests := []
    requestWait := none
    answers := []
    answerWait := none
    granted := ⟨0, 0⟩
    owed := ⟨0, 0⟩
    requestLane := []
    answerLane := []
    partner := ⟨0, 0⟩
    sending := none
    counters := x.counters.addDroppedBy x.emptied }

/-- Every entry with this destination ends LINK LOST, in index order (R87). -/
def State.endLinkLost (p : Port) (s : State) : State :=
  allTags.foldl
    (fun s i => if (s.entry i).exchange?.any fun x => x.dest == p then s.endEntry i .linkLost false else s) s

/-- An OPEN entry with this origin becomes ORPHAN (R88). -/
def Entry.orphaned (p : Port) (e : Entry) : Entry :=
  match e with
  | .opened x i d => if x.origin.origin = .link p then .orphan x i d else e
  | _ => e

/-- Every OPEN entry with this origin becomes ORPHAN (R88). -/
def State.orphan (p : Port) (s : State) : State :=
  { s with exchange := { s.exchange with entries := s.exchange.entries.map (Entry.orphaned p) } }

/-- The link of `p` leaves UP into `l`, other than by a reset, with everything that belongs to the transition (R131; its order:
log 21). -/
def State.leaveUp (p : Port) (l : Link) (cause : DownCause) (s : State) : State :=
  let t := ((s.latch (.origin (.link p)) .linkDown).modPort p (PortState.leaveUp l cause)).endLinkLost p
  let u := (t.orphan p).redecideFor p
  Port.all.foldl (fun s q => s.rematch q) u

/-- A damaged frame or greeting is counted, and while UP joins the damaged window or, as the eighth within 10 ms, takes the link
DOWN (R14, R129). -/
def State.damaged (p : Port) (s : State) : State :=
  let t := s.modPort p (PortState.count Counters.addDamaged)
  if t.isUp p then
    if Config.damagedBudget ≤ (t.port p).window.length then t.leaveUp p Link.freshDown .budget
    else t.modPort p fun x => { x with window := x.window ++ [Config.damagedTime] }
  else t

end Sys2Proof.Machine
end

