-- ==== Sys2Proof/Machine/Resets.lean ====
section
/-! DEFINITION. The three resets, the one way in which the router begins anew: power-on (R168, R194), trunk reset (R169) and
command reset (R170), with what each block does at them (R40, R61, R67, R99, R118, R137, R154, R165, R171, R178). -/

namespace Sys2Proof.Machine

/-- The sticky names of a set, which a trunk reset and a command reset keep (R144, R154). -/
def keepSticky (names : List Condition) : List Condition := names.filter Condition.sticky

/-- The condition unit after a trunk reset or a command reset (R154). -/
def ConditionUnit.afterReset (c : ConditionUnit) : ConditionUnit :=
  { ConditionUnit.reset with
    sets :=
      { ports := c.sets.ports.map keepSticky, host := keepSticky c.sets.host, router := keepSticky c.sets.router } }

/-- The lost host fetch as a trunk reset or a command reset records it: a reset during START that finds the buffer EMPTY leaves
the value (R177, R178). -/
def State.lostFetch (s : State) : Option (RouterTag × Bool) :=
  match s.hostFetch with
  | .gathering i _ _ => some (i, false)
  | .holding i _ _ _ => some (i, true)
  | .empty => if s.inStart then s.loader.report.lostFetch else none

/-- Every block but the management link after a trunk reset or a command reset (R171's list). -/
def State.resetBlocks (cause : ResetCause) (s : State) : State :=
  { s with
    routes := RouteTables.reset
    inbox := []
    exchange := ExchangeTable.reset
    hostFetch := .empty
    ports := PerPort.const PortState.reset
    stallLimit := ⟨10, false⟩
    conditions := s.conditions.afterReset
    notification := NotificationUnit.reset
    loader := Loader.begin cause s.lostFetch }

/-- A host request that holds AWAIT LANE is discarded and its command answered NOT READY (R67). -/
def State.endHostHead (s : State) : State := if s.hostHead.isSome then s.conclude .notReady .empty else s

/-- A RESET symbol goes out on every bay port that is UP (R137, R169). The spec gives the bays no order; in `wire` B1's stands first and
B6's last: the model's choice (log 33). -/
def State.resetBays (s : State) : State :=
  Bay.all.foldl (fun s b => if s.isUp b.port then s.emit (.resetSymbol b.port) else s) s

/-- The trunk reset (R169). -/
def State.trunkReset (s : State) : State := s.resetBays.endHostHead.resetBlocks .trunkReset

/-- The command reset (R170). -/
def State.commandReset (s : State) : State := s.resetBlocks .commandReset

/-- The power-on values of every block, with the straps at these levels; PORN, the partner signals, the queue of commands and the
wires stand outside (R168, R182, R194). -/
def State.powerOn (porn rate1 rate0 : Bool) (s : State) : State :=
  { State.reset with
    pending := s.pending
    pins := ⟨porn, rate1, rate0, s.pins.signal⟩
    management := ManagementLink.reset rate1 rate0
    wire := s.wire }

end Sys2Proof.Machine
end

