-- ==== Sys2Proof/Machine/RouteCommands.lean ====
section
/-! DEFINITION. The commands of chapter 2: writing the route tables in the order of R25, READ ROUTES, PROBE ROUTE. A write has one act
for the host and for a load record; `forwarding` is what its checks take the router state to be (R26, R175), and `fix` says that
the record carries the fix attribute (R33, R174). -/

namespace Sys2Proof.Machine

/-- The act of a command that may stand in a load record: what its checks take the router state to be, and the fix attribute. -/
abbrev SettingAct := Bool → Bool → Act

/-- A configuration item written: none when its fixed mark is set and the write would change it (R34, R73, R113, R122, R142, R158);
the fix attribute sets the mark (R174). -/
def Setting.write {α : Type} [DecidableEq α] (x : Setting α) (v : α) (fix : Bool) : Option (Setting α) :=
  if x.fixed ∧ x.value ≠ v then none else some ⟨v, x.fixed || fix⟩

/-- The fixed check and the write of an item, after the value check; `next` is what follows with the new item. -/
def writeItem {α : Type} [DecidableEq α] (x : Setting α) (v : α) (fix : Bool) (s : State) (next : Setting α → Reply) : Reply :=
  match x.write v fix with
  | none => refuse .fixed s
  | some y => next y

/-- The route tables replaced. -/
def State.setRoutes (r : RouteTables) (s : State) : State := { s with routes := r }

/-! ## SET STATION (R26) -/

/-- The station lies in a nonempty bay range (R26). -/
def RouteTables.inSomeRange (r : RouteTables) (st : Byte) : Bool := Bay.all.any fun b => (r.bays.get b).range.value.holds st

/-- The checks and effect of SET STATION, in the order of R25. -/
def setStationTo (st : Byte) (forwarding fix : Bool) (s : State) : Reply :=
  if st = 255 then refuse .badValue s
  else
    writeItem s.routes.ownStation st fix s fun y =>
      if st ≠ 0 ∧ s.routes.inSomeRange st then refuse .conflict s
      else if st = 0 ∧ forwarding then refuse .wrongState s
      else done .empty (s.setRoutes { s.routes with ownStation := y })

/-- SET STATION (station), R26. -/
def actSetStation : SettingAct := fun forwarding fix params s =>
  match params with
  | [st] => some (setStationTo st forwarding fix s)
  | _ => none

/-! ## SET BAY RANGE (R27) -/

/-- Two ranges share a station: both are nonempty, and neither lies wholly above the other (R27). -/
def StationRange.shares (x y : StationRange) : Bool := !x.isEmpty && !y.isEmpty && x.first ≤ y.last && y.first ≤ x.last

/-- The new range of a bay would share a station with another bay's, or contain the nonzero own station (R27). -/
def RouteTables.rangeConflict (r : RouteTables) (b : Bay) (x : StationRange) : Bool :=
  (Bay.all.any fun c => c != b && x.shares (r.bays.get c).range.value)
    || (r.ownStation.value != 0 && x.holds r.ownStation.value)

/-- The checks and effect of SET BAY RANGE, in the order of R25. -/
def setBayRangeTo (b : Bay) (x : StationRange) (fix : Bool) (s : State) : Reply :=
  if x.first = 255 ∨ x.last = 255 then refuse .badValue s
  else
    let rec₀ := s.routes.bays.get b
    writeItem rec₀.range x fix s fun y =>
      if s.routes.rangeConflict b x then refuse .conflict s
      else done .empty (s.setRoutes { s.routes with bays := s.routes.bays.set b { rec₀ with range := y } })

/-- SET BAY RANGE (bay, first, last), R27. -/
def actSetBayRange : SettingAct := fun _ fix params s =>
  match params with
  | [b, f, l] =>
    match Bay.ofByte b with
    | some bay => some (setBayRangeTo bay ⟨f, l⟩ fix s)
    | none => some (refuse .badValue s)
  | _ => none

/-! ## SET WINDOW (R28, R29) -/

/-- The two kinds of window (R19). -/
inductive WindowKind where
  | general | bulk
  deriving DecidableEq, Repr

/-- The window of a kind in a bay record. -/
def BayRecord.window (r : BayRecord) : WindowKind → Setting Window
  | .general => r.general
  | .bulk => r.bulk

/-- The bay record with the window of a kind replaced. -/
def BayRecord.setWindow (r : BayRecord) (k : WindowKind) (w : Setting Window) : BayRecord :=
  match k with
  | .general => { r with general := w }
  | .bulk => { r with bulk := w }

/-- The window kind of a byte (R195). -/
def WindowKind.ofByte (b : Byte) : Option WindowKind :=
  match b.toNat with
  | 0 => some .general
  | 1 => some .bulk
  | _ => none

/-- The low bits of a window's base, which must be clear, and of its limit, which must be set (R28). -/
def WindowKind.mask : WindowKind → Word32
  | .general => 0x00000FFF
  | .bulk => 0x000FFFFF

/-- Base and limit are aligned for the kind (R28). -/
def Window.aligned (w : Window) (k : WindowKind) : Bool := w.base &&& k.mask == 0 && w.limit &&& k.mask == k.mask

/-- Two windows share a point: both are open, and neither lies wholly above the other (R29). -/
def Window.shares (x y : Window) : Bool := x.isOpen && y.isOpen && x.base ≤ y.limit && y.base ≤ x.limit

/-- The new window would share a point with another open window of any bay (R29). -/
def RouteTables.windowConflict (r : RouteTables) (b : Bay) (k : WindowKind) (w : Window) : Bool :=
  Bay.all.any fun c =>
    ((c != b || k != .general) && w.shares (r.bays.get c).general.value)
      || ((c != b || k != .bulk) && w.shares (r.bays.get c).bulk.value)

/-- The checks and effect of SET WINDOW, in the order of R25. -/
def setWindowTo (b : Bay) (k : WindowKind) (w : Window) (fix : Bool) (s : State) : Reply :=
  if !w.aligned k then refuse .badValue s
  else
    let rec₀ := s.routes.bays.get b
    writeItem (rec₀.window k) w fix s fun y =>
      if s.routes.windowConflict b k w then refuse .conflict s
      else done .empty (s.setRoutes { s.routes with bays := s.routes.bays.set b (rec₀.setWindow k y) })

/-- SET WINDOW (bay, kind, base, limit), R28. -/
def actSetWindow : SettingAct := fun _ fix params s =>
  match params with
  | [b, k, b3, b2, b1, b0, l3, l2, l1, l0] =>
    match Bay.ofByte b, WindowKind.ofByte k with
    | some bay, some kind => some (setWindowTo bay kind ⟨word32 b3 b2 b1 b0, word32 l3 l2 l1 l0⟩ fix s)
    | _, _ => some (refuse .badValue s)
  | _ => none

/-! ## SET DIRECTED, SET PERMITS, SET SPOILED (R30, R31, R32) -/

/-- The directed range's granularity of 256 bytes (R18, R30). -/
def Directed.aligned (d : Directed) : Bool := d.base &&& 0xFF == 0 && d.limit &&& 0xFF == 0xFF

/-- The checks and effect of SET DIRECTED. -/
def setDirectedTo (d : Directed) (fix : Bool) (s : State) : Reply :=
  if !d.aligned then refuse .badValue s
  else writeItem s.routes.directed d fix s fun y => done .empty (s.setRoutes { s.routes with directed := y })

/-- SET DIRECTED (base, limit, target, switch), R30. -/
def actSetDirected : SettingAct := fun _ fix params s =>
  match params with
  | [b3, b2, b1, b0, l3, l2, l1, l0, target, switch] =>
    match Bay.ofByte target, flagOfByte switch with
    | some bay, some on => some (setDirectedTo ⟨word32 b3 b2 b1 b0, word32 l3 l2 l1 l0, bay, on⟩ fix s)
    | _, _ => some (refuse .badValue s)
  | _ => none

/-- The effect of SET PERMITS. -/
def setPermitsTo (b : Bay) (x : Permits) (fix : Bool) (s : State) : Reply :=
  let rec₀ := s.routes.bays.get b
  writeItem rec₀.permits x fix s fun y =>
    done .empty (s.setRoutes { s.routes with bays := s.routes.bays.set b { rec₀ with permits := y } })

/-- SET PERMITS (bay, upstream, peer), R31. -/
def actSetPermits : SettingAct := fun _ fix params s =>
  match params with
  | [b, u, p] =>
    match Bay.ofByte b, flagOfByte u, flagOfByte p with
    | some bay, some upstream, some peer => some (setPermitsTo bay ⟨upstream, peer⟩ fix s)
    | _, _, _ => some (refuse .badValue s)
  | _ => none

/-- The effect of SET SPOILED. -/
def setSpoiledTo (p : Port) (drop : Bool) (fix : Bool) (s : State) : Reply :=
  writeItem (s.routes.dropSpoiled.get p) drop fix s fun y =>
    done .empty (s.setRoutes { s.routes with dropSpoiled := s.routes.dropSpoiled.set p y })

/-- SET SPOILED (port, drop), R32. -/
def actSetSpoiled : SettingAct := fun _ fix params s =>
  match params with
  | [p, d] =>
    match Port.ofByte p, flagOfByte d with
    | some port, some drop => some (setSpoiledTo port drop fix s)
    | _, _ => some (refuse .badValue s)
  | _ => none

/-! ## READ ROUTES, PROBE ROUTE (R37, R38, R39) -/

/-- READ ROUTES (selector), R37. -/
def actReadRoutes : Act := fun params s =>
  match params with
  | [sel] =>
    some
      (match SetId.ofByte sel with
      | some .router => done (.routesRouter s.routes.ownStation s.routes.directed) s
      | some (.origin (.link p)) =>
        match p.bay? with
        | some b => done (.routesBay (s.routes.bays.get b) (s.routes.dropSpoiled.get p)) s
        | none => done (.routesT (s.routes.dropSpoiled.get p)) s
      | some (.origin .m) => refuse .badValue s
      | none => refuse .badValue s)
  | _ => none

/-- A field of `n` bytes that is present only in some cases: a presence byte, then the field; and the bytes after it (R195). -/
def optionalField (n : Nat) (bytes : List Byte) : Option (Option (List Byte) × List Byte) :=
  match bytes with
  | mark :: rest =>
    match flagOfByte mark with
    | some true => if n ≤ rest.length then some (some (rest.take n), rest.drop n) else none
    | some false => some (none, rest)
    | none => none
  | [] => none

/-- The address, the length and the station of a PROBE ROUTE, each present or not; none when they cannot be read in full
(R195; log 19). -/
def probeFields (bytes : List Byte) : Option (Option (List Byte) × Option (List Byte) × Option (List Byte)) :=
  match optionalField 4 bytes with
  | some (a, rest₁) =>
    match optionalField 2 rest₁ with
    | some (n, rest₂) =>
      match optionalField 1 rest₂ with
      | some (st, []) => some (a, n, st)
      | _ => none
    | none => none
  | none => none

/-- PROBE ROUTE for a request (R38). -/
def probeRequest (ingress : Byte) (a : Word32) (n : Nat) (s : State) : Reply :=
  match Origin.ofByte ingress with
  | some i => if n = 0 ∨ Config.fetchMax < n then refuse .badValue s else done (.probe (s.probeReport (s.routeRequest i a n))) s
  | none => refuse .badValue s

/-- PROBE ROUTE for a notice (R38). -/
def probeNotice (ingress : Byte) (st : Byte) (s : State) : Reply :=
  match Origin.ofByte ingress with
  | some i => if st = 0 then refuse .badValue s else done (.probe (s.probeReport (s.routeNotice i st))) s
  | none => refuse .badValue s

/-- PROBE ROUTE (ingress, kind, address and length, or station), R38; kind request is 00h and notice 01h (R195, log 19). -/
def actProbeRoute : Act := fun params s =>
  match params with
  | ingress :: kind :: rest =>
    match kind.toNat, probeFields rest with
    | 0, some (some [a3, a2, a1, a0], some [n1, n0], none) =>
      some (probeRequest ingress (word32 a3 a2 a1 a0) (word16 n1 n0).toNat s)
    | 1, some (none, none, some [st]) => some (probeNotice ingress st s)
    | 0, _ => none
    | 1, _ => none
    | _, some _ => some (refuse .badValue s)
    | _, none => none
  | _ => none

/-! ## Meanings -/

/-- SET STATION, R26. -/
def execSetStation (m : HostMsg) : State → Host.Outcome State Fault Refusal :=
  hostCommand 0x10 m fun params s => actSetStation s.isForwarding false params s

/-- SET BAY RANGE, R27. -/
def execSetBayRange (m : HostMsg) : State → Host.Outcome State Fault Refusal :=
  hostCommand 0x11 m fun params s => actSetBayRange s.isForwarding false params s

/-- SET WINDOW, R28, R29. -/
def execSetWindow (m : HostMsg) : State → Host.Outcome State Fault Refusal :=
  hostCommand 0x12 m fun params s => actSetWindow s.isForwarding false params s

/-- SET DIRECTED, R30. -/
def execSetDirected (m : HostMsg) : State → Host.Outcome State Fault Refusal :=
  hostCommand 0x13 m fun params s => actSetDirected s.isForwarding false params s

/-- SET PERMITS, R31. -/
def execSetPermits (m : HostMsg) : State → Host.Outcome State Fault Refusal :=
  hostCommand 0x14 m fun params s => actSetPermits s.isForwarding false params s

/-- SET SPOILED, R32. -/
def execSetSpoiled (m : HostMsg) : State → Host.Outcome State Fault Refusal :=
  hostCommand 0x15 m fun params s => actSetSpoiled s.isForwarding false params s

/-- READ ROUTES, R37. -/
def execReadRoutes (m : HostMsg) : State → Host.Outcome State Fault Refusal := hostCommand 0x16 m actReadRoutes

/-- PROBE ROUTE, R38, R39. -/
def execProbeRoute (m : HostMsg) : State → Host.Outcome State Fault Refusal := hostCommand 0x17 m actProbeRoute

end Sys2Proof.Machine
end

