-- ==== Sys2Proof/Machine/ForwardCommands.lean ====
section
/-! DEFINITION. The commands of chapter 3: READ INBOX, and the host-issued requests ISSUE STORE and SEND NOTICE with what makes a
request M's head (R41, R64 to R66). ISSUE FETCH uses it too. -/

namespace Sys2Proof.Machine

/-! ## READ INBOX (R63) -/

/-- READ INBOX (count), R63. -/
def actReadInbox : Act := fun params s =>
  match params with
  | [n1, n0] =>
    let n := (word16 n1 n0).toNat
    some
      (if n = 0 ∨ 4 < n then refuse .badValue s
      else done (.notices (s.inbox.take n)) { s with inbox := s.inbox.drop n })
  | _ => none

/-- READ INBOX, R63. -/
def execReadInbox (m : HostMsg) : State → Host.Outcome State Fault Refusal := hostCommand 0x20 m actReadInbox

/-! ## M's head (R41, R64, R65, R66) -/

/-- The result of a host request dropped at decode: OVERSIZE at step 9, PORT DOWN at N7 (R64, R66). -/
def dropStatus : Condition → Status
  | .oversize => .answer .oversize
  | _ => .answer .portDown

/-- A host request decided PLACE waits for its lane as M's head, and is placed at once when it is the only candidate that has room
(R56, R65). -/
def State.awaitHost (c : Message) (r : Request Unit) (d : Port) (s : State) : State :=
  { s with management :=
      { s.management with running := some { command := c, stage := .awaitLane r d s.stallLimit.value } } }.offerRequestLane d .m

/-- A host notice for the own station: appended, or answered BUSY (R62, R66). -/
def State.hostInbox (c : Message) (r : Request Unit) (s : State) : State :=
  match r.record .m with
  | some x =>
    if s.inboxFull then (s.appendInbox x).respond c .busy .empty
    else (s.appendInbox x).respond c .done (.noticeWent none)
  | none => s

/-- A host request becomes M's head and is decided; its command's response follows from the decision (R64, R66, R93). A response that
enters in this act goes before a NOTIFY that a latch of the decision makes ready, where R161 lets either go first: the model's choice
(log 34). -/
def State.issueHost (c : Message) (r : Request Unit) (s : State) : State :=
  let t := if r.spoiled then s.detect .m .spoiled r.hostSubject else s
  match t.decideHead .m r with
  | .place d => t.awaitHost c r d
  | .inbox => t.hostInbox c r
  | .refuse st k => (t.detect .m k r.hostSubject).respond c (.answer st) .empty
  | .drop k => (t.detect .m k r.hostSubject).respond c (dropStatus k) .empty

/-- A host-issued request's command: `start` is tests 4 and 5 of R186 and what follows. -/
def hostRequest (kind : Byte) (m : HostMsg) (start : Message → State → State) : State → Host.Outcome State Fault Refusal :=
  event (State.take { kind, msg := m } false (start { kind, msg := m }))

/-- ISSUE STORE's parameters read: address, payload, flag byte; the payload is not the last field, so its count comes first
(R195). -/
def issueStoreParams (params : List Byte) : Option (Word32 × List Byte × Byte) :=
  match params with
  | a3 :: a2 :: a1 :: a0 :: n1 :: n0 :: rest =>
    let n := (word16 n1 n0).toNat
    match rest.drop n with
    | [flag] => some (word32 a3 a2 a1 a0, rest.take n, flag)
    | _ => none
  | _ => none

/-- ISSUE STORE (address, payload, spoiled flag), R64. -/
def State.startStore (c : Message) (s : State) : State :=
  match issueStoreParams c.msg.params with
  | none => s.respond c .badLength .empty
  | some (a, payload, flag) =>
    match flagOfByte flag with
    | some spoiled =>
      if payload.length = 0 ∨ Config.payloadMax < payload.length then s.respond c .badValue .empty
      else s.issueHost c (.store a payload spoiled)
    | none => s.respond c .badValue .empty

/-- ISSUE STORE, R64. -/
def execIssueStore (m : HostMsg) : State → Host.Outcome State Fault Refusal := hostRequest 0x21 m State.startStore

/-- SEND NOTICE (target, code, payload), R66. -/
def State.startNotice (c : Message) (s : State) : State :=
  match c.msg.params with
  | target :: c1 :: c0 :: payload =>
    if target = 0 ∨ Config.noticeMax < payload.length then s.respond c .badValue .empty
    else s.issueHost c (.notice target s.routes.ownStation.value (word16 c1 c0) payload false)
  | _ => s.respond c .badLength .empty

/-- SEND NOTICE, R66. -/
def execSendNotice (m : HostMsg) : State → Host.Outcome State Fault Refusal := hostRequest 0x22 m State.startNotice

end Sys2Proof.Machine
end

