-- ==== Sys2Proof/Machine/ExchangeCommands.lean ====
section
/-! DEFINITION. The commands and events of chapter 4: quotas and timers, CANCEL EXCHANGE, ISSUE FETCH, LIST EXCHANGES, the two
run-outs of an entry, and FETCH DONE. -/

namespace Sys2Proof.Machine

/-! ## Settings (R71, R72, R73) -/

/-- The effect of SET QUOTA. -/
def setQuotaTo (p : Port) (n : Nat) (fix : Bool) (s : State) : Reply :=
  if n = 0 ∨ Config.tableSize < n then refuse .badValue s
  else
    writeItem (s.exchange.quotas.get p) n fix s fun y =>
      done .empty { s with exchange := { s.exchange with quotas := s.exchange.quotas.set p y } }

/-- SET QUOTA (port, n), R71. -/
def actSetQuota : SettingAct := fun _ fix params s =>
  match params with
  | [p, n1, n0] =>
    match Port.ofByte p with
    | some port => some (setQuotaTo port (word16 n1 n0).toNat fix s)
    | none => some (refuse .badValue s)
  | _ => none

/-- The effect of SET EXCHANGE TIMERS. -/
def setTimersTo (x : ExchangeTimers) (fix : Bool) (s : State) : Reply :=
  if x.timeout = 0 ∨ 1000 < x.timeout ∨ 1000 < x.quarantine then refuse .badValue s
  else
    writeItem s.exchange.timers x fix s fun y => done .empty { s with exchange := { s.exchange with timers := y } }

/-- SET EXCHANGE TIMERS (timeout, quarantine), R72. -/
def actSetExchangeTimers : SettingAct := fun _ fix params s =>
  match params with
  | [t1, t0, q1, q0] => some (setTimersTo ⟨(word16 t1 t0).toNat, (word16 q1 q0).toNat⟩ fix s)
  | _ => none

/-- SET QUOTA, R71. -/
def execSetQuota (m : HostMsg) : State → Host.Outcome State Fault Refusal :=
  hostCommand 0x30 m fun params s => actSetQuota s.isForwarding false params s

/-- SET EXCHANGE TIMERS, R72. -/
def execSetExchangeTimers (m : HostMsg) : State → Host.Outcome State Fault Refusal :=
  hostCommand 0x31 m fun params s => actSetExchangeTimers s.isForwarding false params s

/-! ## CANCEL EXCHANGE (R89) -/

/-- CANCEL EXCHANGE of one entry (R89). -/
def cancelEntry (i : RouterTag) (s : State) : Reply :=
  match s.entry i with
  | .opened x _ _ => done (.cancelled .opened x.origin.origin) (s.endAndRematch i .cancelled)
  | .orphan x _ _ => done (.cancelled .orphan x.origin.origin) (s.endAndRematch i .cancelled)
  | .free => refuse .noSuch s
  | .quarantine _ _ _ => refuse .noSuch s

/-- CANCEL EXCHANGE (tag), R89. -/
def actCancelExchange : Act := fun params s =>
  match params with
  | [tag] => some (if h : tag.toNat < 64 then cancelEntry ⟨tag.toNat, h⟩ s else refuse .badValue s)
  | _ => none

/-- CANCEL EXCHANGE, R89. -/
def execCancelExchange (m : HostMsg) : State → Host.Outcome State Fault Refusal := hostCommand 0x32 m actCancelExchange

/-! ## ISSUE FETCH (R93) -/

/-- ISSUE FETCH (address, length), R93. -/
def State.startFetch (c : Message) (s : State) : State :=
  match c.msg.params with
  | [a3, a2, a1, a0, n1, n0] =>
    let n := (word16 n1 n0).toNat
    if n = 0 ∨ Config.fetchMax < n then s.respond c .badValue .empty
    else if s.hostFetch ≠ .empty then s.respond c .busy .empty
    else s.issueHost c (.fetch (word32 a3 a2 a1 a0) n () false)
  | _ => s.respond c .badLength .empty

/-- ISSUE FETCH, R93. -/
def execIssueFetch (m : HostMsg) : State → Host.Outcome State Fault Refusal := hostRequest 0x33 m State.startFetch

/-! ## LIST EXCHANGES (R98) -/

/-- The summary of LIST EXCHANGES (R98). -/
def State.exchangeSummary (s : State) : ExchangeSummary :=
  { freeCount := s.freeCount
    activePorts :=
      { t := s.activeCount (.link .t), b1 := s.activeCount (.link .b1), b2 := s.activeCount (.link .b2),
        b3 := s.activeCount (.link .b3), b4 := s.activeCount (.link .b4), b5 := s.activeCount (.link .b5),
        b6 := s.activeCount (.link .b6) }
    activeM := s.activeCount .m
    quotas := s.exchange.quotas
    timers := s.exchange.timers
    hostFetch := s.hostFetch }

/-- The records of LIST EXCHANGES: up to 16 entries not FREE, index at or above the start (R98). -/
def State.exchangeRecords (s : State) (start : Nat) : List (RouterTag × Entry) :=
  (((allTags.filter fun i => decide (start ≤ i.val) && !(s.entry i).isFree).take Config.listedEntries).map
    fun i => (i, s.entry i))

/-- LIST EXCHANGES (start), R98. -/
def actListExchanges : Act := fun params s =>
  match params with
  | [start] =>
    some
      (if start.toNat < 64 then done (.exchanges s.exchangeSummary (s.exchangeRecords start.toNat)) s
      else refuse .badValue s)
  | _ => none

/-- LIST EXCHANGES, R98. -/
def execListExchanges (m : HostMsg) : State → Host.Outcome State Fault Refusal := hostCommand 0x34 m actListExchanges

/-! ## Run-outs (R85, R86) -/

/-- The deadline of an entry runs out (R85); the clock comes forward to that moment (log 5). -/
def State.deadlineEnds (i : RouterTag) (s : State) : State :=
  match s.entry i with
  | .opened x _ d => ((s.elapse d).detect x.origin.origin .expired x.subject).endAndRematch i .expired
  | .orphan _ _ d => (s.elapse d).endAndRematch i .expired
  | .free => s
  | .quarantine _ _ _ => s

/-- DEADLINE RUNS OUT, R85. -/
def execDeadlineRunsOut (i : RouterTag) : State → Host.Outcome State Fault Refusal := event (State.deadlineEnds i)

/-- The quarantine of an entry runs out (R86). -/
def State.quarantineEnds (i : RouterTag) (s : State) : State :=
  match s.entry i with
  | .quarantine _ _ l => (s.elapse l).setEntry i .free
  | .free => s
  | .opened _ _ _ => s
  | .orphan _ _ _ => s

/-- QUARANTINE RUNS OUT, R86. -/
def execQuarantineRunsOut (i : RouterTag) : State → Host.Outcome State Fault Refusal := event (State.quarantineEnds i)

/-! ## FETCH DONE (R97) -/

/-- FETCH DONE enters the outgoing queue, and the host fetch buffer becomes EMPTY (R97). -/
def State.sendFetchDone (s : State) : State :=
  match s.hostFetch with
  | .holding i _ d st =>
    if s.management.mayEnter .fetchDone then
      { s.sendUnsolicited .fetchDone 0xFB (.fetchDone i st d) with hostFetch := .empty }
    else s
  | .empty => s
  | .gathering _ _ _ => s

/-- FETCH DONE, R97. -/
def execFetchDone : State → Host.Outcome State Fault Refusal := event State.sendFetchDone

end Sys2Proof.Machine
end

