-- ==== Sys2Proof/Machine/LaneEvents.lean ====
section
/-! DEFINITION. The commands and events of chapter 5: SET STALL LIMIT, READ LANES, a frame's arrival, grants, sending, credit returns,
stall timers. -/

namespace Sys2Proof.Machine

/-! ## SET STALL LIMIT, READ LANES (R113, R117) -/

/-- SET STALL LIMIT (limit), R113. -/
def actSetStallLimit : SettingAct := fun _ fix params s =>
  match params with
  | [l1, l0] =>
    let n := (word16 l1 l0).toNat
    some
      (if n = 0 ∨ 250 < n then refuse .badValue s
      else writeItem s.stallLimit n fix s fun y => done .empty { s with stallLimit := y })
  | _ => none

/-- SET STALL LIMIT, R113. -/
def execSetStallLimit (m : HostMsg) : State → Host.Outcome State Fault Refusal :=
  hostCommand 0x38 m fun params s => actSetStallLimit s.isForwarding false params s

/-- The name of a request head's waiting state (R43, R117). -/
def RequestWait.name : RequestWait → WaitState
  | .lane _ _ => .awaitLane
  | .answerSlot _ _ => .awaitAnswerSlot

/-- The ms left of a waiting request head's stall timer (R111). -/
def RequestWait.left : RequestWait → Nat
  | .lane _ l => l
  | .answerSlot _ l => l

/-- The values of READ LANES (R117). -/
def State.lanesReport (s : State) (p : Port) : LanesReport :=
  let x := s.port p
  { requestsHeld := x.requests.length
    answersHeld := x.answers.length
    requestWait := (x.requestWait.map RequestWait.name).getD .idle
    answerWait := if x.answerWait.isSome then .awaitMatch else .idle
    requestStall := x.requestWait.map RequestWait.left
    answerStall := x.answerWait
    granted := x.granted
    requestLane := x.requestLane.length
    answerLane := x.answerLane.length
    forwarded := forwardedCount x.answerLane
    partner := x.partner
    pointer := x.pointer
    stallLimit := s.stallLimit }

/-- READ LANES (port), R117. -/
def actReadLanes : Act := fun params s =>
  match params with
  | [p] =>
    some
      (match Port.ofByte p with
      | some port => done (.lanes (s.lanesReport port)) s
      | none => refuse .badValue s)
  | _ => none

/-- READ LANES, R117. -/
def execReadLanes (m : HostMsg) : State → Host.Outcome State Fault Refusal := hostCommand 0x39 m actReadLanes

/-! ## A frame arrives (R14, R15, R100, R101) -/

/-- A frame is discarded as malformed or beyond credit: MALFORMED is latched, and it counts as received and as dropped
(R15, R101). -/
def State.malformed (p : Port) (s : State) : State :=
  (s.latch (.origin (.link p)) .malformed).modPort p fun x =>
    (x.count Counters.addReceived).count Counters.addDropped

/-- The start symbol of a frame takes one from the granted count of its class (R101). -/
def PortState.useGranted (c : FrameClass) (x : PortState) : PortState :=
  { x with granted := x.granted.set c (x.granted.get c - 1) }

/-- An intact, well-formed frame enters the tail of its class (R100). -/
def PortState.accept (f : Frame) (x : PortState) : PortState :=
  match f with
  | .request r => PortState.count Counters.addReceived { x with requests := x.requests ++ [r] }
  | .answer a => PortState.count Counters.addReceived { x with answers := x.answers ++ [a] }

/-- The heads of the class a frame entered are taken up (R41). -/
def State.serveFor (f : Frame) (p : Port) (s : State) : State :=
  match f with
  | .request _ => s.serveRequests p
  | .answer _ => s.serveAnswers p

/-- A frame arrives within credit while the link is UP with this effective max payload (R14, R15, R100, R102). -/
def State.frameInCredit (p : Port) (c : FrameClass) (bytes : List Byte) (maxPayload : Nat) (s : State) : State :=
  let t := s.modPort p (PortState.useGranted c)
  if !frameCheckOk bytes then (t.modPort p (PortState.oweCredit c)).damaged p
  else
    match parseFrame c maxPayload bytes with
    | none => (t.malformed p).modPort p (PortState.oweCredit c)
    | some f => (t.modPort p (PortState.accept f)).serveFor f p

/-- A frame arrives whole on a link port (R100, R101, R14). -/
def State.frameArrives (p : Port) (c : FrameClass) (bytes : List Byte) (s : State) : State :=
  match (s.port p).link.effectiveMax with
  | some maxPayload =>
    if (s.port p).granted.get c = 0 then s.malformed p else s.frameInCredit p c bytes maxPayload
  | none =>
    if frameCheckOk bytes then s.modPort p fun x => (x.count Counters.addReceived).count Counters.addDropped
    else s.damaged p

/-- FRAME ARRIVAL, R100. -/
def execFrameArrival (p : Port) (c : FrameClass) (bytes : List Byte) : State → Host.Outcome State Fault Refusal :=
  event (State.frameArrives p c bytes)

/-! ## Grants (R109) -/

/-- LANE GRANT, R109. -/
def execLaneGrant (p : Port) (c : FrameClass) : State → Host.Outcome State Fault Refusal := event (State.grantLane p c)

/-! ## Sending (R105, R106, R107) -/

/-- The link is UP, no frame is being sent, and no credit return is owed: a frame may begin to be sent (R102, R106; log 10). -/
def PortState.freeToSend (x : PortState) : Bool :=
  x.link.isUp && x.sending.isNone && x.owed.request == 0 && x.owed.answer == 0

/-- One partner credit of a class is taken (R105, R107). -/
def PortState.usePartner (c : FrameClass) (x : PortState) : PortState :=
  { x with partner := x.partner.set c (x.partner.get c - 1) }

/-- The issue field of the entry of a FETCH that begins to be sent becomes SENT (R77). -/
def Entry.sent : Entry → Entry
  | .opened x _ d => .opened x .sent d
  | .orphan x _ d => .orphan x .sent d
  | e => e

/-- The head of the answer lane begins to be sent (R107). -/
def State.sendAnswer (p : Port) (a : LaneAnswer) (rest : List LaneAnswer) (s : State) : State :=
  s.modPort p fun x =>
    let y := PortState.count Counters.addSent { x with answerLane := rest, sending := some (.answer a.answer) }
    (if a.routerMade then y.count Counters.addRouterMade else y).usePartner .answer

/-- The head of the request lane begins to be sent; the entry of a FETCH is SENT (R77, R107). -/
def State.sendRequest (p : Port) (r : LaneRequest) (rest : List LaneRequest) (s : State) : State :=
  let t := s.modPort p fun x =>
    (PortState.count Counters.addSent { x with requestLane := rest, sending := some (.request r.request) }).usePartner .request
  match r.request with
  | .fetch _ _ i _ => t.setEntry i (t.entry i).sent
  | .store _ _ _ => t
  | .notice _ _ _ _ _ => t

/-- The port begins to send a frame: the answer lane first, each lane as its partner credit allows (R106). -/
def State.transmit (p : Port) (s : State) : State :=
  let x := s.port p
  if x.freeToSend then
    match x.answerLane, x.requestLane with
    | a :: rest, requests =>
      if 0 < x.partner.answer then s.sendAnswer p a rest
      else
        match requests with
        | r :: rs => if 0 < x.partner.request then s.sendRequest p r rs else s
        | [] => s
    | [], r :: rs => if 0 < x.partner.request then s.sendRequest p r rs else s
    | [], [] => s
  else s

/-- TRANSMIT FRAME, R106, R107. -/
def execTransmitFrame (p : Port) : State → Host.Outcome State Fault Refusal := event (State.transmit p)

/-- The last byte of the frame being sent goes out (R107). -/
def State.lastByte (p : Port) (s : State) : State :=
  match (s.port p).sending with
  | some f => (s.modPort p fun x => { x with sending := none }).emit (f.emission p)
  | none => s

/-- FRAME LAST BYTE SENT, R107. -/
def execFrameLastByteSent (p : Port) : State → Host.Outcome State Fault Refusal := event (State.lastByte p)

/-! ## Credit returns (R102, R105) -/

/-- An owed credit return is sent, between frames: the granted count rises by one (R102). -/
def State.returnCredit (p : Port) (c : FrameClass) (s : State) : State :=
  let x := s.port p
  if x.link.isUp ∧ x.sending.isNone ∧ 0 < x.owed.get c then
    (s.modPort p fun x =>
      { x with owed := x.owed.set c (x.owed.get c - 1), granted := x.granted.set c (x.granted.get c + 1) }).emit
      (.creditReturn p c)
  else s

/-- SEND CREDIT RETURN, R102. -/
def execSendCreditReturn (p : Port) (c : FrameClass) : State → Host.Outcome State Fault Refusal :=
  event (State.returnCredit p c)

/-- The partner's greeting value for a class (R105, R125). -/
def Greeting.credits (g : Greeting) : FrameClass → Nat
  | .request => g.requestCredits
  | .answer => g.answerCredits

/-- A credit return arrives from the partner; the count does not rise above the greeting's value (R105). -/
def State.creditArrives (p : Port) (c : FrameClass) (s : State) : State :=
  let x := s.port p
  match x.greeting with
  | some g =>
    if x.link.isUp ∧ x.partner.get c < g.credits c then
      s.modPort p fun x => { x with partner := x.partner.set c (x.partner.get c + 1) }
    else s
  | none => s

/-- CREDIT RETURN, R105. -/
def execCreditReturn (p : Port) (c : FrameClass) : State → Host.Outcome State Fault Refusal := event (State.creditArrives p c)

/-! ## Stall timers (R111, R112, R90) -/

/-- The stall timer of a request class runs out: the head is dropped with STALL_DROP (R112). -/
def State.stallRequest (p : Port) (s : State) : State :=
  match (s.port p).requestWait, (s.port p).requests with
  | some w, r :: _ => (((s.elapse w.left).detect (.link p) .stallDrop r.subject).dropRequest p).serveRequests p
  | _, _ => s

/-- The stall timer of an answer class runs out: the answer is dropped with STALL_DROP, and its exchange ends STALLED
(R90, R112). -/
def State.stallAnswer (p : Port) (s : State) : State :=
  match (s.port p).answerWait, (s.port p).answers with
  | some l, a :: _ =>
    let t := (((s.elapse l).detect (.link p) .stallDrop (s.answerSubject a)).dropAnswer p)
    (match s.awaitedMatch p with
    | some (_, i, _, _, _) => t.endEntry i .stalled true
    | none => t).serveAnswers p
  | _, _ => s

/-- M's stall timer runs out: its command is answered STALLED (R65, R112). -/
def State.stallHost (s : State) : State :=
  match s.hostHead with
  | some (h, _, l) => ((s.elapse l).detect .m .stallDrop h.hostSubject).conclude (.answer .stalled) .empty
  | none => s

/-- A stall timer runs out (R112). -/
def State.stall (timer : StallTimer) (s : State) : State :=
  match timer with
  | .ingress p .request => s.stallRequest p
  | .ingress p .answer => s.stallAnswer p
  | .m => s.stallHost

/-- STALL TIMER RUNS OUT, R112. -/
def execStallTimerRunsOut (timer : StallTimer) : State → Host.Outcome State Fault Refusal := event (State.stall timer)

end Sys2Proof.Machine
end

