-- ==== Sys2Proof/Machine/LinkEvents.lean ====
section
/-! DEFINITION. The commands and events of chapter 6: SET LINK, HOLD BAY, RELEASE BAY, RETRAIN, READ LINK; the quiet interval, the
partner signal, greetings and accepts, the attempt's time, the damaged window, the RESET symbol. -/

namespace Sys2Proof.Machine

/-! ## Commands (R121, R122, R133 to R136) -/

/-- The link state after SET LINK wrote this enable (R121). -/
def State.applyEnable (p : Port) (enable : Bool) (s : State) : State :=
  match (s.port p).link, enable with
  | .disabled, true => s.modPort p fun x => { x with link := Link.freshDown, attempts := 0 }
  | .disabled, false => s
  | .up _, false => s.leaveUp p .disabled .disable
  | _, false => s.modPort p fun x => { x with link := .disabled, attempts := 0 }
  | _, true => s

/-- The checks and effect of SET LINK (R121, R122). -/
def setLinkTo (p : Port) (x : LinkSettings) (fix : Bool) (s : State) : Reply :=
  if !Config.capabilities.contains x.max then refuse .badValue s
  else
    writeItem (s.port p).settings x fix s fun y =>
      let t := (s.modPort p fun z => { z with settings := y }).applyEnable p x.enable
      done (.linkState (t.port p).link.name) t

/-- SET LINK (port, enable, max), R121. -/
def actSetLink : SettingAct := fun _ fix params s =>
  match params with
  | [p, e, m1, m0] =>
    match Port.ofByte p, flagOfByte e with
    | some port, some enable => some (setLinkTo port ⟨enable, (word16 m1 m0).toNat⟩ fix s)
    | _, _ => some (refuse .badValue s)
  | _ => none

/-- SET LINK, R121, R122. -/
def execSetLink (m : HostMsg) : State → Host.Outcome State Fault Refusal :=
  hostCommand 0x40 m fun params s => actSetLink s.isForwarding false params s

/-- HOLD BAY of one bay (R133). -/
def holdBayTo (b : Bay) (s : State) : Reply :=
  let p := b.port
  match (s.port p).link with
  | .up _ =>
    done .empty (((s.emit (.resetSymbol p)).leaveUp p .held .hold).modPort p fun x => { x with attempts := 0 })
  | .disabled => refuse .wrongState s
  | .held => done .empty s
  | .down _ => done .empty (s.modPort p fun x => { x with link := .held, attempts := 0 })
  | .training _ => done .empty (s.modPort p fun x => { x with link := .held, attempts := 0 })
  | .failed => done .empty (s.modPort p fun x => { x with link := .held, attempts := 0 })

/-- HOLD BAY (bay), R133. -/
def actHoldBay : Act := fun params s =>
  match params with
  | [b] =>
    some
      (match Bay.ofByte b with
      | some bay => holdBayTo bay s
      | none => refuse .badValue s)
  | _ => none

/-- HOLD BAY, R133. -/
def execHoldBay (m : HostMsg) : State → Host.Outcome State Fault Refusal := hostCommand 0x41 m actHoldBay

/-- RELEASE BAY of one bay (R134). -/
def releaseBayTo (b : Bay) (s : State) : Reply :=
  if (s.port b.port).link = .held then
    done .empty (s.modPort b.port fun x => { x with link := Link.freshDown, attempts := 0 })
  else refuse .wrongState s

/-- RELEASE BAY (bay), R134. -/
def actReleaseBay : Act := fun params s =>
  match params with
  | [b] =>
    some
      (match Bay.ofByte b with
      | some bay => releaseBayTo bay s
      | none => refuse .badValue s)
  | _ => none

/-- RELEASE BAY, R134. -/
def execReleaseBay (m : HostMsg) : State → Host.Outcome State Fault Refusal := hostCommand 0x42 m actReleaseBay

/-- RETRAIN of one port (R135). -/
def retrainPort (p : Port) (s : State) : Reply :=
  if (s.port p).link = .failed then
    done .empty (s.modPort p fun x => { x with link := Link.freshDown, attempts := 0 })
  else refuse .wrongState s

/-- RETRAIN (port), R135. -/
def actRetrain : Act := fun params s =>
  match params with
  | [p] =>
    some
      (match Port.ofByte p with
      | some port => retrainPort port s
      | none => refuse .badValue s)
  | _ => none

/-- RETRAIN, R135. -/
def execRetrain (m : HostMsg) : State → Host.Outcome State Fault Refusal := hostCommand 0x43 m actRetrain

/-- The values of READ LINK (R136). -/
def PortState.linkReport (x : PortState) : LinkReport :=
  { state := x.link.name
    settings := x.settings
    offered := x.offered
    attempts := x.attempts
    greeting := x.greeting
    effectiveMax := x.link.effectiveMax
    windowCount := if x.link.isUp then x.window.length else 0
    downCause := x.downCause
    failCause := x.failCause }

/-- READ LINK (port), R136. -/
def actReadLink : Act := fun params s =>
  match params with
  | [p] =>
    some
      (match Port.ofByte p with
      | some port => done (.link (s.port port).linkReport) s
      | none => refuse .badValue s)
  | _ => none

/-- READ LINK, R136. -/
def execReadLink (m : HostMsg) : State → Host.Outcome State Fault Refusal := hostCommand 0x44 m actReadLink

/-! ## Quiet interval and partner signal (R123, R126, R128) -/

/-- The quiet interval of a DOWN port ends (R123). -/
def State.quietEnds (p : Port) (s : State) : State :=
  match (s.port p).link with
  | .down (some q) => ((s.elapse q).setLink p (.down none)).tryTraining p
  | _ => s

/-- QUIET INTERVAL END, R123. -/
def execQuietIntervalEnd (p : Port) : State → Host.Outcome State Fault Refusal := event (State.quietEnds p)

/-- The level of a partner signal changes. -/
def State.setSignal (p : Port) (present : Bool) (s : State) : State :=
  { s with pins := { s.pins with signal := s.pins.signal.set p present } }

/-- PARTNER SIGNAL PRESENT, R123. While PORN is low the level changes and nothing else happens (log 25). -/
def execPartnerSignalPresent (p : Port) (s : State) : Host.Outcome State Fault Refusal :=
  event (State.tryTraining p) (s.setSignal p true)

/-- What the loss of the partner signal does: UP goes DOWN with cause LOSS, an attempt is abandoned uncounted (R126, R128). -/
def State.signalLost (p : Port) (s : State) : State :=
  match (s.port p).link with
  | .up _ => s.leaveUp p Link.freshDown .loss
  | .training _ => s.setLink p Link.freshDown
  | _ => s

/-- PARTNER SIGNAL LOSS, R126, R128. -/
def execPartnerSignalLoss (p : Port) (s : State) : Host.Outcome State Fault Refusal :=
  event (State.signalLost p) (s.setSignal p false)

/-! ## Training (R124, R125, R126, R130) -/

/-- A port in training sends its greeting again, until it has received the partner's accept (R124). -/
def State.repeatGreeting (p : Port) (s : State) : State :=
  match (s.port p).link with
  | .training a => if a.accepted then s else s.emit (.greeting p (greetingBytes (s.port p).offeredMax))
  | _ => s

/-- GREETING REPEAT, R124. -/
def execGreetingRepeat (p : Port) : State → Host.Outcome State Fault Refusal := event (State.repeatGreeting p)

/-- A greeting arrives in an attempt: the first that passes the check is kept, each later intact one is accepted unread
(R124, R125). -/
def State.greetingInTraining (p : Port) (a : Attempt) (bytes : List Byte) (s : State) : State :=
  match checkGreeting bytes, a.kept with
  | .damaged, _ => s.damaged p
  | _, some _ => s.emit (.accept p)
  | .bad, none => s.failAttempt p .badGreeting
  | .good g, none => (s.emit (.accept p)).progress p { a with kept := some g }

/-- A greeting arrives (R124, R130; a damaged one: R14, log 13). -/
def State.greetingArrives (p : Port) (bytes : List Byte) (s : State) : State :=
  match (s.port p).link with
  | .training a => s.greetingInTraining p a bytes
  | .up _ => if checkGreeting bytes = .damaged then s.damaged p else s.leaveUp p Link.freshDown .greeting
  | _ => s

/-- GREETING, R124, R125, R130. -/
def execGreeting (p : Port) (bytes : List Byte) : State → Host.Outcome State Fault Refusal :=
  event (State.greetingArrives p bytes)

/-- An accept symbol arrives (R124, R130). -/
def State.acceptArrives (p : Port) (s : State) : State :=
  match (s.port p).link with
  | .training a => if a.greeted then s.progress p { a with accepted := true } else s
  | _ => s

/-- ACCEPT, R124. -/
def execAccept (p : Port) : State → Host.Outcome State Fault Refusal := event (State.acceptArrives p)

/-- The 2 ms of an attempt run out (R126). -/
def State.attemptTimesOut (p : Port) (s : State) : State :=
  match (s.port p).link with
  | .training a => (s.elapse a.left).failAttempt p .timeout
  | _ => s

/-- TRAINING TIMEOUT, R126. -/
def execTrainingTimeout (p : Port) : State → Host.Outcome State Fault Refusal := event (State.attemptTimesOut p)

/-! ## Damaged window and RESET symbol (R129, R132) -/

/-- The oldest damaged frame drops out of the window (R129). -/
def State.windowExpires (p : Port) (s : State) : State :=
  match (s.port p).window with
  | l :: _ => (s.elapse l).modPort p fun x => { x with window := x.window.tail }
  | [] => s

/-- DAMAGED WINDOW EXPIRY, R129. -/
def execDamagedWindowExpiry (p : Port) : State → Host.Outcome State Fault Refusal := event (State.windowExpires p)

/-- The partner kind in T's greeting record may cause a trunk reset (R132). -/
def PortState.partnerMayReset (x : PortState) : Bool :=
  match x.greeting with
  | some g => g.kind == .controller || g.kind == .router
  | none => false

/-- A RESET symbol arrives (R132). -/
def State.resetArrives (p : Port) (s : State) : State :=
  if !s.isUp p then s
  else if p = .t ∧ (s.port p).partnerMayReset then s.trunkReset
  else s.latch (.origin (.link p)) .malformed

/-- RESET SYMBOL, R132, R169. -/
def execResetSymbol (p : Port) : State → Host.Outcome State Fault Refusal := event (State.resetArrives p)

end Sys2Proof.Machine
end

