-- ==== Sys2Proof/Machine/ConditionCommands.lean ====
section
/-! DEFINITION. The commands of chapter 7: SET REPORTING, READ and CLEAR CONDITIONS, READ and RELEASE CAPTURE, READ COUNTERS. -/

namespace Sys2Proof.Machine

/-! ## SET REPORTING (R143) -/

/-- A list parameter: a count byte, then as many items (R195). -/
def listParam (bytes : List Byte) : Option (List Byte) :=
  match bytes with
  | n :: items => if items.length = n.toNat then some items else none
  | [] => none

/-- The conditions these bytes name, when each is allowed. -/
def conditionNames (allowed : Condition → Bool) (bytes : List Byte) : Option (List Condition) :=
  bytes.mapM fun b => (Condition.ofByte b).filter allowed

/-- The effect of SET REPORTING. -/
def setReportingTo (c : Category) (x : Reporting) (fix : Bool) (s : State) : Reply :=
  writeItem (s.conditions.reporting.get c) x fix s fun y =>
    done .empty { s with conditions := { s.conditions with reporting := s.conditions.reporting.set c y } }

/-- SET REPORTING (category, enable, masked names), R143. -/
def actSetReporting : SettingAct := fun _ fix params s =>
  match params with
  | c :: e :: rest =>
    (listParam rest).map fun items =>
      match Category.ofByte c, flagOfByte e with
      | some cat, some enable =>
        match conditionNames (fun k => k.category == cat) items with
        | some names => setReportingTo cat ⟨enable, inOrder names⟩ fix s
        | none => refuse .badValue s
      | _, _ => refuse .badValue s
  | _ => none

/-- SET REPORTING, R143. -/
def execSetReporting (m : HostMsg) : State → Host.Outcome State Fault Refusal :=
  hostCommand 0x50 m fun params s => actSetReporting s.isForwarding false params s

/-! ## READ CONDITIONS, CLEAR CONDITIONS (R145, R146) -/

/-- READ CONDITIONS (selector), R145. -/
def actReadConditions : Act := fun params s =>
  match params with
  | [sel] =>
    some
      (match SetId.ofByte sel with
      | some i => done (.conditions (s.latched i) s.conditions.reporting) s
      | none => refuse .badValue s)
  | _ => none

/-- READ CONDITIONS, R145. -/
def execReadConditions (m : HostMsg) : State → Host.Outcome State Fault Refusal := hostCommand 0x51 m actReadConditions

/-- The names cleared from a set: those named and latched go (R146). -/
def clearNames (i : SetId) (names : List Condition) (s : State) : Reply :=
  let old := s.latched i
  done (.names (old.filter names.contains)) (s.setLatched i (old.filter fun c => !names.contains c))

/-- CLEAR CONDITIONS of one set: a list of 1 to 21 names the set may hold, or, as a count byte of FFh with no items, ALL
(R146, R195; log 20). -/
def clearConditions (i : SetId) (rest : List Byte) (s : State) : Option Reply :=
  if rest = [0xFF] then some (clearNames i Condition.all s)
  else
    (listParam rest).map fun items =>
      if items = [] ∨ Condition.all.length < items.length then refuse .badValue s
      else
        match conditionNames i.mayHold items with
        | some names => clearNames i names s
        | none => refuse .badValue s

/-- CLEAR CONDITIONS (selector, names or all), R146. -/
def actClearConditions : Act := fun params s =>
  match params with
  | sel :: rest =>
    match SetId.ofByte sel with
    | some i => clearConditions i rest s
    | none => if rest = [0xFF] then some (refuse .badValue s) else (listParam rest).map fun _ => refuse .badValue s
  | _ => none

/-- CLEAR CONDITIONS, R146. -/
def execClearConditions (m : HostMsg) : State → Host.Outcome State Fault Refusal := hostCommand 0x52 m actClearConditions

/-! ## READ CAPTURE, RELEASE CAPTURE (R149, R150) -/

/-- READ CAPTURE (category), R149. -/
def actReadCapture : Act := fun params s =>
  match params with
  | [c] =>
    some
      (match Category.ofByte c with
      | some .routing => done (.capture s.conditions.routingCapture) s
      | some .exchange => done (.capture s.conditions.exchangeCapture) s
      | some .port => refuse .badValue s
      | some .inbox => refuse .badValue s
      | none => refuse .badValue s)
  | _ => none

/-- READ CAPTURE, R149. -/
def execReadCapture (m : HostMsg) : State → Host.Outcome State Fault Refusal := hostCommand 0x53 m actReadCapture

/-- RELEASE CAPTURE (category), R150. -/
def actReleaseCapture : Act := fun params s =>
  match params with
  | [c] =>
    some
      (match Category.ofByte c with
      | some .routing =>
        done (.released (s.conditions.routingCapture.map Capture.later))
          { s with conditions := { s.conditions with routingCapture := none } }
      | some .exchange =>
        done (.released (s.conditions.exchangeCapture.map Capture.later))
          { s with conditions := { s.conditions with exchangeCapture := none } }
      | some .port => refuse .badValue s
      | some .inbox => refuse .badValue s
      | none => refuse .badValue s)
  | _ => none

/-- RELEASE CAPTURE, R150. -/
def execReleaseCapture (m : HostMsg) : State → Host.Outcome State Fault Refusal := hostCommand 0x54 m actReleaseCapture

/-! ## READ COUNTERS (R153) -/

/-- READ COUNTERS (selector, clear), R153. -/
def actReadCounters : Act := fun params s =>
  match params with
  | [sel, flag] =>
    some
      (match SetId.ofByte sel, flagOfByte flag with
      | some (.origin (.link p)), some clear =>
        done (.counters (s.port p).counters)
          (if clear then s.modPort p (PortState.count fun _ => Counters.zero) else s)
      | some .router, some clear =>
        done (.routerCounters s.conditions.counters) (if clear then s.countRouter fun _ => ⟨0, 0, 0, 0⟩ else s)
      | _, _ => refuse .badValue s)
  | _ => none

/-- READ COUNTERS, R153. -/
def execReadCounters (m : HostMsg) : State → Host.Outcome State Fault Refusal := hostCommand 0x55 m actReadCounters

end Sys2Proof.Machine
end

