-- ==== Sys2Proof/Machine/StreamCommands.lean ====
section
/-! DEFINITION. The commands of chapter 8 and the NOTIFY row: SET STREAMS, ACK NOTIFY, MASK STREAM, UNMASK STREAM (R158 to R163). -/

namespace Sys2Proof.Machine

/-- The notification unit replaced. -/
def State.setNotification (n : NotificationUnit) (s : State) : State := { s with notification := n }

/-- A command of chapter 8 taken: DONE with the stream report as the unit then stands (R164). -/
def doneStreams (n : NotificationUnit) (s : State) : Reply := done (.streams n.report) (s.setNotification n)

/-! ## SET STREAMS (R158, R159) -/

/-- The checks and effect of SET STREAMS. -/
def setStreamsTo (n : Nat) (fix : Bool) (s : State) : Reply :=
  let u := s.notification
  if 8 < n then refuse .badValue s
  else if u.countFixed ∧ grantedCount n ≠ u.streams.length then refuse .fixed s
  else doneStreams { u with streams := regroup u.streams (grantedCount n), countFixed := u.countFixed || fix } s

/-- SET STREAMS (n), R158. -/
def actSetStreams : SettingAct := fun _ fix params s =>
  match params with
  | [n1, n0] => some (setStreamsTo (word16 n1 n0).toNat fix s)
  | _ => none

/-- SET STREAMS, R158, R159. -/
def execSetStreams (m : HostMsg) : State → Host.Outcome State Fault Refusal :=
  hostCommand 0x60 m fun params s => actSetStreams s.isForwarding false params s

/-! ## ACK NOTIFY, MASK STREAM, UNMASK STREAM (R162, R163) -/

/-- A command that names a stream: above 3 is BAD VALUE, one that does not exist is NO SUCH (R162, R163). -/
def withStream (params : List Byte) (s : State) (f : Nat → Stream → Reply) : Option Reply :=
  match params with
  | [k] =>
    some
      (if 3 < k.toNat then refuse .badValue s
      else
        match s.notification.streams[k.toNat]? with
        | some x => f k.toNat x
        | none => refuse .noSuch s)
  | _ => none

/-- ACK NOTIFY (stream), R162. -/
def actAckNotify : Act := fun params s =>
  withStream params s fun k x =>
    if x.awaiting then doneStreams (s.notification.modStream k fun x => { x with awaiting := false }) s
    else refuse .wrongState s

/-- MASK STREAM (stream), R163. -/
def actMaskStream : Act := fun params s =>
  withStream params s fun k _ => doneStreams (s.notification.modStream k fun x => { x with masked := true }) s

/-- UNMASK STREAM (stream), R163. -/
def actUnmaskStream : Act := fun params s =>
  withStream params s fun k _ => doneStreams (s.notification.modStream k fun x => { x with masked := false }) s

/-- The stream a command of one parameter byte names. -/
def namedStream (params : List Byte) : Option (Fin 4) :=
  match params with
  | [k] => if h : k.toNat < 4 then some ⟨k.toNat, h⟩ else none
  | _ => none

/-- The NOTIFY that a command taken released enters before its response, when that order is chosen and it finds a place, be it the
last (R161, R162, R163; log 15); otherwise it enters by its own row. -/
def State.notifyBefore (chosen : Bool) (params : List Byte) (s : State) : State :=
  match namedStream params with
  | some k => if chosen then s.sendNotify k else s
  | none => s

/-- Tests 4 and 5 of R186 for ACK NOTIFY and UNMASK STREAM, with the NOTIFY they may release; a response that the NOTIFY left without
a place waits for one (R162). -/
def State.runReleasing (c : Message) (act : Act) (notifyFirst : Bool) (s : State) : State :=
  match act c.msg.params s with
  | none => s.respond c .badLength .empty
  | some r =>
    if r.status = .done then
      (r.state.notifyBefore notifyFirst c.msg.params).offerResponse c (c.response r.status r.values)
    else r.state.respond c r.status r.values

/-- ACK NOTIFY, R162. -/
def execAckNotify (m : HostMsg) (notifyFirst : Bool) : State → Host.Outcome State Fault Refusal :=
  event (State.take { kind := 0x61, msg := m } false (State.runReleasing { kind := 0x61, msg := m } actAckNotify notifyFirst))

/-- MASK STREAM, R163. -/
def execMaskStream (m : HostMsg) : State → Host.Outcome State Fault Refusal := hostCommand 0x62 m actMaskStream

/-- UNMASK STREAM, R163. -/
def execUnmaskStream (m : HostMsg) (notifyFirst : Bool) : State → Host.Outcome State Fault Refusal :=
  event
    (State.take { kind := 0x63, msg := m } false (State.runReleasing { kind := 0x63, msg := m } actUnmaskStream notifyFirst))

/-- NOTIFY, R160. -/
def execNotify (k : Fin 4) : State → Host.Outcome State Fault Refusal := event (State.sendNotify k)

end Sys2Proof.Machine
end

