-- ==== Sys2Proof/Machine/StartUp.lean ====
section
/-! DEFINITION. The commands and events of chapter 9: PORN, the load image and its replay, RESTARTED, RESET ROUTER, READ LOAD REPORT,
OPEN ROUTING, CLOSE ROUTING. -/

namespace Sys2Proof.Machine

/-! ## PORN (R168) -/

/-- POWER ON RESET, R168: PORN rises with these levels on the strap pins. -/
def execPowerOnReset (rate1 rate0 : Bool) (s : State) : Host.Outcome State Fault Refusal := .next (s.powerOn true rate1 rate0)

/-- PORN LOW, R168: every block in its power-on state until PORN rises again. -/
def execPornLow (s : State) : Host.Outcome State Fault Refusal := .next (s.powerOn false s.pins.rate1 s.pins.rate0)

/-! ## The load image (R172) -/

/-- The loader's state replaced. -/
def State.setLoader (l : Loader) (s : State) : State := { s with loader := l }

/-- START goes on in this phase. -/
def State.setPhase (ph : LoadPhase) (s : State) : State := s.setLoader { s.loader with state := .start ph }

/-- What reading the image comes to, in the order of the tests of R172. -/
def State.imageRead (r : ImageRead) (s : State) : State :=
  if !r.deviceAck then s.setPhase (.offering .absent)
  else
    match (if r.allAck then parseImage r.bytes else none) with
    | none => (s.latch .router .loadFailed).setPhase (.offering .badImage)
    | some [] => s.setPhase (.offering .good)
    | some (x :: rest) => s.setPhase (.replaying 1 (x :: rest))

/-- The loader reads the image, from offset 0 of device 51h (R172). -/
def State.loadImage (r : ImageRead) (s : State) : State :=
  match s.loader.state with
  | .start .reading => (s.emit (.memoryRead Config.memoryDevice 0)).imageRead r
  | _ => s

/-- LOAD IMAGE READ, R172. -/
def execLoadImageRead (r : ImageRead) : State → Host.Outcome State Fault Refusal := event (State.loadImage r)

/-! ## Replay (R173, R174, R175) -/

/-- OPEN ROUTING in a load record (R175). -/
def actOpenRoutingRecord : SettingAct := fun _ _ params s =>
  match params with
  | [] =>
    some
      (if s.routes.ownStation.value = 0 ∨ s.loader.pendingOpen then refuse .wrongState s
      else done .empty (s.setLoader { s.loader with pendingOpen := true }))
  | _ => none

/-- The kinds allowed in a load, and their acts (R173). -/
def loadAct (kind : Byte) : Option SettingAct :=
  match kind.toNat with
  | 0x10 => some actSetStation
  | 0x11 => some actSetBayRange
  | 0x12 => some actSetWindow
  | 0x13 => some actSetDirected
  | 0x14 => some actSetPermits
  | 0x15 => some actSetSpoiled
  | 0x30 => some actSetQuota
  | 0x31 => some actSetExchangeTimers
  | 0x38 => some actSetStallLimit
  | 0x40 => some actSetLink
  | 0x50 => some actSetReporting
  | 0x60 => some actSetStreams
  | 0x72 => some actOpenRoutingRecord
  | _ => none

/-- A record put to the five tests of R173; its checks take the router as FORWARDING once the pending-open mark is set
(R175). -/
def runRecord (r : LoadRecord) (s : State) : Reply :=
  match flagOfByte r.flag, r.body with
  | none, _ => refuse .badValue s
  | some _, [] => refuse .badKind s
  | some fix, kind :: params =>
    if !isCommandKind kind then refuse .badKind s
    else
      match loadAct kind with
      | none => refuse .notInLoad s
      | some act => (act s.loader.pendingOpen fix params s).getD (refuse .badLength s)

/-- The load report after a record with this index and result (R173). -/
def LoadReport.record (index : Nat) (status : Status) (r : LoadReport) : LoadReport :=
  if status = .done then { r with executed := r.executed + 1 }
  else { r with refused := r.refused + 1, firstRefused := r.firstRefused.orElse fun _ => some (index, status) }

/-- The load goes on after record `index`, or has ended (R173, R176, R177). -/
def State.afterRecord (index : Nat) (rest : List LoadRecord) (s : State) : State :=
  match rest with
  | [] => s.setPhase (.offering (if s.loader.report.refused = 0 then .good else .partly))
  | x :: xs => s.setPhase (.replaying (index + 1) (x :: xs))

/-- The loader replays the next record (R173). -/
def State.replay (s : State) : State :=
  match s.loader.state with
  | .start (.replaying index (r :: rest)) =>
    let reply := runRecord r s
    let t := reply.state
    (t.setLoader { t.loader with report := t.loader.report.record index reply.status }).afterRecord index rest
  | _ => s

/-- LOAD RECORD, R173. -/
def execLoadRecord : State → Host.Outcome State Fault Refusal := event State.replay

/-! ## RESTARTED (R176, R177) -/

/-- The state in which the router leaves START (R176). -/
def Loader.entered (l : Loader) : RouterState := if l.pendingOpen then .forwarding else .configuring

/-- RESTARTED enters the outgoing queue, and START ends (R176, R177, R178). -/
def State.sendRestarted (s : State) : State :=
  match s.loader.state with
  | .start (.offering o) =>
    if s.management.mayEnter .restarted then
      let report := { s.loader.report with outcome := some o }
      (s.sendUnsolicited .restarted 0xFC (.restarted report s.loader.entered.name)).setLoader
        { state := s.loader.entered, pendingOpen := false, report := { report with lostFetch := none } }
    else s
  | _ => s

/-- RESTARTED, R176, R177. -/
def execRestarted : State → Host.Outcome State Fault Refusal := event State.sendRestarted

/-! ## Commands (R170, R179, R180, R181) -/

/-- RESET ROUTER (R170): the response enters the queue, and in the same act the command reset is taken. -/
def State.startReset (c : Message) (s : State) : State :=
  match c.msg.params with
  | [] => (s.respond c .done .empty).commandReset
  | _ :: _ => s.respond c .badLength .empty

/-- RESET ROUTER, R170. -/
def execResetRouter (m : HostMsg) : State → Host.Outcome State Fault Refusal :=
  event (State.take { kind := 0x70, msg := m } false (State.startReset { kind := 0x70, msg := m }))

/-- READ LOAD REPORT, R179. -/
def actReadLoadReport : Act := fun params s =>
  match params with
  | [] => some (done (.loadReport s.loader.state.name s.loader.report) s)
  | _ :: _ => none

/-- READ LOAD REPORT, R179; run in START too (R167). -/
def execReadLoadReport (m : HostMsg) : State → Host.Outcome State Fault Refusal := hostCommandInStart 0x71 m actReadLoadReport

/-- The router state changes (R180, R181). -/
def State.setRouterState (x : RouterState) (s : State) : State := s.setLoader { s.loader with state := x }

/-- OPEN ROUTING (R180). -/
def actOpenRouting : Act := fun params s =>
  match params with
  | [] =>
    some
      (match s.loader.state with
      | .configuring =>
        if s.routes.ownStation.value = 0 then refuse .wrongState s else done .empty (s.setRouterState .forwarding)
      | .forwarding => refuse .wrongState s
      | .start _ => refuse .notReady s)
  | _ :: _ => none

/-- OPEN ROUTING, R180. -/
def execOpenRouting (m : HostMsg) : State → Host.Outcome State Fault Refusal := hostCommand 0x72 m actOpenRouting

/-- CLOSE ROUTING (R181): link heads that hold AWAIT LANE are decided again (R57). -/
def actCloseRouting : Act := fun params s =>
  match params with
  | [] =>
    some
      (match s.loader.state with
      | .forwarding => done .empty (s.setRouterState .configuring).redecideAll
      | .configuring => refuse .wrongState s
      | .start _ => refuse .notReady s)
  | _ :: _ => none

/-- CLOSE ROUTING, R181. -/
def execCloseRouting (m : HostMsg) : State → Host.Outcome State Fault Refusal := hostCommand 0x73 m actCloseRouting

end Sys2Proof.Machine
end

