-- ==== Sys2Proof/Machine/Management.lean ====
section
/-! DEFINITION. The commands and events of chapter 10: IDENTIFY, ECHO, a message of unknown kind, the receiver, and the outgoing
queue's own events. -/

namespace Sys2Proof.Machine

/-! ## Commands (R192, R193, R186) -/

/-- IDENTIFY, R192. -/
def actIdentify : Act := fun params s =>
  match params with
  | [] => some (done .identity s)
  | _ :: _ => none

/-- IDENTIFY, R192; run in START too (R167). -/
def execIdentify (m : HostMsg) : State → Host.Outcome State Fault Refusal := hostCommandInStart 0x01 m actIdentify

/-- ECHO (bytes), R193. -/
def actEcho : Act := fun params s => if Config.echoMax < params.length then none else some (done (.echoed params) s)

/-- ECHO, R193. -/
def execEcho (m : HostMsg) : State → Host.Outcome State Fault Refusal := hostCommand 0x02 m actEcho

/-- A message whose kind is not a command kind is taken: test 1 of R186, then BAD KIND with response kind FFh (R186, R202). -/
def execBadKindMessage (kind : Byte) (m : HostMsg) : State → Host.Outcome State Fault Refusal :=
  event fun s =>
    if isCommandKind kind then s else s.take { kind, msg := m } true fun t => t.respond { kind, msg := m } .badKind .empty

/-! ## The receiver (R183, R184, R185) -/

/-- MESSAGE RECEIVE, R183: bytes arrive on RXD (log 24). -/
def execMessageReceive (bytes : List Byte) : State → Host.Outcome State Fault Refusal := event (State.receive bytes)

/-- The receiver hunts, and a start byte arrives (R183). -/
def State.startByteArrives (s : State) : State :=
  if s.management.gathered.isNone then s.receive [Config.startByte] else s

/-- START BYTE FOUND, R183. -/
def execStartByteFound : State → Host.Outcome State Fault Refusal := event State.startByteArrives

/-- The two length bytes after a start byte arrive and are out of range: hunting resumes at the byte after the start byte
(R183). -/
def State.lengthArrives (hi lo : Byte) (s : State) : State :=
  match s.management.gathered with
  | some { taken := [], left := _ } => if lengthOutOfRange hi lo then s.receive [hi, lo] else s
  | _ => s

/-- BODY LENGTH OUT OF RANGE, R183. -/
def execBodyLengthOutOfRange (hi lo : Byte) : State → Host.Outcome State Fault Refusal := event (State.lengthArrives hi lo)

/-- The receiver hunts from the next byte on. -/
def State.hunt (s : State) : State := { s with management := { s.management with gathered := none } }

/-- More than 5 ms pass between two bytes of a message being gathered: it is abandoned, its bytes are not examined again (R184).
The clock comes forward to the end of the 5 ms (log 5). -/
def State.abandon (s : State) : State :=
  match s.management.gathered with
  | some g => (s.elapse g.left).hunt
  | none => s

/-- MESSAGE ABANDONED, R184. -/
def execMessageAbandoned : State → Host.Outcome State Fault Refusal := event State.abandon

/-! ## The outgoing queue (R188, R189) -/

/-- RESPONSE ENTERS QUEUE, R188. -/
def execResponseEntersQueue : State → Host.Outcome State Fault Refusal := event State.offerRunning

/-- The last byte of the message at the head of the outgoing queue is sent, and its place is free (R189). -/
def State.messageGone (s : State) : State :=
  match s.management.outgoing with
  | x :: rest => { s with management := { s.management with outgoing := rest } }.emit (.message x.bytes)
  | [] => s

/-- MESSAGE SENT, R189. -/
def execMessageSent : State → Host.Outcome State Fault Refusal := event State.messageGone

end Sys2Proof.Machine
end

