-- ==== Sys2Proof/Machine/Dispatch.lean ====
section
/-! DEFINITION. Which meaning each command has: one arm per row of spec/opcode_table.json. -/

namespace Sys2Proof.Machine

def exec (i : Instr) (s : State) : Host.Outcome State Fault Refusal :=
  match i with
  | .setStation m => Sys2Proof.Machine.execSetStation m s
  | .setBayRange m => Sys2Proof.Machine.execSetBayRange m s
  | .setWindow m => Sys2Proof.Machine.execSetWindow m s
  | .setDirected m => Sys2Proof.Machine.execSetDirected m s
  | .setPermits m => Sys2Proof.Machine.execSetPermits m s
  | .setSpoiled m => Sys2Proof.Machine.execSetSpoiled m s
  | .readRoutes m => Sys2Proof.Machine.execReadRoutes m s
  | .probeRoute m => Sys2Proof.Machine.execProbeRoute m s
  | .readInbox m => Sys2Proof.Machine.execReadInbox m s
  | .issueStore m => Sys2Proof.Machine.execIssueStore m s
  | .sendNotice m => Sys2Proof.Machine.execSendNotice m s
  | .setQuota m => Sys2Proof.Machine.execSetQuota m s
  | .setExchangeTimers m => Sys2Proof.Machine.execSetExchangeTimers m s
  | .cancelExchange m => Sys2Proof.Machine.execCancelExchange m s
  | .issueFetch m => Sys2Proof.Machine.execIssueFetch m s
  | .listExchanges m => Sys2Proof.Machine.execListExchanges m s
  | .setStallLimit m => Sys2Proof.Machine.execSetStallLimit m s
  | .readLanes m => Sys2Proof.Machine.execReadLanes m s
  | .setLink m => Sys2Proof.Machine.execSetLink m s
  | .holdBay m => Sys2Proof.Machine.execHoldBay m s
  | .releaseBay m => Sys2Proof.Machine.execReleaseBay m s
  | .retrain m => Sys2Proof.Machine.execRetrain m s
  | .readLink m => Sys2Proof.Machine.execReadLink m s
  | .setReporting m => Sys2Proof.Machine.execSetReporting m s
  | .readConditions m => Sys2Proof.Machine.execReadConditions m s
  | .clearConditions m => Sys2Proof.Machine.execClearConditions m s
  | .readCapture m => Sys2Proof.Machine.execReadCapture m s
  | .releaseCapture m => Sys2Proof.Machine.execReleaseCapture m s
  | .readCounters m => Sys2Proof.Machine.execReadCounters m s
  | .setStreams m => Sys2Proof.Machine.execSetStreams m s
  | .ackNotify m notifyFirst => Sys2Proof.Machine.execAckNotify m notifyFirst s
  | .maskStream m => Sys2Proof.Machine.execMaskStream m s
  | .unmaskStream m notifyFirst => Sys2Proof.Machine.execUnmaskStream m notifyFirst s
  | .resetRouter m => Sys2Proof.Machine.execResetRouter m s
  | .readLoadReport m => Sys2Proof.Machine.execReadLoadReport m s
  | .openRouting m => Sys2Proof.Machine.execOpenRouting m s
  | .closeRouting m => Sys2Proof.Machine.execCloseRouting m s
  | .identify m => Sys2Proof.Machine.execIdentify m s
  | .echo m => Sys2Proof.Machine.execEcho m s
  | .badKindMessage kind m => Sys2Proof.Machine.execBadKindMessage kind m s
  | .messageReceive bytes => Sys2Proof.Machine.execMessageReceive bytes s
  | .messageAbandoned => Sys2Proof.Machine.execMessageAbandoned s
  | .responseEntersQueue => Sys2Proof.Machine.execResponseEntersQueue s
  | .messageSent => Sys2Proof.Machine.execMessageSent s
  | .notify stream => Sys2Proof.Machine.execNotify stream s
  | .fetchDone => Sys2Proof.Machine.execFetchDone s
  | .restarted => Sys2Proof.Machine.execRestarted s
  | .powerOnReset rate1 rate0 => Sys2Proof.Machine.execPowerOnReset rate1 rate0 s
  | .pornLow => Sys2Proof.Machine.execPornLow s
  | .resetSymbol p => Sys2Proof.Machine.execResetSymbol p s
  | .loadImageRead r => Sys2Proof.Machine.execLoadImageRead r s
  | .loadRecord => Sys2Proof.Machine.execLoadRecord s
  | .frameArrival p c bytes => Sys2Proof.Machine.execFrameArrival p c bytes s
  | .laneGrant p c => Sys2Proof.Machine.execLaneGrant p c s
  | .transmitFrame p => Sys2Proof.Machine.execTransmitFrame p s
  | .sendCreditReturn p c => Sys2Proof.Machine.execSendCreditReturn p c s
  | .creditReturn p c => Sys2Proof.Machine.execCreditReturn p c s
  | .stallTimerRunsOut timer => Sys2Proof.Machine.execStallTimerRunsOut timer s
  | .deadlineRunsOut tag => Sys2Proof.Machine.execDeadlineRunsOut tag s
  | .quarantineRunsOut tag => Sys2Proof.Machine.execQuarantineRunsOut tag s
  | .quietIntervalEnd p => Sys2Proof.Machine.execQuietIntervalEnd p s
  | .partnerSignalPresent p => Sys2Proof.Machine.execPartnerSignalPresent p s
  | .greetingRepeat p => Sys2Proof.Machine.execGreetingRepeat p s
  | .greeting p bytes => Sys2Proof.Machine.execGreeting p bytes s
  | .accept p => Sys2Proof.Machine.execAccept p s
  | .trainingTimeout p => Sys2Proof.Machine.execTrainingTimeout p s
  | .partnerSignalLoss p => Sys2Proof.Machine.execPartnerSignalLoss p s
  | .damagedWindowExpiry p => Sys2Proof.Machine.execDamagedWindowExpiry p s
  | .frameLastByteSent p => Sys2Proof.Machine.execFrameLastByteSent p s
  | .startByteFound => Sys2Proof.Machine.execStartByteFound s
  | .bodyLengthOutOfRange hi lo => Sys2Proof.Machine.execBodyLengthOutOfRange hi lo s

end Sys2Proof.Machine
end

