-- ==== Sys2Proof/Safety.lean ====
section
/-! DEFINITION. What claims are stated in: a command's effect, a host command taken and answered, and the laws the spec says hold at
all times. -/

namespace Sys2Proof.Machine

/-! ## Effects -/

/-- The state with these messages waiting for a place in the outgoing queue. -/
def State.withWaiting (w : List (List Waiter)) (s : State) : State :=
  { s with management := { s.management with waiting := w } }

/-- The command answers the next state `t`; which messages then wait for a place (R189) is left open. -/
def Effect (i : Instr) (s t : State) : Prop := ∃ w, exec i s = .next (t.withWaiting w)

/-- PORN is high, no command is in progress, the command is the head of the receive queue, a place is free for its response, and it
does not repeat the last answered command (R168, R186). -/
structure Taken (s : State) (c : Message) : Prop where
  porn : s.pins.porn = true
  idle : s.management.running = none
  place : s.management.mayEnter .response = true
  head : s.management.receiveQueue.head? = some c
  fresh : s.management.repeated c = none

/-- The command is taken and the router is not in START (R167). -/
structure TakenOutsideStart (s : State) (c : Message) : Prop extends Taken s c where
  running : s.inStart = false

/-- The state `t` with the management link as it stands once the command taken in `s` is answered with this status and these
values: the command gone from the receive queue, the response at the tail of the outgoing queue and in the last response memory
(R186, R187). -/
def State.answered (s : State) (c : Message) (status : Status) (values : Values) (t : State) : State :=
  { t with management :=
      { s.management with
        receiveQueue := s.management.receiveQueue.tail
        running := none
        outgoing := s.management.outgoing ++ [c.response status values]
        last := some { seq := c.msg.seq, check := c.msg.check, response := c.response status values } } }

/-- The host command is answered with this status and these values, and every other block is then as in `t`. -/
def Answers (i : Instr) (s : State) (c : Message) (status : Status) (values : Values) (t : State) : Prop :=
  Effect i s (s.answered c status values t)

/-- The state once the message at the head of the receive queue has left it (R186). -/
def State.taken (s : State) : State :=
  { s with management := { s.management with receiveQueue := s.management.receiveQueue.tail } }

/-- The state `t` once its command is answered with this status and these values (R186, R187). -/
def State.answer (c : Message) (status : Status) (values : Values) (t : State) : State :=
  { t with management :=
      { t.management with
        running := none
        outgoing := t.management.outgoing ++ [c.response status values]
        last := some { seq := c.msg.seq, check := c.msg.check, response := c.response status values } } }

/-- The event is taken: PORN is high and the command answers the next state `t`. -/
def Happens (i : Instr) (s t : State) : Prop := s.pins.porn = true → Effect i s t

/-! ## Laws of the route tables (R26, R27, R28, R29) -/

/-- The laws of the route tables. -/
structure RouteLaw (r : RouteTables) : Prop where
  /-- No station lies in two bay ranges (R27). -/
  ranges : ∀ b c st, (r.bays.get b).range.value.holds st → (r.bays.get c).range.value.holds st → b = c
  /-- No bay range contains the own station (R27). -/
  ownStation : ∀ b, r.ownStation.value ≠ 0 → ¬(r.bays.get b).range.value.holds r.ownStation.value
  /-- No point lies in two open windows, counting both kinds of every bay (R29). -/
  windows :
    ∀ b c k l a,
      ((r.bays.get b).window k).value.holds a → ((r.bays.get c).window l).value.holds a → b = c ∧ k = l
  /-- Every window holds aligned values, closed ones too (R28). -/
  aligned : ∀ b k, ((r.bays.get b).window k).value.aligned k

/-- The router keeps a nonzero own station for as long as it forwards, and from an OPEN ROUTING record to the end of START
(R26, R175). -/
structure StationLaw (s : State) : Prop where
  forwarding : s.isForwarding → s.routes.ownStation.value ≠ 0
  pendingOpen : s.loader.pendingOpen → s.inStart ∧ s.routes.ownStation.value ≠ 0

/-! ## Bounds of buffers, lanes and credits (R100 to R105, R115, R129) -/

/-- Frames held in a class. -/
def PortState.held (x : PortState) : FrameClass → Nat
  | .request => x.requests.length
  | .answer => x.answers.length

/-- The bounds of one port's buffers, lanes and credits. -/
structure PortLaw (x : PortState) : Prop where
  /-- Granted count, credit returns still owed and frames held of a class together are at most 4 (R101, R102). -/
  credit : ∀ c, x.granted.get c + x.owed.get c + x.held c ≤ 4
  /-- At most 12 frames in the request lane (R103). -/
  requestLane : x.requestLane.length ≤ 12
  /-- At most 8 frames in the answer lane, at most 6 of them forwarded (R103). -/
  answerLane : x.answerLane.length ≤ 8 ∧ forwardedCount x.answerLane ≤ 6
  /-- The damaged window holds at most 7 (R129). -/
  window : x.window.length ≤ 7
  /-- Partner credit stays within the greeting's value while UP (R105). -/
  partner : x.link.isUp → ∃ g, x.greeting = some g ∧ ∀ c, x.partner.get c ≤ g.credits c
  /-- While the link is not UP, classes and lanes are empty and every credit count is 0 (R115). -/
  down :
    x.link.isUp = false →
      x.requests = [] ∧ x.answers = [] ∧ x.requestLane = [] ∧ x.answerLane = [] ∧ x.granted = ⟨0, 0⟩ ∧ x.owed = ⟨0, 0⟩
        ∧ x.partner = ⟨0, 0⟩ ∧ x.window = [] ∧ x.sending = none
  /-- A waiting state belongs to a head (R43). -/
  waits : (x.requestWait ≠ none → x.requests ≠ []) ∧ (x.answerWait ≠ none → x.answers ≠ [])

/-- Every port keeps its bounds. -/
def BufferLaw (s : State) : Prop := ∀ p, PortLaw (s.port p)

/-! ## The forwarding unit's law (R57) -/

/-- While the router is not FORWARDING, no head from a link port waits for a request lane. -/
def ForwardingLaw (s : State) : Prop :=
  (∀ p, (s.port p).requestWait ≠ none → (s.port p).requests ≠ [])
    ∧ (s.isForwarding = false → ∀ p d left, (s.port p).requestWait ≠ some (.lane d left))

/-! ## Bounds of the management link and the inbox (R61, R185, R189) -/

/-- The queues stay within their sizes. -/
structure QueueLaw (s : State) : Prop where
  receiveQueue : s.management.receiveQueue.length ≤ 4
  outgoing : s.management.outgoing.length ≤ 8
  inbox : s.inbox.length ≤ 16
  streams : s.notification.streams.length ∈ [0, 1, 2, 4]

/-- A step answered this next state. -/
def State.stepsTo (s t : State) : Prop := step s = .next t

end Sys2Proof.Machine
end

