-- ==== Sys2Proof/Certificates/Slice0/Obligations.lean ====
section
/-! DEFINITION. The statements for the provers. Taken, TakenOutsideStart, Answers, Effect, Happens and the laws are in
Sys2Proof/Safety.lean. A statement whose conclusion is Answers, Effect or Happens says that exec answers that next state, whole: what
the next state does not name is unchanged. -/

open Sys2Proof Sys2Proof.Machine

/-! ## The step -/

/-- A step of a state with a command at the front of its queue is exec of that command on the state with the queue's rest. -/
def Obligations.StepTakesTheFrontCommand : Prop :=
  ∀ (c : Instr) (rest : List Instr) (s : State), step { s with pending := c :: rest } = exec c { s with pending := rest }

/-- On an empty queue one millisecond passes and nothing else happens (the model's choice: log 4); while PORN is low not even
that. When `n` ms pass, every running countdown has `n` less left, none below 0, and nothing else changes: the deadline of an OPEN or
ORPHAN entry and the quarantine left (R85, R86), the stall timers of heads and of M (R111), the quiet interval and a training attempt
(R123, R124), the frames of the damaged window (R129), and the byte gap of the receiver, past whose end the message being gathered is
abandoned (R184; the clock: log 5). -/
def Obligations.StepOnEmptyQueueIsAMillisecond : Prop :=
  (∀ s : State, s.pending = [] → step s = .next (if s.pins.porn then s.elapse 1 else s))
  ∧ (∀ (n : Nat) (s : State),
      let t := s.elapse n
      t = { s with
          ports := t.ports
          exchange := { s.exchange with entries := t.exchange.entries }
          management := { s.management with gathered := t.management.gathered, running := t.management.running } }
      ∧ (∀ i,
          (s.entry i = .free → t.entry i = .free)
          ∧ (∀ x issue d, s.entry i = .opened x issue d → t.entry i = .opened x issue (d - n))
          ∧ (∀ x issue d, s.entry i = .orphan x issue d → t.entry i = .orphan x issue (d - n))
          ∧ ∀ x c left, s.entry i = .quarantine x c left → t.entry i = .quarantine x c (left - n))
      ∧ (s.management.running = none → t.management.running = none)
      ∧ (∀ c h p left, s.management.running = some ⟨c, .awaitLane h p left⟩ →
          t.management.running = some ⟨c, .awaitLane h p (left - n)⟩)
      ∧ (∀ c x, s.management.running = some ⟨c, .answered x⟩ → t.management.running = some ⟨c, .answered x⟩)
      ∧ (s.management.gathered = none → t.management.gathered = none)
      ∧ ∀ g, s.management.gathered = some g →
          (n ≤ g.left → t.management.gathered = some ⟨g.taken, g.left - n⟩)
          ∧ (g.left < n → t.management.gathered = none))
  ∧ ∀ (n : Nat) (s : State) (p : Port),
      let x := s.port p
      let y := (s.elapse n).port p
      y = { x with link := y.link, window := y.window, requestWait := y.requestWait, answerWait := y.answerWait }
      ∧ y.window = x.window.map (· - n)
      ∧ (x.requestWait = none → y.requestWait = none)
      ∧ (∀ d left, x.requestWait = some (.lane d left) → y.requestWait = some (.lane d (left - n)))
      ∧ (∀ st left, x.requestWait = some (.answerSlot st left) → y.requestWait = some (.answerSlot st (left - n)))
      ∧ (x.answerWait = none → y.answerWait = none)
      ∧ (∀ left, x.answerWait = some left → y.answerWait = some (left - n))
      ∧ (∀ left, x.link = .down (some left) → y.link = .down (some (left - n)))
      ∧ (∀ a, x.link = .training a → y.link = .training { a with left := a.left - n })
      ∧ ((∀ left, x.link ≠ .down (some left)) → (∀ a, x.link ≠ .training a) → y.link = x.link)

/-- While PORN is low no command but PORN rising changes anything, apart from the level of a partner signal (R168, log 25) and the
power-on values that PORN LOW sets again.
PORN rising takes the power-on reset: every block at its power-on values, the line rate from the straps, START with cause
POWER-ON; PORN going low puts every block in that state and holds it (R168, R171, R182, R194). That POWER ON RESET does so also where
PORN is already high, which no pin can do, is the model's choice (log 7). -/
def Obligations.PornHoldsAndTakesThePowerOnReset : Prop :=
  (∀ (c : Instr) (s : State), s.pins.porn = false →
      (∀ r1 r0, c ≠ .powerOnReset r1 r0) → c ≠ .pornLow → (∀ p, c ≠ .partnerSignalPresent p) → (∀ p, c ≠ .partnerSignalLoss p) →
        exec c s = .next s)
  ∧ ((∀ (r1 r0 : Bool) (s : State), exec (.powerOnReset r1 r0) s = .next
      { State.reset with
        pending := s.pending
        pins := { porn := true, rate1 := r1, rate0 := r0, signal := s.pins.signal }
        management := ManagementLink.reset r1 r0
        wire := s.wire })
    ∧ ∀ s : State, exec .pornLow s = .next
      { State.reset with
        pending := s.pending
        pins := { s.pins with porn := false }
        management := ManagementLink.reset s.pins.rate1 s.pins.rate0
        wire := s.wire })

/-- State.reset holds the values the spec gives after a power-on reset (R18, R19, R20, R33, R61, R70, R72, R73, R92, R99, R113,
R118, R120, R137, R142, R154, R156, R166, R171, R190, R194). -/
def Obligations.ResetValues : Prop :=
  State.reset.routes.ownStation = ⟨0, false⟩
  ∧ State.reset.routes.directed = ⟨⟨0xFFFFFF00, 0x000000FF, .b1, false⟩, false⟩
  ∧ (∀ b, State.reset.routes.bays.get b =
      { range := ⟨⟨0, 0⟩, false⟩, general := ⟨⟨0xFFFFF000, 0x00000FFF⟩, false⟩, bulk := ⟨⟨0xFFF00000, 0x000FFFFF⟩, false⟩,
        permits := ⟨⟨false, false⟩, false⟩ })
  ∧ (∀ p, State.reset.routes.dropSpoiled.get p = ⟨false, false⟩)
  ∧ State.reset.inbox = [] ∧ State.reset.hostFetch = .empty
  ∧ (∀ i, State.reset.entry i = .free)
  ∧ (∀ p, State.reset.exchange.quotas.get p = ⟨if p = .t then 32 else 8, false⟩)
  ∧ State.reset.exchange.timers = ⟨⟨50, 50⟩, false⟩
  ∧ State.reset.stallLimit = ⟨10, false⟩
  ∧ (∀ p, State.reset.port p =
      { link := .down (some 1), settings := ⟨⟨true, 256⟩, false⟩, attempts := 0, offered := none, greeting := none, window := [],
        downCause := none, failCause := none, requests := [], requestWait := none, answers := [], answerWait := none,
        granted := ⟨0, 0⟩, owed := ⟨0, 0⟩, requestLane := [], answerLane := [], partner := ⟨0, 0⟩,
        pointer := ⟨.link .t, .link .t⟩, sending := none, counters := ⟨0, 0, 0, 0, 0⟩ })
  ∧ (∀ i, State.reset.latched i = [])
  ∧ (∀ c, State.reset.conditions.reporting.get c = ⟨⟨false, []⟩, false⟩)
  ∧ State.reset.conditions.routingCapture = none ∧ State.reset.conditions.exchangeCapture = none
  ∧ State.reset.conditions.counters = ⟨0, 0, 0, 0⟩
  ∧ State.reset.notification = ⟨[], false, ⟨false, false, false, false⟩⟩
  ∧ State.reset.loader =
      { state := .start .reading, pendingOpen := false,
        report := { cause := .powerOn, outcome := none, executed := 0, refused := 0, firstRefused := none, lostFetch := none } }
  ∧ State.reset.management =
      { rate := .r115200, gathered := none, receiveQueue := [], running := none, outgoing := [], waiting := [], last := none,
        unsolicited := 0 }

/-- What the router sends reads back as what it is: a frame of each kind within its ranges, with its check, its field checks and its
fields; the router's greeting with its kind, offered max and 4 and 4 credits; a message the router sends, as kind, sequence and body
with the check over them, whose body is within 4160 bytes; and, in the same envelope, a good message of the host (R15, R124, R183, R195,
R198, R200, R201). -/
def Obligations.SentFormsReadBack : Prop :=
  (∀ (most : Nat) (r : Request Byte),
    (match r with
    | .store _ d _ => 1 ≤ d.length ∧ d.length ≤ most ∧ d.length ≤ 1024
    | .fetch _ n _ _ => 1 ≤ n ∧ n ≤ 4096
    | .notice target _ _ d _ => target ≠ 0 ∧ d.length ≤ 32) →
      frameCheckOk (r.bytes id) = true ∧ parseFrame .request most (r.bytes id) = some (.request r))
  ∧ (∀ (most : Nat) (a : Answer),
    (a.status = .good → (a.final = true ∨ 1 ≤ a.payload.length) ∧ a.payload.length ≤ most ∧ a.payload.length ≤ 1024) →
    (a.status ≠ .good → a.final = true ∧ a.payload = []) →
      frameCheckOk a.bytes = true ∧ parseFrame .answer most a.bytes = some (.answer a))
  ∧ (∀ offer ∈ [64, 128, 256, 512, 1024], checkGreeting (greetingBytes offer) = .good ⟨.router, offer, 4, 4⟩)
  ∧ (∀ (kind : Byte) (m : HostMsg), m.good kind = true → scan 0 (m.envelope kind) = ([.message ⟨kind, m⟩], none))
  ∧ ∀ x : OutMessage, x.body.bytes.length + 2 ≤ 4160 →
      let check := crc16 (nat16 (x.body.bytes.length + 2) ++ x.kind :: x.seq :: x.body.bytes)
      x.bytes = 0x9C :: nat16 (x.body.bytes.length + 2) ++ x.kind :: x.seq :: x.body.bytes ++ bytes16 check
      ∧ scan 0 x.bytes = ([.message ⟨x.kind, ⟨x.seq, x.body.bytes, check⟩⟩], none)

/-! ## Chapter 2: route tables -/

/-- SET STATION taken writes the own station and nothing else (R25, R26, R34).
SET STATION refused, in the order of R25: 255 is BAD VALUE; a change of a fixed own station is FIXED; a nonzero station in a
nonempty bay range is CONFLICT; 0 while FORWARDING is WRONG STATE; a wrong length is BAD LENGTH; nothing changes (R26, R34,
R186). -/
def Obligations.SetStationResults : Prop :=
  (∀ (m : HostMsg) (st : Byte) (s : State), TakenOutsideStart s ⟨0x10, m⟩ → m.params = [st] → st ≠ 255 →
      (s.routes.ownStation.fixed = true → s.routes.ownStation.value = st) →
      (st ≠ 0 → ∀ b, (s.routes.bays.get b).range.value.holds st = false) → (st = 0 → s.isForwarding = false) →
        Answers (.setStation m) s ⟨0x10, m⟩ .done .empty
          { s with routes := { s.routes with ownStation := ⟨st, s.routes.ownStation.fixed⟩ } })
  ∧ (∀ (m : HostMsg) (s : State), TakenOutsideStart s ⟨0x10, m⟩ →
      (m.params.length ≠ 1 → Answers (.setStation m) s ⟨0x10, m⟩ .badLength .empty s)
      ∧ ∀ st, m.params = [st] →
        (st = 255 → Answers (.setStation m) s ⟨0x10, m⟩ .badValue .empty s)
        ∧ (st ≠ 255 → s.routes.ownStation.fixed = true → s.routes.ownStation.value ≠ st →
            Answers (.setStation m) s ⟨0x10, m⟩ .fixed .empty s)
        ∧ (st ≠ 255 → (s.routes.ownStation.fixed = true → s.routes.ownStation.value = st) → st ≠ 0 →
            (∃ b, (s.routes.bays.get b).range.value.holds st = true) → Answers (.setStation m) s ⟨0x10, m⟩ .conflict .empty s)
        ∧ (st = 0 → (s.routes.ownStation.fixed = true → s.routes.ownStation.value = st) → s.isForwarding = true →
            Answers (.setStation m) s ⟨0x10, m⟩ .wrongState .empty s))

/-- SET BAY RANGE: 255 is BAD VALUE, a change of a fixed range FIXED; a range that shares a station with another bay's, or holds the
nonzero own station, is CONFLICT; any other is written to its bay alone; a refusal changes nothing (R25, R27, R34).
SET WINDOW: misaligned is BAD VALUE, a change of a fixed window FIXED; a window that shares a point with another open window is
CONFLICT; any other is written to its bay and kind alone; a refusal changes nothing (R25, R28, R29, R34). A byte that names no bay, or no
window kind, is BAD VALUE (R27, R28). -/
def Obligations.SetBayRangeAndSetWindowWriteOrConflict : Prop :=
  (∀ (m : HostMsg) (b f l : Byte) (bay : Bay) (s : State), TakenOutsideStart s ⟨0x11, m⟩ → m.params = [b, f, l] →
    Bay.ofByte b = some bay →
      let x : StationRange := ⟨f, l⟩
      let old := (s.routes.bays.get bay).range
      let own := s.routes.ownStation.value
      let conflict :=
        (∃ c st, c ≠ bay ∧ x.holds st = true ∧ (s.routes.bays.get c).range.value.holds st = true)
          ∨ (own ≠ 0 ∧ x.holds own = true)
      (f = 255 ∨ l = 255 → Answers (.setBayRange m) s ⟨0x11, m⟩ .badValue .empty s)
      ∧ (f ≠ 255 → l ≠ 255 → old.fixed = true → old.value ≠ x → Answers (.setBayRange m) s ⟨0x11, m⟩ .fixed .empty s)
      ∧ (f ≠ 255 → l ≠ 255 → (old.fixed = true → old.value = x) →
          (conflict → Answers (.setBayRange m) s ⟨0x11, m⟩ .conflict .empty s)
          ∧ (¬conflict →
              Answers (.setBayRange m) s ⟨0x11, m⟩ .done .empty
                { s with routes :=
                  { s.routes with
                    bays := s.routes.bays.set bay { s.routes.bays.get bay with range := ⟨x, old.fixed⟩ } } })))
  ∧ (∀ (m : HostMsg) (b f l : Byte) (s : State), TakenOutsideStart s ⟨0x11, m⟩ → m.params = [b, f, l] → b = 0 ∨ 6 < b.toNat →
      Answers (.setBayRange m) s ⟨0x11, m⟩ .badValue .empty s)
  ∧ (∀ (m : HostMsg) (b k b3 b2 b1 b0 l3 l2 l1 l0 : Byte) (s : State), TakenOutsideStart s ⟨0x12, m⟩ →
      m.params = [b, k, b3, b2, b1, b0, l3, l2, l1, l0] → b = 0 ∨ 6 < b.toNat ∨ 1 < k.toNat →
        Answers (.setWindow m) s ⟨0x12, m⟩ .badValue .empty s)
  ∧ ∀ (m : HostMsg) (b k b3 b2 b1 b0 l3 l2 l1 l0 : Byte) (bay : Bay) (kind : WindowKind) (s : State),
    TakenOutsideStart s ⟨0x12, m⟩ → m.params = [b, k, b3, b2, b1, b0, l3, l2, l1, l0] →
    Bay.ofByte b = some bay → WindowKind.ofByte k = some kind →
      let w : Window := ⟨word32 b3 b2 b1 b0, word32 l3 l2 l1 l0⟩
      let old := (s.routes.bays.get bay).window kind
      let conflict :=
        ∃ c other a, (c ≠ bay ∨ other ≠ kind) ∧ w.holds a = true
          ∧ ((s.routes.bays.get c).window other).value.holds a = true
      (w.aligned kind = false → Answers (.setWindow m) s ⟨0x12, m⟩ .badValue .empty s)
      ∧ (w.aligned kind = true → old.fixed = true → old.value ≠ w → Answers (.setWindow m) s ⟨0x12, m⟩ .fixed .empty s)
      ∧ (w.aligned kind = true → (old.fixed = true → old.value = w) →
          (conflict → Answers (.setWindow m) s ⟨0x12, m⟩ .conflict .empty s)
          ∧ (¬conflict →
              Answers (.setWindow m) s ⟨0x12, m⟩ .done .empty
                { s with routes :=
                  { s.routes with
                    bays := s.routes.bays.set bay ((s.routes.bays.get bay).setWindow kind ⟨w, old.fixed⟩) } }))

/-- SET DIRECTED, SET PERMITS and SET SPOILED taken write their one item and nothing else; a change of a fixed item is FIXED, a
misaligned directed range, a byte that names no bay or port and a byte that is no flag are BAD VALUE (R30, R31, R32, R34). -/
def Obligations.DirectedPermitsSpoiledWritten : Prop :=
  (∀ (m : HostMsg) (b3 b2 b1 b0 l3 l2 l1 l0 t f : Byte) (bay : Bay) (on : Bool) (s : State), TakenOutsideStart s ⟨0x13, m⟩ →
    m.params = [b3, b2, b1, b0, l3, l2, l1, l0, t, f] → Bay.ofByte t = some bay → flagOfByte f = some on →
      let d : Directed := ⟨word32 b3 b2 b1 b0, word32 l3 l2 l1 l0, bay, on⟩
      let old := s.routes.directed
      (d.aligned = false → Answers (.setDirected m) s ⟨0x13, m⟩ .badValue .empty s)
      ∧ (d.aligned = true → old.fixed = true → old.value ≠ d → Answers (.setDirected m) s ⟨0x13, m⟩ .fixed .empty s)
      ∧ (d.aligned = true → (old.fixed = true → old.value = d) →
          Answers (.setDirected m) s ⟨0x13, m⟩ .done .empty
            { s with routes := { s.routes with directed := ⟨d, old.fixed⟩ } }))
  ∧ (∀ (m : HostMsg) (b u p : Byte) (upstream peer : Bool) (s : State), TakenOutsideStart s ⟨0x14, m⟩ → m.params = [b, u, p] →
    flagOfByte u = some upstream → flagOfByte p = some peer →
      (Bay.ofByte b = none → Answers (.setPermits m) s ⟨0x14, m⟩ .badValue .empty s)
      ∧ ∀ bay, Bay.ofByte b = some bay →
        let x : Permits := ⟨upstream, peer⟩
        let old := (s.routes.bays.get bay).permits
        (old.fixed = true → old.value ≠ x → Answers (.setPermits m) s ⟨0x14, m⟩ .fixed .empty s)
        ∧ ((old.fixed = true → old.value = x) →
            Answers (.setPermits m) s ⟨0x14, m⟩ .done .empty
              { s with routes :=
                { s.routes with
                  bays := s.routes.bays.set bay { s.routes.bays.get bay with permits := ⟨x, old.fixed⟩ } } }))
  ∧ (∀ (m : HostMsg) (b3 b2 b1 b0 l3 l2 l1 l0 t f : Byte) (s : State), TakenOutsideStart s ⟨0x13, m⟩ →
      m.params = [b3, b2, b1, b0, l3, l2, l1, l0, t, f] → t = 0 ∨ 6 < t.toNat ∨ 1 < f.toNat →
        Answers (.setDirected m) s ⟨0x13, m⟩ .badValue .empty s)
  ∧ (∀ (m : HostMsg) (b u p : Byte) (s : State), TakenOutsideStart s ⟨0x14, m⟩ → m.params = [b, u, p] →
      b = 0 ∨ 6 < b.toNat ∨ 1 < u.toNat ∨ 1 < p.toNat → Answers (.setPermits m) s ⟨0x14, m⟩ .badValue .empty s)
  ∧ (∀ (m : HostMsg) (p d : Byte) (s : State), TakenOutsideStart s ⟨0x15, m⟩ → m.params = [p, d] → 6 < p.toNat ∨ 1 < d.toNat →
      Answers (.setSpoiled m) s ⟨0x15, m⟩ .badValue .empty s)
  ∧ ∀ (m : HostMsg) (p d : Byte) (drop : Bool) (s : State), TakenOutsideStart s ⟨0x15, m⟩ → m.params = [p, d] →
    flagOfByte d = some drop →
      (Port.ofByte p = none → Answers (.setSpoiled m) s ⟨0x15, m⟩ .badValue .empty s)
      ∧ ∀ port, Port.ofByte p = some port →
        let old := s.routes.dropSpoiled.get port
        (old.fixed = true → old.value ≠ drop → Answers (.setSpoiled m) s ⟨0x15, m⟩ .fixed .empty s)
        ∧ ((old.fixed = true → old.value = drop) →
            Answers (.setSpoiled m) s ⟨0x15, m⟩ .done .empty
              { s with routes := { s.routes with dropSpoiled := s.routes.dropSpoiled.set port ⟨drop, old.fixed⟩ } })

/-- READ ROUTES answers the part its selector names and changes nothing; M and every other value are BAD VALUE (R37).
PROBE ROUTE answers the decision of steps 1 to 8, or N1 to N7, as it would now be reached, and changes nothing (R38, R39; the
layout: log 19). Its record: the outcome, the claim, the target where one was found, the effective max payload for PLACE, the status
for REFUSE, the condition for REFUSE and DROP (R39); in a response the status NOT READY is 02h, any other its own code (R197). An
ingress that is neither a port nor M, a kind that is neither, a length of 0 or above 4096 and station 0 are BAD VALUE (R38). -/
def Obligations.ReadRoutesAndProbeRouteAnswer : Prop :=
  (∀ (m : HostMsg) (sel : Byte) (s : State), TakenOutsideStart s ⟨0x16, m⟩ → m.params = [sel] →
      (∀ bay, Bay.ofByte sel = some bay →
        Answers (.readRoutes m) s ⟨0x16, m⟩ .done
          (.routesBay (s.routes.bays.get bay) (s.routes.dropSpoiled.get bay.port)) s)
      ∧ (sel = 0 → Answers (.readRoutes m) s ⟨0x16, m⟩ .done (.routesT (s.routes.dropSpoiled.get .t)) s)
      ∧ (sel = 8 → Answers (.readRoutes m) s ⟨0x16, m⟩ .done (.routesRouter s.routes.ownStation s.routes.directed) s)
      ∧ (sel = 7 ∨ 8 < sel.toNat → Answers (.readRoutes m) s ⟨0x16, m⟩ .badValue .empty s))
  ∧ ((∀ (m : HostMsg) (i a3 a2 a1 a0 n1 n0 : Byte) (o : Origin) (s : State), TakenOutsideStart s ⟨0x17, m⟩ →
      m.params = [i, 0, 1, a3, a2, a1, a0, 1, n1, n0, 0] → Origin.ofByte i = some o →
      1 ≤ (word16 n1 n0).toNat → (word16 n1 n0).toNat ≤ 4096 →
        Answers (.probeRoute m) s ⟨0x17, m⟩ .done
          (.probe (s.probeReport (s.routeRequest o (word32 a3 a2 a1 a0) (word16 n1 n0).toNat))) s)
    ∧ ∀ (m : HostMsg) (i st : Byte) (o : Origin) (s : State), TakenOutsideStart s ⟨0x17, m⟩ →
      m.params = [i, 1, 0, 0, 1, st] → Origin.ofByte i = some o → st ≠ 0 →
        Answers (.probeRoute m) s ⟨0x17, m⟩ .done (.probe (s.probeReport (s.routeNotice o st))) s)
  ∧ (∀ (m : HostMsg) (i k a3 a2 a1 a0 n1 n0 : Byte) (s : State), TakenOutsideStart s ⟨0x17, m⟩ →
      m.params = [i, k, 1, a3, a2, a1, a0, 1, n1, n0, 0] →
      (1 < k.toNat ∨ (k = 0 ∧ (7 < i.toNat ∨ (word16 n1 n0).toNat = 0 ∨ 4096 < (word16 n1 n0).toNat))) →
        Answers (.probeRoute m) s ⟨0x17, m⟩ .badValue .empty s)
  ∧ (∀ (m : HostMsg) (i k st : Byte) (s : State), TakenOutsideStart s ⟨0x17, m⟩ → m.params = [i, k, 0, 0, 1, st] →
      (1 < k.toNat ∨ (k = 1 ∧ (7 < i.toNat ∨ st = 0))) → Answers (.probeRoute m) s ⟨0x17, m⟩ .badValue .empty s)
  ∧ (∀ (s : State) (claim : Claim) (target : Option Port),
      (∀ p most, (s.port p).link = .up most →
        s.probeReport ⟨claim, target, .place p⟩ = ⟨.place, claim, some p, some most, none, none⟩)
      ∧ s.probeReport ⟨claim, target, .inbox⟩ = ⟨.inbox, claim, none, none, none, none⟩
      ∧ (∀ st c, s.probeReport ⟨claim, target, .refuse st c⟩ = ⟨.refuse, claim, target, none, some st, some c⟩)
      ∧ ∀ c, s.probeReport ⟨claim, target, .drop c⟩ = ⟨.drop, claim, target, none, none, some c⟩)
  ∧ AnsStatus.notReady.responseCode = 0x02 ∧ ∀ a : AnsStatus, a ≠ .notReady → a.responseCode = a.code

/-- The decode steps of a request, each in its place: the first that holds decides (R45, steps 1 to 10). A FETCH, and a STORE that
steps 1 to 8 refuse, has the verdict of those steps. What the steps ask, in fields: the directed range claims a point while it is on
and holds it, before any window (R22); the window of bay X that holds the point claims it for X (R21); nothing else claims it, and the
target is then T, or none for a request from T (R24); a request from bay X is forbidden T while X's upstream permit is off, another
bay while its peer permit is off, and one from T or M nothing (R50); drop-spoiled is the ingress port's, and M has none (R20). -/
def Obligations.RequestDecodeOrder : Prop :=
  (∀ (s : State) (i : Origin) (a : Word32) (n : Nat),
    (s.isForwarding = false → i ≠ .m → (s.routeRequest i a n).verdict = .refuse .notReady .notReadyDrop)
    ∧ ((s.isForwarding = true ∨ i = .m) →
        (s.routes.targetOf i (s.routes.claimOf a) = none → (s.routeRequest i a n).verdict = .refuse .noRoute .noRoute)
        ∧ ∀ p, s.routes.targetOf i (s.routes.claimOf a) = some p →
          (s.routes.straddles (s.routes.claimOf a) a n = true → (s.routeRequest i a n).verdict = .refuse .noRoute .straddle)
          ∧ (s.routes.straddles (s.routes.claimOf a) a n = false →
              (i = .link p → (s.routeRequest i a n).verdict = .refuse .loopback .loopback)
              ∧ (i ≠ .link p →
                  (s.routes.forbids i p = true → (s.routeRequest i a n).verdict = .refuse .blocked .blocked)
                  ∧ (s.routes.forbids i p = false →
                      (s.isUp p = false → (s.routeRequest i a n).verdict = .refuse .portDown .noRoute)
                      ∧ (s.isUp p = true → (s.routeRequest i a n).verdict = .place p)))))
    ∧ ∀ (data : List Byte) (spoiled : Bool) (p : Port) (most : Nat),
        (s.routeRequest i a data.length).verdict = .place p → (s.port p).link = .up most →
          (most < data.length → s.decideHead (τ := Byte) i (.store a data spoiled) = .drop .oversize)
          ∧ (data.length ≤ most → spoiled = true → s.routes.dropsSpoiled i = true →
              s.decideHead (τ := Byte) i (.store a data spoiled) = .drop .spoiled)
          ∧ (data.length ≤ most → (spoiled = false ∨ s.routes.dropsSpoiled i = false) →
              s.decideHead (τ := Byte) i (.store a data spoiled) = .place p))
  ∧ (∀ (s : State) (i : Origin) (a : Word32) (n : Nat),
      (∀ tag sp, s.decideHead (τ := Byte) i (.fetch a n tag sp) = (s.routeRequest i a n).verdict)
      ∧ (∀ data sp, (∀ p, (s.routeRequest i a data.length).verdict ≠ .place p) →
          s.decideHead (τ := Byte) i (.store a data sp) = (s.routeRequest i a data.length).verdict)
      ∧ (s.isForwarding = false → i ≠ .m → (s.routeRequest i a n).claim = .nothing ∧ (s.routeRequest i a n).target = none)
      ∧ ((s.isForwarding = true ∨ i = .m) →
          (s.routeRequest i a n).claim = s.routes.claimOf a
          ∧ (s.routeRequest i a n).target = s.routes.targetOf i (s.routes.claimOf a)))
  ∧ (∀ (t : RouteTables) (a : Word32), RouteLaw t →
      let directed := t.directed.value.on = true ∧ t.directed.value.base ≤ a ∧ a ≤ t.directed.value.limit
      let inWindow := fun (b : Bay) (k : WindowKind) =>
        ((t.bays.get b).window k).value.base ≤ a ∧ a ≤ ((t.bays.get b).window k).value.limit
      (directed → t.claimOf a = .directed)
      ∧ (¬directed → ∀ b,
          (inWindow b .general → t.claimOf a = .general b) ∧ (inWindow b .bulk → t.claimOf a = .bulk b))
      ∧ (¬directed → (∀ b k, ¬inWindow b k) → t.claimOf a = .byDefault))
  ∧ (∀ (t : RouteTables) (i : Origin),
      t.targetOf i .directed = some t.directed.value.target.port
      ∧ (∀ b, t.targetOf i (.general b) = some b.port ∧ t.targetOf i (.bulk b) = some b.port)
      ∧ t.targetOf i .byDefault = if i = .link .t then none else some .t)
  ∧ ∀ (t : RouteTables),
      (∀ (b : Bay) (p : Port), t.forbids (.link b.port) p
        = if p = .t then !(t.bays.get b).permits.value.upstream else !(t.bays.get b).permits.value.peer)
      ∧ (∀ p, t.forbids (.link .t) p = false ∧ t.forbids .m p = false)
      ∧ (∀ p, t.dropsSpoiled (.link p) = (t.dropSpoiled.get p).value) ∧ t.dropsSpoiled .m = false

/-- The decode steps of a notice, each in its place (R59, steps N1 to N7), and a NOTICE head has their verdict. What the steps ask, in
fields: a bay claims a station within its nonempty range (R19, R23); nothing else claims it, and the target is then T, or none for a
notice from T; permits forbid as for a request (R50, R59). -/
def Obligations.NoticeDecodeOrder : Prop :=
  (∀ (s : State) (i : Origin) (st : Byte),
    (s.routes.ownStation.value ≠ 0 → st = s.routes.ownStation.value → s.inStart = false →
      (s.routeNotice i st).verdict = .inbox)
    ∧ ((s.routes.ownStation.value = 0 ∨ st ≠ s.routes.ownStation.value ∨ s.inStart = true) →
        (s.isForwarding = false → i ≠ .m → (s.routeNotice i st).verdict = .drop .notReadyDrop)
        ∧ ((s.isForwarding = true ∨ i = .m) →
            (s.routes.targetOf i (s.routes.stationClaim st) = none → (s.routeNotice i st).verdict = .drop .noRoute)
            ∧ ∀ p, s.routes.targetOf i (s.routes.stationClaim st) = some p →
              (i = .link p → (s.routeNotice i st).verdict = .drop .loopback)
              ∧ (i ≠ .link p →
                  (s.routes.forbids i p = true → (s.routeNotice i st).verdict = .drop .blocked)
                  ∧ (s.routes.forbids i p = false →
                      (s.isUp p = false → (s.routeNotice i st).verdict = .drop .noRoute)
                      ∧ (s.isUp p = true → (s.routeNotice i st).verdict = .place p))))))
  ∧ (∀ (s : State) (i : Origin) (st src : Byte) (code : Word16) (data : List Byte) (sp : Bool),
      s.decideHead (τ := Byte) i (.notice st src code data sp) = (s.routeNotice i st).verdict)
  ∧ (∀ (s : State) (i : Origin) (st : Byte),
      (s.routeNotice i st).claim
        = if s.routes.ownStation.value ≠ 0 ∧ st = s.routes.ownStation.value ∧ s.inStart = false then .ownStation
          else if s.isForwarding = false ∧ i ≠ .m then .nothing
          else s.routes.stationClaim st)
  ∧ (∀ (t : RouteTables) (st : Byte), RouteLaw t →
      let inRange := fun b : Bay =>
        (t.bays.get b).range.value.first ≠ 0 ∧ (t.bays.get b).range.value.first ≤ st ∧ st ≤ (t.bays.get b).range.value.last
      (∀ b, inRange b → t.stationClaim st = .range b) ∧ ((∀ b, ¬inRange b) → t.stationClaim st = .byDefault))
  ∧ (∀ (t : RouteTables) (i : Origin),
      (∀ b, t.targetOf i (.range b) = some b.port) ∧ t.targetOf i .byDefault = if i = .link .t then none else some .t)
  ∧ ∀ (t : RouteTables),
      (∀ (b : Bay) (p : Port), t.forbids (.link b.port) p
        = if p = .t then !(t.bays.get b).permits.value.upstream else !(t.bays.get b).permits.value.peer)
      ∧ ∀ p, t.forbids (.link .t) p = false ∧ t.forbids .m p = false

/-- A span is a straddle when it ends outside the window or directed range that claims its first point, when nothing claims its
first point and a later point lies in an open window or in the directed range while on, or when it wraps (R2, R3, R22). Here each case
is said point by point. -/
def Obligations.StraddleCases : Prop :=
  ∀ (r : RouteTables) (a : Word32) (n : Nat), 1 ≤ n →
    let last := a.toNat + n - 1
    (r.claimOf a = .directed → (r.straddles .directed a n = true ↔ r.directed.value.limit.toNat < last))
    ∧ (∀ b, r.claimOf a = .general b →
        (r.straddles (.general b) a n = true ↔ (r.bays.get b).general.value.limit.toNat < last))
    ∧ (∀ b, r.claimOf a = .bulk b → (r.straddles (.bulk b) a n = true ↔ (r.bays.get b).bulk.value.limit.toNat < last))
    ∧ (r.claimOf a = .byDefault →
        (r.straddles .byDefault a n = true ↔
          2 ^ 32 ≤ last ∨ ∃ x : Word32, a.toNat ≤ x.toNat ∧ x.toNat ≤ last ∧ r.claimOf x ≠ .byDefault))

/-! ## Chapter 3: forwarding -/

/-- READ INBOX removes the oldest records, at most as many as its count of 1 to 4, and returns them; another count is BAD VALUE and
removes none (R63).
A host request with a parameter outside its range, or a spoiled flag that is no flag, is BAD VALUE and becomes no frame (R16, R64, R66,
R93, R195). -/
def Obligations.InboxReadAndRequestsOutOfRange : Prop :=
  (∀ (m : HostMsg) (n1 n0 : Byte) (s : State), TakenOutsideStart s ⟨0x20, m⟩ → m.params = [n1, n0] →
      let n := (word16 n1 n0).toNat
      (1 ≤ n → n ≤ 4 →
        Answers (.readInbox m) s ⟨0x20, m⟩ .done (.notices (s.inbox.take n)) { s with inbox := s.inbox.drop n })
      ∧ (n = 0 ∨ 4 < n → Answers (.readInbox m) s ⟨0x20, m⟩ .badValue .empty s))
  ∧ ((∀ (m : HostMsg) (a : Word32) (data : List Byte) (f : Byte) (s : State), TakenOutsideStart s ⟨0x21, m⟩ →
      issueStoreParams m.params = some (a, data, f) → (data.length = 0 ∨ 1024 < data.length ∨ 1 < f.toNat) →
        Answers (.issueStore m) s ⟨0x21, m⟩ .badValue .empty s)
    ∧ (∀ (m : HostMsg) (st c1 c0 : Byte) (data : List Byte) (s : State), TakenOutsideStart s ⟨0x22, m⟩ →
      m.params = st :: c1 :: c0 :: data → (st = 0 ∨ 32 < data.length) →
        Answers (.sendNotice m) s ⟨0x22, m⟩ .badValue .empty s)
    ∧ ∀ (m : HostMsg) (a3 a2 a1 a0 n1 n0 : Byte) (s : State), TakenOutsideStart s ⟨0x33, m⟩ →
      m.params = [a3, a2, a1, a0, n1, n0] → ((word16 n1 n0).toNat = 0 ∨ 4096 < (word16 n1 n0).toNat) →
        Answers (.issueFetch m) s ⟨0x33, m⟩ .badValue .empty s)

/-- ISSUE STORE: decided PLACE with room in the lane and no rival, it is placed there unchanged and answered DONE with the target;
with no room, or with a rival, it stays in progress under the stall limit; refused or dropped, it is answered with the step's status
and the step's condition is latched for M. A set spoiled flag latches SPOILED for M first (R44, R64, R65). The grant in the same step
without a rival, and the wait for LANE GRANT with one, are the model's reading of R109 (log 9). That a response enters before a NOTIFY
or FETCH DONE that the same event makes ready is the model's choice (log 34). -/
def Obligations.IssueStoreResults : Prop :=
  ∀ (m : HostMsg) (a : Word32) (data : List Byte) (f : Byte) (spoiled : Bool) (s : State), TakenOutsideStart s ⟨0x21, m⟩ →
    issueStoreParams m.params = some (a, data, f) → flagOfByte f = some spoiled → 1 ≤ data.length → data.length ≤ 1024 →
      let marked := if spoiled then s.detect .m .spoiled (.store a data.length true) else s
      (∀ p most, (s.routeRequest .m a data.length).verdict = .place p → (s.port p).link = .up most → data.length ≤ most →
        ((s.port p).requestLane.length < 12 → (∀ q, s.wantsRequestLane p (.link q) = false) →
          Answers (.issueStore m) s ⟨0x21, m⟩ .done (.target p)
            ((marked.modPort p fun x => { x with requestLane := x.requestLane ++ [⟨.store a data spoiled, .m⟩] }).setPointer p
              .request .m))
        ∧ (12 ≤ (s.port p).requestLane.length ∨ (∃ q, s.wantsRequestLane p (.link q) = true) →
          Effect (.issueStore m) s
            { marked with management :=
              { s.management with
                receiveQueue := s.management.receiveQueue.tail
                running := some ⟨⟨0x21, m⟩, .awaitLane (.store a data spoiled) p s.stallLimit.value⟩ } }))
      ∧ (∀ p most, (s.routeRequest .m a data.length).verdict = .place p → (s.port p).link = .up most → most < data.length →
          Answers (.issueStore m) s ⟨0x21, m⟩ (.answer .oversize) .empty
            (marked.detect .m .oversize (.store a data.length spoiled)))
      ∧ ∀ st c, (s.routeRequest .m a data.length).verdict = .refuse st c →
          Answers (.issueStore m) s ⟨0x21, m⟩ (.answer st) .empty (marked.detect .m c (.store a data.length spoiled))

/-- SEND NOTICE: for the own station it is appended to the inbox and answered DONE, or answered BUSY by a full inbox; decided PLACE
with room and no rival it is placed, with the own station as source, and answered DONE with the target, else it stays in progress;
dropped at N7 it is answered PORT DOWN (R62, R65, R66). The grant in the same step without a rival, and the wait for LANE GRANT with
one, are the model's reading of R109 (log 9). That a response enters before a NOTIFY or FETCH DONE that the same event makes ready is
the model's choice (log 34). -/
def Obligations.SendNoticeResults : Prop :=
  ∀ (m : HostMsg) (st c1 c0 : Byte) (data : List Byte) (s : State), TakenOutsideStart s ⟨0x22, m⟩ →
    m.params = st :: c1 :: c0 :: data → st ≠ 0 → data.length ≤ 32 →
      let own := s.routes.ownStation.value
      ((s.routeNotice .m st).verdict = .inbox →
        (s.inbox.length < 16 →
          Answers (.sendNotice m) s ⟨0x22, m⟩ .done (.noticeWent none)
            (State.latch .router .inboxArrival { s with inbox := s.inbox ++ [⟨own, .m, word16 c1 c0, data, false⟩] }))
        ∧ (16 ≤ s.inbox.length →
          Answers (.sendNotice m) s ⟨0x22, m⟩ .busy .empty
            ((s.latch .router .inboxOverflow).countRouter fun k => { k with inboxDrops := k.inboxDrops + 1 })))
      ∧ (∀ p, (s.routeNotice .m st).verdict = .place p →
          ((s.port p).requestLane.length < 12 → (∀ q, s.wantsRequestLane p (.link q) = false) →
            Answers (.sendNotice m) s ⟨0x22, m⟩ .done (.noticeWent (some p))
              ((s.modPort p fun x =>
                { x with requestLane := x.requestLane ++ [⟨.notice st own (word16 c1 c0) data false, .m⟩] }).setPointer p .request .m))
          ∧ (12 ≤ (s.port p).requestLane.length ∨ (∃ q, s.wantsRequestLane p (.link q) = true) →
            Effect (.sendNotice m) s
              { s with management :=
                { s.management with
                  receiveQueue := s.management.receiveQueue.tail
                  running :=
                    some ⟨⟨0x22, m⟩, .awaitLane (.notice st own (word16 c1 c0) data false) p s.stallLimit.value⟩ } }))
      ∧ ((s.routeNotice .m st).verdict = .drop .noRoute →
          Answers (.sendNotice m) s ⟨0x22, m⟩ (.answer .portDown) .empty (s.detect .m .noRoute (.notice st data.length false)))

/-! ## Chapter 4: the exchange table -/

/-- SET QUOTA and SET EXCHANGE TIMERS taken write their one item and nothing else; values out of range are BAD VALUE, and so is a byte
that names no link port, M's among them (R70, R71, R72, R73).
SET STALL LIMIT writes the limit and nothing else, or is BAD VALUE or FIXED (R113). -/
def Obligations.QuotaTimersAndStallLimitWritten : Prop :=
  ((∀ (m : HostMsg) (p n1 n0 : Byte) (port : Port) (s : State), TakenOutsideStart s ⟨0x30, m⟩ → m.params = [p, n1, n0] →
      Port.ofByte p = some port →
        let n := (word16 n1 n0).toNat
        let old := s.exchange.quotas.get port
        (1 ≤ n → n ≤ 64 → (old.fixed = true → old.value = n) →
          Answers (.setQuota m) s ⟨0x30, m⟩ .done .empty
            { s with exchange := { s.exchange with quotas := s.exchange.quotas.set port ⟨n, old.fixed⟩ } })
        ∧ (n = 0 ∨ 64 < n → Answers (.setQuota m) s ⟨0x30, m⟩ .badValue .empty s)
        ∧ (1 ≤ n → n ≤ 64 → old.fixed = true → old.value ≠ n → Answers (.setQuota m) s ⟨0x30, m⟩ .fixed .empty s))
    ∧ (∀ (m : HostMsg) (p n1 n0 : Byte) (s : State), TakenOutsideStart s ⟨0x30, m⟩ → m.params = [p, n1, n0] → 6 < p.toNat →
        Answers (.setQuota m) s ⟨0x30, m⟩ .badValue .empty s)
    ∧ ∀ (m : HostMsg) (t1 t0 q1 q0 : Byte) (s : State), TakenOutsideStart s ⟨0x31, m⟩ → m.params = [t1, t0, q1, q0] →
        let x : ExchangeTimers := ⟨(word16 t1 t0).toNat, (word16 q1 q0).toNat⟩
        (1 ≤ x.timeout → x.timeout ≤ 1000 → x.quarantine ≤ 1000 →
          (s.exchange.timers.fixed = true → s.exchange.timers.value = x) →
          Answers (.setExchangeTimers m) s ⟨0x31, m⟩ .done .empty
            { s with exchange := { s.exchange with timers := ⟨x, s.exchange.timers.fixed⟩ } })
        ∧ (1 ≤ x.timeout → x.timeout ≤ 1000 → x.quarantine ≤ 1000 → s.exchange.timers.fixed = true →
            s.exchange.timers.value ≠ x → Answers (.setExchangeTimers m) s ⟨0x31, m⟩ .fixed .empty s)
        ∧ (x.timeout = 0 ∨ 1000 < x.timeout ∨ 1000 < x.quarantine →
            Answers (.setExchangeTimers m) s ⟨0x31, m⟩ .badValue .empty s))
  ∧ (∀ (m : HostMsg) (l1 l0 : Byte) (s : State), TakenOutsideStart s ⟨0x38, m⟩ → m.params = [l1, l0] →
      let n := (word16 l1 l0).toNat
      (1 ≤ n → n ≤ 250 → (s.stallLimit.fixed = true → s.stallLimit.value = n) →
        Answers (.setStallLimit m) s ⟨0x38, m⟩ .done .empty { s with stallLimit := ⟨n, s.stallLimit.fixed⟩ })
      ∧ (n = 0 ∨ 250 < n → Answers (.setStallLimit m) s ⟨0x38, m⟩ .badValue .empty s)
      ∧ (1 ≤ n → n ≤ 250 → s.stallLimit.fixed = true → s.stallLimit.value ≠ n →
          Answers (.setStallLimit m) s ⟨0x38, m⟩ .fixed .empty s))

/-- CANCEL EXCHANGE: an OPEN entry ends CANCELLED with its origin told, an ORPHAN entry goes to QUARANTINE, either is answered DONE
with the previous state and the origin, and an answer that waits for the entry is matched again; FREE and QUARANTINE are NO SUCH and
a tag above 63 BAD VALUE, with nothing changed (R83, R84, R86, R89). An answer head that waits and whose entry is OPEN waits on; with
the entry in QUARANTINE it is late, in ORPHAN discarded without a condition, freeing the entry when final, and with the entry FREE a
stray; discarded, it leaves its class, counts as dropped and owes a credit, and the heads behind it are taken up (R78, R79, R80, R83).
LIST EXCHANGES answers the summary and, in index order, up to 16 records of the entries not FREE at or above its start, and changes
nothing; a start above 63 is BAD VALUE (R98). -/
def Obligations.CancelAndListExchanges : Prop :=
  (∀ (m : HostMsg) (tag : Byte) (s : State), TakenOutsideStart s ⟨0x32, m⟩ → m.params = [tag] →
    (64 ≤ tag.toNat → Answers (.cancelExchange m) s ⟨0x32, m⟩ .badValue .empty s)
    ∧ ∀ i : RouterTag, i.val = tag.toNat →
      let next := fun x : Exchange =>
        if s.exchange.timers.value.quarantine = 0 then Entry.free
        else Entry.quarantine x .cancelled s.exchange.timers.value.quarantine
      (∀ x issue d, s.entry i = .opened x issue d →
        Effect (.cancelExchange m) s
          (State.answer ⟨0x32, m⟩ .done (.cancelled .opened x.origin.origin)
            ((((s.taken.tellEnd .cancelled x.origin).withdrawQueued i x issue).setEntry i (next x)).rematch x.dest)))
      ∧ (∀ x issue d, s.entry i = .orphan x issue d →
        Effect (.cancelExchange m) s
          (State.answer ⟨0x32, m⟩ .done (.cancelled .orphan x.origin.origin)
            (((s.taken.withdrawQueued i x issue).setEntry i (next x)).rematch x.dest)))
      ∧ (s.entry i = .free → Answers (.cancelExchange m) s ⟨0x32, m⟩ .noSuch .empty s)
      ∧ (∀ x c l, s.entry i = .quarantine x c l → Answers (.cancelExchange m) s ⟨0x32, m⟩ .noSuch .empty s))
  ∧ (∀ (p : Port) (s : State), (s.port p).answerWait = none → s.rematch p = s)
  ∧ (∀ (p : Port) (left : Nat) (a : Answer) (rest : List Answer) (i : RouterTag) (s : State), (s.port p).answerWait = some left →
      (s.port p).answers = a :: rest → i.val = a.tag.toNat →
        let dropped := fun t : State =>
          t.modPort p fun y =>
            { y with
              answers := rest
              answerWait := none
              owed := if s.isUp p then y.owed.set .answer (y.owed.answer + 1) else y.owed
              counters := { y.counters with dropped := y.counters.dropped + 1 } }
        (∀ x issue d, s.entry i = .opened x issue d → s.rematch p = s)
        ∧ (∀ x c l, s.entry i = .quarantine x c l → x.dest = p →
            s.rematch p
              = (dropped
                  (s.detect (.link p) .lateAnswer (.answer a.tag a.payload.length x.origin.tag? a.spoiled))).serveAnswers p)
        ∧ (∀ x issue d, s.entry i = .orphan x issue d → x.dest = p →
            s.rematch p
              = State.serveAnswers p
                  (if a.final then ((dropped s).withdrawQueued i x issue).setEntry i .free else dropped s))
        ∧ (s.entry i = .free →
            s.rematch p
              = (dropped (s.detect (.link p) .strayAnswer (.answer a.tag a.payload.length none a.spoiled))).serveAnswers p))
  ∧ (∀ (m : HostMsg) (start : Byte) (s : State), TakenOutsideStart s ⟨0x34, m⟩ → m.params = [start] →
    (start.toNat ≤ 63 →
      Answers (.listExchanges m) s ⟨0x34, m⟩ .done (.exchanges s.exchangeSummary (s.exchangeRecords start.toNat)) s)
    ∧ (63 < start.toNat → Answers (.listExchanges m) s ⟨0x34, m⟩ .badValue .empty s))
  ∧ ∀ (s : State) (start : Nat),
    s.exchangeRecords start
        = (((List.finRange 64).filter fun i => decide (start ≤ i.val ∧ s.entry i ≠ .free)).take 16).map
          (fun i => (i, s.entry i))
    ∧ s.exchangeSummary.freeCount = ((List.finRange 64).filter fun i => decide (s.entry i = .free)).length
    ∧ s.exchangeSummary.activeM = s.activeCount .m ∧ (∀ p, s.exchangeSummary.activePorts.get p = s.activeCount (.link p))
    ∧ s.exchangeSummary.quotas = s.exchange.quotas ∧ s.exchangeSummary.timers = s.exchange.timers
    ∧ s.exchangeSummary.hostFetch = s.hostFetch

/-- The unanswered end of an OPEN exchange tells its origin once: a router-made final with the origin tag and the end cause enters the
answer lane of a link origin that is UP with fewer than 8 frames there, none otherwise; a host fetch in GATHERING goes to HOLDING with
that status (R13, R84, R96).
A FETCH still QUEUED is withdrawn from its lane, the frames before and behind it keep their order, and it counts as dropped there,
whichever origin it came from; one that is SENT stays sent (R77, R94).
A GOOD piece of an OPEN exchange that would take the bytes answered beyond the requested length is discarded with OVERRUN, and one
larger than a link origin's effective max payload with OVERSIZE; either ends the exchange with that cause, and nothing of it is
forwarded (R81, R84, R86). -/
def Obligations.UnansweredEnds : Prop :=
  (∀ (s : State) (cause : EndCause),
      (∀ p tag, s.isUp p = true → (s.port p).answerLane.length < 8 →
        s.tellEnd cause (.link p tag)
          = s.modPort p fun x =>
            { x with answerLane := x.answerLane ++ [⟨⟨tag, cause.status, true, [], false⟩, true⟩] })
      ∧ (∀ p tag, (s.isUp p = false ∨ 8 ≤ (s.port p).answerLane.length) → s.tellEnd cause (.link p tag) = s)
      ∧ ∀ i n d, s.hostFetch = .gathering i n d →
          s.tellEnd cause .host = { s with hostFetch := .holding i n d cause.status })
  ∧ (∀ (s : State) (i : RouterTag) (x : Exchange) (front back : List LaneRequest) (a : Word32) (n : Nat) (sp : Bool) (o : Origin),
      (∀ r ∈ front, ∀ b k f, r.request ≠ .fetch b k i f) →
      (s.port x.dest).requestLane = front ++ ⟨.fetch a n i sp, o⟩ :: back →
        s.withdrawQueued i x .queued
          = s.modPort x.dest (fun y =>
            { y with
              requestLane := front ++ back
              counters := { y.counters with dropped := y.counters.dropped + 1 } })
        ∧ s.withdrawQueued i x .sent = s)
  ∧ (∀ (p : Port) (a : Answer) (i : RouterTag) (x : Exchange) (issue : Issue) (d : Nat) (s : State), s.entry i = .opened x issue d →
      i.val = a.tag.toNat → x.dest = p → a.status = .good →
        let dropped := fun c : Condition =>
          (s.detect (.link p) c (.answer a.tag a.payload.length x.origin.tag? a.spoiled)).dropAnswer p
        (x.len < x.answered + a.payload.length → s.matchAnswer p a = (dropped .overrun).endEntry i .overrun true)
        ∧ ∀ o tag most, x.answered + a.payload.length ≤ x.len → x.origin = .link o tag → (s.port o).link = .up most →
            most < a.payload.length → s.matchAnswer p a = (dropped .oversize).endEntry i .oversize true)

/-- Admission: below its quota and with an entry FREE, an origin's FETCH takes the lowest FREE entry; at its quota it is refused under
QUOTA_REFUSED whatever the free count; with no entry FREE under TABLE_FULL (R69, R74, R75). The quota is the port's own, and 1 for M
(R70); the active count is the number of entries OPEN or ORPHAN with that origin, so one that is FREE or in QUARANTINE counts toward
none (R69). -/
def Obligations.AdmissionTest : Prop :=
  (∀ (s : State) (o : Origin),
    (s.quota o ≤ s.activeCount o → s.admission o = .error .quotaRefused)
    ∧ (s.activeCount o < s.quota o → (∀ i, s.entry i ≠ .free) → s.admission o = .error .tableFull)
    ∧ (s.activeCount o < s.quota o → ∀ i, s.entry i = .free → (∀ j, j < i → s.entry j ≠ .free) → s.admission o = .ok i))
  ∧ (∀ s : State, s.quota .m = 1 ∧ ∀ p, s.quota (.link p) = (s.exchange.quotas.get p).value)
  ∧ ∀ (s : State) (o : Origin), ∃ active : List RouterTag,
      s.activeCount o = active.length ∧ active.Nodup
        ∧ ∀ i, i ∈ active
            ↔ ∃ x issue d, x.origin.origin = o ∧ (s.entry i = .opened x issue d ∨ s.entry i = .orphan x issue d)

/-- ISSUE FETCH decided PLACE with room, no rival and an entry to take is admitted and placed with its router tag, the buffer gathers,
and it is answered DONE with the tag and the destination; with no room, or with a rival, it stays in progress; with the buffer in use
it is BUSY; refused at decode it is answered with the step's status, refused by the table TABLE FULL (R65, R74, R75, R92, R93). The
grant in the same step without a rival, and the wait for LANE GRANT with one, are the model's reading of R109 (log 9). That a response
enters before a NOTIFY or FETCH DONE that the same event makes ready is the model's choice (log 34). -/
def Obligations.IssueFetchResults : Prop :=
  ∀ (m : HostMsg) (a3 a2 a1 a0 n1 n0 : Byte) (s : State), TakenOutsideStart s ⟨0x33, m⟩ →
    m.params = [a3, a2, a1, a0, n1, n0] → 1 ≤ (word16 n1 n0).toNat → (word16 n1 n0).toNat ≤ 4096 →
      let a := word32 a3 a2 a1 a0
      let n := (word16 n1 n0).toNat
      (s.hostFetch ≠ .empty → Answers (.issueFetch m) s ⟨0x33, m⟩ .busy .empty s)
      ∧ (s.hostFetch = .empty →
          (∀ st c, (s.routeRequest .m a n).verdict = .refuse st c →
            Answers (.issueFetch m) s ⟨0x33, m⟩ (.answer st) .empty (s.detect .m c (.fetch a n none false)))
          ∧ ∀ p, (s.routeRequest .m a n).verdict = .place p →
              ((s.port p).requestLane.length < 12 → (∀ q, s.wantsRequestLane p (.link q) = false) →
                (∀ i, s.admission .m = .ok i →
                  Answers (.issueFetch m) s ⟨0x33, m⟩ .done (.fetchIssued i p)
                    { ((s.setEntry i
                          (.opened ⟨.host, p, a, n, 0, 0⟩ .queued s.exchange.timers.value.timeout)).modPort p fun x =>
                        { x with requestLane := x.requestLane ++ [⟨.fetch a n i false, .m⟩] }).setPointer p .request .m with
                      hostFetch := .gathering i n [] })
                ∧ (∀ k, s.admission .m = .error k →
                  Answers (.issueFetch m) s ⟨0x33, m⟩ (.answer .tableFull) .empty
                    ((s.setPointer p .request .m).detect .m k (.fetch a n none false))))
              ∧ (12 ≤ (s.port p).requestLane.length ∨ (∃ q, s.wantsRequestLane p (.link q) = true) →
                Effect (.issueFetch m) s
                  { s with management :=
                    { s.management with
                      receiveQueue := s.management.receiveQueue.tail
                      running := some ⟨⟨0x33, m⟩, .awaitLane (.fetch a n () false) p s.stallLimit.value⟩ } }))

/-- DEADLINE RUNS OUT: an OPEN exchange ends EXPIRED, which is latched at its origin and told to it; an ORPHAN goes to QUARANTINE
without a condition; a QUEUED FETCH is withdrawn, and an answer that waits for the entry is matched again. QUARANTINE RUNS OUT: the
entry becomes FREE. Every countdown has run on by the time that was left (R77, R83, R84, R85, R86; the clock: log 5). -/
def Obligations.EntryRunOuts : Prop :=
  (∀ (i : RouterTag) (s : State) (x : Exchange) (issue : Issue) (d : Nat),
    let q := s.exchange.timers.value.quarantine
    let next : Entry := if q = 0 then .free else .quarantine x .expired q
    (s.entry i = .opened x issue d →
      Happens (.deadlineRunsOut i) s
        ((((((s.elapse d).detect x.origin.origin .expired (.fetch x.addr x.len x.origin.tag? false)).tellEnd .expired
          x.origin).withdrawQueued i x issue).setEntry i next).rematch x.dest))
    ∧ (s.entry i = .orphan x issue d →
        Happens (.deadlineRunsOut i) s ((((s.elapse d).withdrawQueued i x issue).setEntry i next).rematch x.dest)))
  ∧ ∀ (i : RouterTag) (s : State) (x : Exchange) (c : EndCause) (left : Nat), s.entry i = .quarantine x c left →
    Happens (.quarantineRunsOut i) s ((s.elapse left).setEntry i .free)

/-- NOTIFY: a stream that exists, is unmasked, pending and not awaiting, with room in the outgoing queue, sends one message listing
every category it carries whose mark is set; those marks are cleared, its flag is set, and the message takes the next unsolicited
sequence (R156, R160, R190).
The categories each stream carries, for 0, 1, 2 and 4 granted streams (R158). A stream is pending when a mark of its categories is set
(R156), and is ready when it exists, is unmasked, pending and not awaiting (R160). The stream report: the count's mark, the marks, and
for each stream its categories, mask, flag and whether it is pending (R164).
FETCH DONE enters the outgoing queue with the tag, the final status and the data of a buffer in HOLDING, takes the next unsolicited
sequence, and empties the buffer (R97, R189, R190). -/
def Obligations.UnsolicitedMessagesEnter : Prop :=
  (∀ (k : Fin 4) (x : Stream) (s : State),
      let n := s.notification
      let cats := (streamCategories n.streams.length k.val).filter fun c => n.marks.get c
      n.streams[k.val]? = some x → x.masked = false → x.awaiting = false → cats ≠ [] → s.management.mayEnter (.notify k) = true →
        ∃ marks : PerCategory Bool, (∀ c, marks.get c = (n.marks.get c && !cats.contains c))
          ∧ Happens (.notify k) s
            { s with
              notification := { n with streams := n.streams.set k.val { x with awaiting := true }, marks := marks }
              management :=
                { s.management with
                  outgoing :=
                    s.management.outgoing ++ [⟨0xFA, s.management.unsolicited, .notify n.streams.length k cats⟩]
                  unsolicited := s.management.unsolicited + 1 } })
  ∧ (∀ (s : State) (i : RouterTag) (n : Nat) (d : List Byte) (st : AnsStatus), s.hostFetch = .holding i n d st →
      s.management.mayEnter .fetchDone = true →
        Happens .fetchDone s
          { s with
            hostFetch := .empty
            management :=
              { s.management with
                outgoing := s.management.outgoing ++ [⟨0xFB, s.management.unsolicited, .fetchDone i st d⟩]
                unsolicited := s.management.unsolicited + 1 } })
  ∧ (streamCategories 1 0 = [.port, .routing, .exchange, .inbox]
    ∧ streamCategories 2 0 = [.port, .inbox] ∧ streamCategories 2 1 = [.routing, .exchange]
    ∧ streamCategories 4 0 = [.port] ∧ streamCategories 4 1 = [.routing] ∧ streamCategories 4 2 = [.exchange]
    ∧ streamCategories 4 3 = [.inbox]
    ∧ ∀ granted k, granted ∈ [0, 1, 2, 4] → granted ≤ k → streamCategories granted k = [])
  ∧ ∀ (n : NotificationUnit) (k : Nat),
      let cats := streamCategories n.streams.length k
      n.marked k = cats.filter (fun c => n.marks.get c)
      ∧ (n.isPending k = true ↔ ∃ c ∈ cats, n.marks.get c = true)
      ∧ (n.ready k = true ↔ ∃ x, n.streams[k]? = some x ∧ x.masked = false ∧ x.awaiting = false ∧ n.isPending k = true)
      ∧ n.report.countFixed = n.countFixed ∧ n.report.marks = n.marks ∧ n.report.streams.length = n.streams.length
      ∧ ∀ x, n.streams[k]? = some x → n.report.streams[k]? = some ⟨cats, x.masked, x.awaiting, n.isPending k⟩

/-! ## Chapter 5: ingress buffers and egress lanes -/

/-- Frames that enter no class: beyond credit, malformed or damaged while UP within the damaged budget, damaged or intact while not
UP, each with its counters, its condition and its credit; the eighth damaged frame within the window takes the link out of UP with
cause BUDGET (R14, R15, R100, R101, R102, R129; what leaving UP does: LeavingUpEmptiesThePort, its order the model's: log 21).
Which intact frames are malformed, field by field (R5, R8, R9, R15, R198): a kind that is none of the four or of the other class;
bytes received other than the payload length and the check ask; a STORE payload of 0 or above the effective max payload or 1024; a
requested length of 0 or above 4096, or a FETCH with a payload; a status code that is none of the fourteen, or a status, final mark
and payload that disagree, or an ANSWER payload above the maxima; target station 0, or a NOTICE payload above 32. An intact frame has
every field of its kind (R201); how much of a frame of unknown kind its check covers is the model's choice (log 12). -/
def Obligations.DiscardedFrames : Prop :=
  (∀ (p : Port) (c : FrameClass) (bytes : List Byte) (s : State),
    (∀ most, (s.port p).link = .up most →
      ((s.port p).granted.get c = 0 →
        Happens (.frameArrival p c bytes) s
          ((s.latch (.origin (.link p)) .malformed).modPort p fun x =>
            { x with counters := { x.counters with received := x.counters.received + 1, dropped := x.counters.dropped + 1 } }))
      ∧ (0 < (s.port p).granted.get c → frameCheckOk bytes = true → parseFrame c most bytes = none →
          Happens (.frameArrival p c bytes) s
            ((s.latch (.origin (.link p)) .malformed).modPort p fun x =>
              { x with
                granted := x.granted.set c (x.granted.get c - 1)
                owed := x.owed.set c (x.owed.get c + 1)
                counters := { x.counters with received := x.counters.received + 1, dropped := x.counters.dropped + 1 } }))
      ∧ (0 < (s.port p).granted.get c → frameCheckOk bytes = false → (s.port p).window.length < 7 →
          Happens (.frameArrival p c bytes) s
            (s.modPort p fun x =>
              { x with
                granted := x.granted.set c (x.granted.get c - 1)
                owed := x.owed.set c (x.owed.get c + 1)
                window := x.window ++ [10]
                counters := { x.counters with damaged := x.counters.damaged + 1 } }))
      ∧ (0 < (s.port p).granted.get c → frameCheckOk bytes = false → 7 ≤ (s.port p).window.length →
          Happens (.frameArrival p c bytes) s
            ((s.modPort p fun x =>
              { x with
                granted := x.granted.set c (x.granted.get c - 1)
                owed := x.owed.set c (x.owed.get c + 1)
                counters := { x.counters with damaged := x.counters.damaged + 1 } }).leaveUp p (.down (some 1)) .budget)))
    ∧ (s.isUp p = false →
        (frameCheckOk bytes = true →
          Happens (.frameArrival p c bytes) s
            (s.modPort p fun x =>
              { x with
                counters := { x.counters with received := x.counters.received + 1, dropped := x.counters.dropped + 1 } }))
        ∧ (frameCheckOk bytes = false →
            Happens (.frameArrival p c bytes) s
              (s.modPort p fun x => { x with counters := { x.counters with damaged := x.counters.damaged + 1 } }))))
  ∧ ∀ (most : Nat) (f p1 p0 : Byte) (rest : List Byte),
      let p := (word16 p1 p0).toNat
      let final := f.getLsbD 1
      (∀ c kind, kind = 0 ∨ 4 < kind.toNat → parseFrame c most (kind :: f :: p1 :: p0 :: rest) = none)
      ∧ (∀ kind ∈ [0x01, 0x02, 0x04], parseFrame .answer most (kind :: f :: p1 :: p0 :: rest) = none)
      ∧ parseFrame .request most (0x03 :: f :: p1 :: p0 :: rest) = none
      ∧ (∀ a3 a2 a1 a0 tail, rest = a3 :: a2 :: a1 :: a0 :: tail →
          (parseFrame .request most (0x01 :: f :: p1 :: p0 :: rest) = none
            ↔ tail.length ≠ p + 4 ∨ p = 0 ∨ most < p ∨ 1024 < p))
      ∧ (∀ a3 a2 a1 a0 n1 n0 tag tail, rest = a3 :: a2 :: a1 :: a0 :: n1 :: n0 :: tag :: tail →
          (parseFrame .request most (0x02 :: f :: p1 :: p0 :: rest) = none
            ↔ tail.length ≠ p + 4 ∨ p ≠ 0 ∨ (word16 n1 n0).toNat = 0 ∨ 4096 < (word16 n1 n0).toNat))
      ∧ (∀ tag code tail, rest = tag :: code :: tail →
          (parseFrame .answer most (0x03 :: f :: p1 :: p0 :: rest) = none
            ↔ tail.length ≠ p + 4 ∨ code.toNat < 0x10 ∨ 0x1D < code.toNat
              ∨ (code = 0x10 ∧ ((final = false ∧ p = 0) ∨ most < p ∨ 1024 < p))
              ∨ (code ≠ 0x10 ∧ (final = false ∨ p ≠ 0))))
      ∧ (∀ target source c1 c0 tail, rest = target :: source :: c1 :: c0 :: tail →
          (parseFrame .request most (0x04 :: f :: p1 :: p0 :: rest) = none ↔ tail.length ≠ p + 4 ∨ target = 0 ∨ 32 < p))
      ∧ (frameCheckOk (0x01 :: f :: p1 :: p0 :: rest) = true → p + 8 ≤ rest.length)
      ∧ (frameCheckOk (0x02 :: f :: p1 :: p0 :: rest) = true → p + 11 ≤ rest.length)
      ∧ (frameCheckOk (0x03 :: f :: p1 :: p0 :: rest) = true → p + 6 ≤ rest.length)
      ∧ (frameCheckOk (0x04 :: f :: p1 :: p0 :: rest) = true → p + 8 ≤ rest.length)
      ∧ ∀ bytes : List Byte, bytes.length < 8 → frameCheckOk bytes = false

/-- An intact request that becomes head of an empty class at once. Placed with room and no rival, a STORE or NOTICE enters its
target's lane unchanged and an admitted FETCH enters with its router tag, one the table refuses is answered TABLE FULL; with the
target's lane full, or a rival there, the head holds AWAIT LANE under the stall limit; a STORE
refused, and any request dropped, is discarded with the step's condition, latched once; a notice for the own station enters the inbox,
or overflows it when full. Each takes a credit of the granted count and owes one return once it has left its class (R41, R43, R45, R53,
R54, R55, R56, R59, R60, R62, R74, R75, R100, R102, R111). A spoiled one has SPOILED latched first (R44). A request that enters a class
whose head waits stands behind it, not yet examined (R41). The pointer goes to the winner (R109); that the frame is in its lane in the
step of its arrival when no rival waits is the model's reading of R109 (log 9). -/
def Obligations.RequestFrameDecided : Prop :=
  (∀ (p : Port) (bytes : List Byte) (r : Request Byte) (most : Nat) (s : State), (s.port p).link = .up most →
    0 < (s.port p).granted.request → frameCheckOk bytes = true → parseFrame .request most bytes = some (.request r) →
    (s.port p).requests = [] → (s.port p).requestWait = none →
      let marked := if r.spoiled then s.detect (.link p) .spoiled r.subject else s
      let took : PortState → PortState := fun x =>
        { x with
          granted := x.granted.set .request (x.granted.request - 1)
          owed := x.owed.set .request (x.owed.request + 1)
          counters := { x.counters with received := x.counters.received + 1 } }
      let dropped : PortState → PortState := fun x =>
        { took x with counters := { (took x).counters with dropped := x.counters.dropped + 1 } }
      (∀ d, s.decideHead (.link p) r = .place d → p ≠ d → (s.port d).requestLane.length < 12 →
        (∀ o, o ≠ .link p → s.wantsRequestLane d o = false) →
          (∀ a b sp, r = .store a b sp →
            Happens (.frameArrival p .request bytes) s
              (((marked.modPort p took).modPort d fun x =>
                { x with requestLane := x.requestLane ++ [⟨.store a b sp, .link p⟩] }).setPointer d .request (.link p)))
          ∧ (∀ t f c b sp, r = .notice t f c b sp →
              Happens (.frameArrival p .request bytes) s
                (((marked.modPort p took).modPort d fun x =>
                  { x with requestLane := x.requestLane ++ [⟨.notice t f c b sp, .link p⟩] }).setPointer d .request (.link p)))
          ∧ (∀ a n tag sp i, r = .fetch a n tag sp → s.admission (.link p) = .ok i →
              Happens (.frameArrival p .request bytes) s
                ((((marked.modPort p took).setEntry i
                  (.opened ⟨.link p tag, d, a, n, 0, 0⟩ .queued s.exchange.timers.value.timeout)).modPort d fun x =>
                    { x with requestLane := x.requestLane ++ [⟨.fetch a n i sp, .link p⟩] }).setPointer d .request (.link p)))
          ∧ ∀ a n tag sp k, r = .fetch a n tag sp → s.admission (.link p) = .error k → (s.port p).answerLane.length < 8 →
              (∀ q, s.wantsForward q p = false) →
                Happens (.frameArrival p .request bytes) s
                  ((((marked.setPointer d .request (.link p)).detect (.link p) k r.subject).modPort p fun x =>
                    { dropped x with answerLane := x.answerLane ++ [⟨⟨tag, .tableFull, true, [], false⟩, true⟩] }).setPointer p
                      .answer (.link p)))
      ∧ (∀ a b sp st c, r = .store a b sp → s.decideHead (.link p) r = .refuse st c →
          Happens (.frameArrival p .request bytes) s ((marked.detect (.link p) c r.subject).modPort p dropped))
      ∧ (∀ c, s.decideHead (.link p) r = .drop c →
          Happens (.frameArrival p .request bytes) s
            ((if c = .spoiled then marked else marked.detect (.link p) c r.subject).modPort p dropped))
      ∧ (s.decideHead (.link p) r = .inbox → 16 ≤ s.inbox.length →
          Happens (.frameArrival p .request bytes) s
            (((marked.latch .router .inboxOverflow).countRouter fun k => { k with inboxDrops := k.inboxDrops + 1 }).modPort p
              dropped))
      ∧ (∀ t f c b sp, r = .notice t f c b sp → s.decideHead (.link p) r = .inbox → s.inbox.length < 16 →
          Happens (.frameArrival p .request bytes) s
            ((State.latch .router .inboxArrival { marked with inbox := s.inbox ++ [⟨f, .link p, c, b, sp⟩] }).modPort p took))
      ∧ ∀ d, s.decideHead (.link p) r = .place d →
          (12 ≤ (s.port d).requestLane.length ∨ ∃ o, o ≠ .link p ∧ s.wantsRequestLane d o = true) →
            Happens (.frameArrival p .request bytes) s
              (marked.modPort p fun x =>
                { x with
                  granted := x.granted.set .request (x.granted.request - 1)
                  requests := [r]
                  requestWait := some (.lane d s.stallLimit.value)
                  counters := { x.counters with received := x.counters.received + 1 } }))
  ∧ ∀ (p : Port) (bytes : List Byte) (r head : Request Byte) (behind : List (Request Byte)) (w : RequestWait) (most : Nat)
    (s : State), (s.port p).link = .up most → 0 < (s.port p).granted.request → frameCheckOk bytes = true →
    parseFrame .request most bytes = some (.request r) → (s.port p).requests = head :: behind → (s.port p).requestWait = some w →
      Happens (.frameArrival p .request bytes) s
        (s.modPort p fun x =>
          { x with
            granted := x.granted.set .request (x.granted.request - 1)
            requests := head :: behind ++ [r]
            counters := { x.counters with received := x.counters.received + 1 } })

/-- A FETCH refused at decode is answered by a router-made final with its own tag and the step's status, which enters the answer lane of
its own port when it has fewer than 8 frames and no rival waits; it counts as dropped, its condition is latched once, and a credit
return is owed; with 8 frames there it waits for a slot under the stall limit. A spoiled one has SPOILED latched first (R13, R44,
R55, R111). A FETCH that waits for a lane and is decided again, the router having left FORWARDING, is refused NOT READY in the same
way, its stall timer running on (R57). The pointer goes to the winner (R109); that the answer is in the lane in the same step when no
rival waits is the model's reading of R109 (log 9). -/
def Obligations.RefusedFetchIsAnswered : Prop :=
  (∀ (p : Port) (bytes : List Byte) (a : Word32) (n : Nat) (tag : Byte) (sp : Bool) (most : Nat) (st : AnsStatus) (c : Condition)
    (s : State),
    (s.port p).link = .up most → 0 < (s.port p).granted.request → frameCheckOk bytes = true →
    parseFrame .request most bytes = some (.request (.fetch a n tag sp)) →
    (s.port p).requests = [] → (s.port p).requestWait = none →
    s.decideHead (.link p) (.fetch a n tag sp) = .refuse st c →
      let subject : Subject := .fetch a n (some tag) sp
      let told := (if sp then s.detect (.link p) .spoiled subject else s).detect (.link p) c subject
      ((s.port p).answerLane.length < 8 → (∀ q, s.wantsForward q p = false) →
        Happens (.frameArrival p .request bytes) s
          ((told.modPort p fun x =>
            { x with
              granted := x.granted.set .request (x.granted.request - 1)
              owed := x.owed.set .request (x.owed.request + 1)
              answerLane := x.answerLane ++ [⟨⟨tag, st, true, [], false⟩, true⟩]
              counters := { x.counters with received := x.counters.received + 1, dropped := x.counters.dropped + 1 } }).setPointer
            p .answer (.link p)))
      ∧ (8 ≤ (s.port p).answerLane.length →
          Happens (.frameArrival p .request bytes) s
            (told.modPort p fun x =>
              { x with
                granted := x.granted.set .request (x.granted.request - 1)
                requests := [.fetch a n tag sp]
                requestWait := some (.answerSlot st s.stallLimit.value)
                counters := { x.counters with received := x.counters.received + 1 } })))
  ∧ ∀ (p d : Port) (left : Nat) (a : Word32) (n : Nat) (tag : Byte) (sp : Bool) (rest : List (Request Byte)) (s : State),
    (s.port p).requestWait = some (.lane d left) → (s.port p).requests = .fetch a n tag sp :: rest → s.isUp p = true →
      let told := s.detect (.link p) .notReadyDrop (.fetch a n (some tag) sp)
      ((s.port p).answerLane.length < 8 →
        ((∀ q, q ≠ p → s.wantsForward q p = false) ∨ 6 ≤ forwardedCount (s.port p).answerLane) →
        s.redecideLink p .notReady .notReadyDrop
          = ((told.modPort p fun x =>
              { x with
                requests := rest
                requestWait := none
                owed := x.owed.set .request (x.owed.request + 1)
                answerLane := x.answerLane ++ [⟨⟨tag, .notReady, true, [], false⟩, true⟩]
                counters := { x.counters with dropped := x.counters.dropped + 1 } }).setPointer p .answer
              (.link p)).serveRequests p)
      ∧ (8 ≤ (s.port p).answerLane.length
          ∨ ((∃ q, q ≠ p ∧ s.wantsForward q p = true) ∧ forwardedCount (s.port p).answerLane < 6) →
          s.redecideLink p .notReady .notReadyDrop
            = told.modPort p fun x => { x with requestWait := some (.answerSlot .notReady left) })

/-- An intact answer that becomes head of an empty class at once: a stray or a late one is discarded with its condition and changes no
entry; one of an ORPHAN is discarded without a condition and frees the entry when final; a piece or final of an OPEN exchange of a
link origin is forwarded with the origin tag restored when there is room and no rival, and else holds AWAIT MATCH under the stall
limit; one of the host fetch joins its buffer. A final one of an entry still QUEUED withdraws its FETCH (what that does:
UnansweredEnds). (R43, R77 to R82, R95, R111.) A GOOD one that would take the bytes answered beyond the requested length, or is larger
than a link origin's effective max payload, is discarded with OVERRUN or OVERSIZE, nothing of it forwarded: the origin is told once, a
QUEUED FETCH withdrawn, and the entry goes to QUARANTINE with that cause, FREE at a quarantine time of 0 (R81, R84, R86). A spoiled
one has SPOILED latched first (R44). An answer that enters a class whose head waits stands behind it (R41). The pointer goes to the
winner (R109); that the answer is in its origin's lane in the step of its arrival when no rival waits is the model's reading of R109
(log 9). -/
def Obligations.AnswerFrameMatched : Prop :=
  (∀ (p : Port) (bytes : List Byte) (a : Answer) (most : Nat) (s : State), (s.port p).link = .up most →
    0 < (s.port p).granted.answer → frameCheckOk bytes = true → parseFrame .answer most bytes = some (.answer a) →
    (s.port p).answers = [] → (s.port p).answerWait = none →
      let marked := if a.spoiled then s.detect (.link p) .spoiled (.answer a.tag a.payload.length none true) else s
      let took : PortState → PortState := fun x =>
        { x with
          granted := x.granted.set .answer (x.granted.answer - 1)
          owed := x.owed.set .answer (x.owed.answer + 1)
          counters := { x.counters with received := x.counters.received + 1 } }
      let dropped : PortState → PortState := fun x =>
        { took x with counters := { (took x).counters with dropped := x.counters.dropped + 1 } }
      let forwarded := fun (i : RouterTag) (x : Exchange) (issue : Issue) (d : Nat) (t : State) =>
        if a.final then (t.withdrawQueued i x issue).setEntry i .free
        else t.setEntry i (.opened { x with answered := x.answered + a.payload.length, pieces := x.pieces + 1 } issue d)
      let quarantine := s.exchange.timers.value.quarantine
      let ended := fun (i : RouterTag) (x : Exchange) (issue : Issue) (c : Condition) (cause : EndCause) =>
        ((((marked.detect (.link p) c (.answer a.tag a.payload.length x.origin.tag? a.spoiled)).modPort p dropped).tellEnd cause
          x.origin).withdrawQueued i x issue).setEntry i (if quarantine = 0 then .free else .quarantine x cause quarantine)
      (64 ≤ a.tag.toNat →
        Happens (.frameArrival p .answer bytes) s
          ((marked.detect (.link p) .strayAnswer (.answer a.tag a.payload.length none a.spoiled)).modPort p dropped))
      ∧ ∀ i : RouterTag, i.val = a.tag.toNat →
        (s.entry i = .free →
          Happens (.frameArrival p .answer bytes) s
            ((marked.detect (.link p) .strayAnswer (.answer a.tag a.payload.length none a.spoiled)).modPort p dropped))
        ∧ (∀ x, (s.entry i).exchange? = some x → x.dest ≠ p →
            Happens (.frameArrival p .answer bytes) s
              ((marked.detect (.link p) .strayAnswer (.answer a.tag a.payload.length x.origin.tag? a.spoiled)).modPort p dropped))
        ∧ (∀ x c l, s.entry i = .quarantine x c l → x.dest = p →
            Happens (.frameArrival p .answer bytes) s
              ((marked.detect (.link p) .lateAnswer (.answer a.tag a.payload.length x.origin.tag? a.spoiled)).modPort p dropped))
        ∧ (∀ x issue d, s.entry i = .orphan x issue d → x.dest = p →
            Happens (.frameArrival p .answer bytes) s
              (if a.final then ((marked.modPort p dropped).withdrawQueued i x issue).setEntry i .free
              else marked.modPort p dropped))
        ∧ (∀ x issue d, s.entry i = .opened x issue d → x.dest = p → a.status = .good →
            x.len < x.answered + a.payload.length →
              Happens (.frameArrival p .answer bytes) s (ended i x issue .overrun .overrun))
        ∧ (∀ x issue d o tag room, s.entry i = .opened x issue d → x.dest = p → a.status = .good →
            x.answered + a.payload.length ≤ x.len → x.origin = .link o tag → (s.port o).link = .up room →
            room < a.payload.length →
              Happens (.frameArrival p .answer bytes) s (ended i x issue .oversize .oversize))
        ∧ (∀ x issue d o tag room, s.entry i = .opened x issue d → x.dest = p → x.origin = .link o tag → o ≠ p →
            x.answered + a.payload.length ≤ x.len → (s.port o).link = .up room → a.payload.length ≤ room →
            ((s.port o).answerLane.length < 8 → forwardedCount (s.port o).answerLane < 6 →
              (∀ q, s.wantsForward q o = false) → s.wantsAnswerSlot o = false →
                Happens (.frameArrival p .answer bytes) s
                  ((forwarded i x issue d ((marked.modPort p took).modPort o fun y =>
                    { y with answerLane := y.answerLane ++ [⟨{ a with tag := tag }, false⟩] })).setPointer o .answer
                    (.link p)))
            ∧ (8 ≤ (s.port o).answerLane.length ∨ 6 ≤ forwardedCount (s.port o).answerLane
                ∨ (∃ q, q ≠ p ∧ s.wantsForward q o = true) ∨ s.wantsAnswerSlot o = true →
                Happens (.frameArrival p .answer bytes) s
                  (marked.modPort p fun y =>
                    { y with
                      granted := y.granted.set .answer (y.granted.answer - 1)
                      answers := [a]
                      answerWait := some s.stallLimit.value
                      counters := { y.counters with received := y.counters.received + 1 } })))
        ∧ (∀ x issue d n data, s.entry i = .opened x issue d → x.dest = p → x.origin = .host →
            s.hostFetch = .gathering i n data → x.answered + a.payload.length ≤ x.len →
              Happens (.frameArrival p .answer bytes) s
                { forwarded i x issue d (marked.modPort p took) with
                  hostFetch :=
                    if a.final then .holding i n (data ++ a.payload) a.status else .gathering i n (data ++ a.payload) }))
  ∧ ∀ (p : Port) (bytes : List Byte) (a head : Answer) (behind : List Answer) (left most : Nat) (s : State),
    (s.port p).link = .up most → 0 < (s.port p).granted.answer → frameCheckOk bytes = true →
    parseFrame .answer most bytes = some (.answer a) → (s.port p).answers = head :: behind → (s.port p).answerWait = some left →
      Happens (.frameArrival p .answer bytes) s
        (s.modPort p fun x =>
          { x with
            granted := x.granted.set .answer (x.granted.answer - 1)
            answers := head :: behind ++ [a]
            counters := { x.counters with received := x.counters.received + 1 } })

/-- LANE GRANT: the arbiter grants the first candidate with room in cycle order from the position after the pointer, the pointer moves
to it, and the heads behind it are taken up. A STORE or NOTICE enters the lane's tail, an admitted FETCH with its router tag; M's head
likewise, and its command is answered, or, with no place for its response, stays in progress with the response waiting (R188). A FETCH
that admission refuses keeps the pointer, is refused TABLE FULL, and hands the room to the next candidate after it, the heads behind
it taken up first (the model's choice: log 31); M's is answered TABLE FULL. In an answer lane a refused FETCH's router-made answer
enters at the tail and the FETCH leaves as dropped; an answer is forwarded with the origin tag, and its entry counts it or, after a
final one, is FREE (R55, R56, R64, R66, R75, R77, R82, R93, R109).
A candidate of a request lane is a head that waits for it, of an answer lane its own port's FETCH that waits for a slot or an answer
head that waits and whose entry is OPEN with that origin; it has room while the link is UP and the lane holds fewer than 12 frames,
fewer than 8, or for a forwarded answer fewer than 8 with fewer than 6 of them forwarded; the cycle is T, B1 to B6, M (R103, R108).
Serving a class takes its head up and decides it, and then serves what is left; a head that waits, or an empty class, and nothing is
done (R41). What taking a head up does is what the arrival of its frame at an empty class does (RequestFrameDecided,
RefusedFetchIsAnswered, AnswerFrameMatched), the frames behind it staying behind. That a response enters before a NOTIFY or FETCH DONE
that the same event makes ready is the model's choice (log 34). -/
def Obligations.LaneGrantGoesRound : Prop :=
  (∀ (d : Port) (s : State),
    (∀ q rest left r more, s.candidates d .request = .link q :: rest → (s.port q).requestWait = some (.lane d left) →
      (s.port q).requests = r :: more →
        (∀ a b sp, r = .store a b sp →
          Happens (.laneGrant d .request) s
            (((s.placeRequest d (.link q) (.store a b sp)).modPort q PortState.popRequest).serveRequests q))
        ∧ (∀ t f c b sp, r = .notice t f c b sp →
            Happens (.laneGrant d .request) s
              (((s.placeRequest d (.link q) (.notice t f c b sp)).modPort q PortState.popRequest).serveRequests q))
        ∧ (∀ a n tag sp i, r = .fetch a n tag sp → s.admission (.link q) = .ok i →
            Happens (.laneGrant d .request) s
              ((((s.openEntry i (.link q tag) d a n).placeRequest d (.link q) (.fetch a n i sp)).modPort q
                PortState.popRequest).serveRequests q))
        ∧ ∀ a n tag sp k, r = .fetch a n tag sp → s.admission (.link q) = .error k →
            Happens (.laneGrant d .request) s
              (State.grantDown d rest
                ((((s.setPointer d .request (.link q)).detect (.link q) k (.fetch a n (some tag) sp)).refuseHead q r .tableFull
                  left).serveRequests q)))
    ∧ (∀ rest c h left, s.candidates d .request = .m :: rest → s.management.running = some ⟨c, .awaitLane h d left⟩ →
          let answered := fun (status : Status) (values : Values) (t : State) =>
            { t with management :=
              if s.management.mayEnter .response then
                { s.management with
                  running := none
                  outgoing := s.management.outgoing ++ [c.response status values]
                  waiting := s.management.without .response
                  last := some ⟨c.msg.seq, c.msg.check, c.response status values⟩ }
              else { s.management with running := some ⟨c, .answered (c.response status values)⟩ } }
          (∀ a b sp, h = .store a b sp →
            Happens (.laneGrant d .request) s (answered .done (.target d) (s.placeRequest d .m (.store a b sp))))
          ∧ (∀ t f k b sp, h = .notice t f k b sp →
              Happens (.laneGrant d .request) s
                (answered .done (.noticeWent (some d)) (s.placeRequest d .m (.notice t f k b sp))))
          ∧ (∀ a n sp i, h = .fetch a n () sp → s.admission .m = .ok i →
              Happens (.laneGrant d .request) s
                (answered .done (.fetchIssued i d)
                  { (s.openEntry i .host d a n).placeRequest d .m (.fetch a n i sp) with hostFetch := .gathering i n [] }))
          ∧ ∀ a n sp k, h = .fetch a n () sp → s.admission .m = .error k →
              Happens (.laneGrant d .request) s
                (State.grantDown d rest
                  (answered (.answer .tableFull) .empty
                    ((s.setPointer d .request .m).detect .m k (.fetch a n none sp)))))
    ∧ (∀ q rest st left a n tag sp more, s.candidates d .answer = .link q :: rest → q = d →
        (s.port d).requestWait = some (.answerSlot st left) → (s.port d).requests = .fetch a n tag sp :: more →
          Happens (.laneGrant d .answer) s
            ((((((s.modPort d fun x =>
              { x with answerLane := x.answerLane ++ [⟨⟨tag, st, true, [], false⟩, true⟩] }).dropRequest d).setPointer d .answer
                (.link d)).serveAnswers d).serveRequests d)))
    ∧ (∀ q rest left a more i x issue dl tag, s.candidates d .answer = .link q :: rest → q ≠ d →
        (s.port q).answerWait = some left → (s.port q).answers = a :: more → i.val = a.tag.toNat →
        s.entry i = .opened x issue dl → x.origin = .link d tag →
          let pushed := s.modPort d fun y => { y with answerLane := y.answerLane ++ [⟨{ a with tag := tag }, false⟩] }
          let counted :=
            if a.final then (pushed.withdrawQueued i x issue).setEntry i .free
            else pushed.setEntry i (.opened { x with answered := x.answered + a.payload.length, pieces := x.pieces + 1 } issue dl)
          Happens (.laneGrant d .answer) s
            ((((counted.modPort q PortState.popAnswer).setPointer d .answer (.link q)).serveAnswers q).serveRequests q))
    ∧ (∀ c o rest, s.candidates d c = o :: rest →
        ∃ skipped, Origin.after ((s.port d).pointer.get c) = skipped ++ o :: (Origin.after ((s.port d).pointer.get c)).drop
            (skipped.length + 1)
          ∧ ∀ x ∈ skipped, s.isCandidate d c x = false)
    ∧ (∀ c, s.candidates d c = [] ↔ ∀ o, s.isCandidate d c o = false)
    ∧ (∀ o, s.isCandidate d .request o = true ↔
        s.isUp d = true ∧ (s.port d).requestLane.length < 12
          ∧ match o with
            | .link q => ∃ left, (s.port q).requestWait = some (.lane d left)
            | .m => ∃ c h left, s.management.running = some ⟨c, .awaitLane h d left⟩)
    ∧ (∀ o, s.isCandidate d .answer o = true ↔
        s.isUp d = true ∧ (s.port d).answerLane.length < 8
          ∧ match o with
            | .link q =>
              (q = d ∧ ∃ st left, (s.port d).requestWait = some (.answerSlot st left))
                ∨ (forwardedCount (s.port d).answerLane < 6
                  ∧ ∃ left a more i x issue dl tag, (s.port q).answerWait = some left ∧ (s.port q).answers = a :: more
                    ∧ i.val = a.tag.toNat ∧ s.entry i = .opened x issue dl ∧ x.origin = .link d tag)
            | .m => False))
  ∧ (let cycle : List Origin := [.link .t, .link .b1, .link .b2, .link .b3, .link .b4, .link .b5, .link .b6, .m]
    ∀ (n : Nat) (o : Origin), cycle[n]? = some o → Origin.after o = cycle.drop (n + 1) ++ cycle.take (n + 1))
  ∧ (∀ (d : Port) (o : Origin) (rest : List Origin) (t : State),
      State.grantDown d [] t = t
      ∧ (t.isCandidate d .request o = false → State.grantDown d (o :: rest) t = State.grantDown d rest t)
      ∧ ∀ q left a b sp more, o = .link q → t.isCandidate d .request o = true → (t.port q).requestWait = some (.lane d left) →
          (t.port q).requests = .store a b sp :: more →
            State.grantDown d (o :: rest) t
              = ((t.placeRequest d o (.store a b sp)).modPort q PortState.popRequest).serveRequests q)
  ∧ (∀ (p : Port) (s : State),
      ((s.port p).requestWait ≠ none ∨ (s.port p).requests = [] → s.serveRequests p = s)
      ∧ (∀ r rest, (s.port p).requestWait = none → (s.port p).requests = r :: rest →
          s.serveRequests p = (s.takeUpRequest p r).serveRequests p
          ∧ s.takeUpRequest p r
              = ((s.modPort p fun x => { x with requests := [r] }).takeUpRequest p r).modPort p fun x =>
                { x with requests := x.requests ++ rest })
      ∧ ((s.port p).answerWait ≠ none ∨ (s.port p).answers = [] → s.serveAnswers p = s)
      ∧ ∀ a rest, (s.port p).answerWait = none → (s.port p).answers = a :: rest →
          s.serveAnswers p = (s.takeUpAnswer p a).serveAnswers p
          ∧ s.takeUpAnswer p a
              = ((s.modPort p fun x => { x with answers := [a] }).takeUpAnswer p a).modPort p fun x =>
                { x with answers := x.answers ++ rest })
  ∧ ∀ (p : Port) (bytes : List Byte) (most : Nat) (s : State), (s.port p).link = .up most → frameCheckOk bytes = true →
      (∀ r, parseFrame .request most bytes = some (.request r) → 0 < (s.port p).granted.request → (s.port p).requests = [] →
        (s.port p).requestWait = none →
          Happens (.frameArrival p .request bytes) s
            ((s.modPort p fun x =>
              { x with
                granted := x.granted.set .request (x.granted.request - 1)
                requests := [r]
                counters := { x.counters with received := x.counters.received + 1 } }).takeUpRequest p r))
      ∧ ∀ a, parseFrame .answer most bytes = some (.answer a) → 0 < (s.port p).granted.answer → (s.port p).answers = [] →
        (s.port p).answerWait = none →
          Happens (.frameArrival p .answer bytes) s
            ((s.modPort p fun x =>
              { x with
                granted := x.granted.set .answer (x.granted.answer - 1)
                answers := [a]
                counters := { x.counters with received := x.counters.received + 1 } }).takeUpAnswer p a)

/-- TRANSMIT FRAME: a free port begins to send the head of its answer lane when it has answer credit, else the head of its request
lane when it has request credit; the frame leaves its lane, one partner credit goes, the counters rise, a FETCH's entry is SENT (R105,
R106, R107). In any other case nothing is sent and nothing changes: neither lane has both a frame and its credit, or the port is not
free (R106).
A port is free when its link is UP, it is sending no frame, and it owes no credit return (R102, R106; that an owed return goes out
before the next frame: log 10). -/
def Obligations.TransmitChoosesAnswersFirst : Prop :=
  (∀ x : PortState,
    x.freeToSend = true ↔ x.link.isUp = true ∧ x.sending = none ∧ x.owed.request = 0 ∧ x.owed.answer = 0)
  ∧ (∀ (p : Port) (s : State),
      ((s.port p).freeToSend = false
        ∨ (((s.port p).answerLane = [] ∨ (s.port p).partner.answer = 0)
          ∧ ((s.port p).requestLane = [] ∨ (s.port p).partner.request = 0)) →
        Happens (.transmitFrame p) s s))
  ∧ ∀ (p : Port) (s : State), (s.port p).freeToSend = true →
    (∀ a rest, (s.port p).answerLane = a :: rest → 0 < (s.port p).partner.answer →
      Happens (.transmitFrame p) s
        (s.modPort p fun x =>
          { x with
            answerLane := rest
            sending := some (.answer a.answer)
            partner := { x.partner with answer := x.partner.answer - 1 }
            counters :=
              { x.counters with
                sent := x.counters.sent + 1
                routerMade := if a.routerMade then x.counters.routerMade + 1 else x.counters.routerMade } }))
    ∧ ((s.port p).answerLane = [] ∨ (s.port p).partner.answer = 0 →
        ∀ r rest, (s.port p).requestLane = r :: rest → 0 < (s.port p).partner.request →
          let begun := s.modPort p fun x =>
            { x with
              requestLane := rest
              sending := some (.request r.request)
              partner := { x.partner with request := x.partner.request - 1 }
              counters := { x.counters with sent := x.counters.sent + 1 } }
          (∀ a b sp, r.request = .store a b sp → Happens (.transmitFrame p) s begun)
          ∧ (∀ t f c b sp, r.request = .notice t f c b sp → Happens (.transmitFrame p) s begun)
          ∧ (∀ a n i sp x issue d, r.request = .fetch a n i sp → s.entry i = .opened x issue d →
              Happens (.transmitFrame p) s (begun.setEntry i (.opened x .sent d)))
          ∧ ∀ a n i sp x issue d, r.request = .fetch a n i sp → s.entry i = .orphan x issue d →
              Happens (.transmitFrame p) s (begun.setEntry i (.orphan x .sent d)))

/-- FRAME LAST BYTE SENT puts the frame on the wire and frees the port; SEND CREDIT RETURN sends an owed return between frames and
raises the granted count; CREDIT RETURN raises the partner credit count, never above the greeting's value (R102, R105, R107). -/
def Obligations.SendingAndCredits : Prop :=
  (∀ (p : Port) (s : State) (f : Outbound), (s.port p).sending = some f →
    Happens (.frameLastByteSent p) s
      { (s.modPort p fun x => { x with sending := none }) with wire := s.wire ++ [f.emission p] })
  ∧ (∀ (p : Port) (c : FrameClass) (s : State), s.isUp p = true → (s.port p).sending = none → 0 < (s.port p).owed.get c →
    Happens (.sendCreditReturn p c) s
      { (s.modPort p fun x =>
          { x with owed := x.owed.set c (x.owed.get c - 1), granted := x.granted.set c (x.granted.get c + 1) }) with
        wire := s.wire ++ [.creditReturn p c] })
  ∧ ∀ (p : Port) (c : FrameClass) (s : State) (g : Greeting), s.isUp p = true → (s.port p).greeting = some g →
    ((s.port p).partner.get c < g.credits c →
      Happens (.creditReturn p c) s (s.modPort p fun x => { x with partner := x.partner.set c (x.partner.get c + 1) }))
    ∧ (g.credits c ≤ (s.port p).partner.get c → Happens (.creditReturn p c) s s)

/-- STALL TIMER RUNS OUT: a waiting request head is dropped with STALL_DROP at its port and gets no answer; a waiting answer is
dropped and its exchange ends STALLED; M's head is dropped and its command answered STALLED, or, with no place for the response, has
it waiting.
The heads behind are taken up. Every countdown has run on by the time that was left (R90, R111, R112, R188; the clock: log 5). That a
response enters before a NOTIFY or FETCH DONE that the same event makes ready is the model's choice (log 34). -/
def Obligations.StallDropsTheHead : Prop :=
  (∀ (p : Port) (s : State) (w : RequestWait) (r : Request Byte) (rest : List (Request Byte)),
    (s.port p).requestWait = some w → (s.port p).requests = r :: rest →
      Happens (.stallTimerRunsOut (.ingress p .request)) s
        ((((s.elapse w.left).detect (.link p) .stallDrop r.subject).dropRequest p).serveRequests p))
  ∧ (∀ (p : Port) (s : State) (left : Nat) (a : Answer) (i : RouterTag) (x : Exchange) (issue : Issue) (d : Nat),
    (s.port p).answerWait = some left → s.awaitedMatch p = some (a, i, x, issue, d) →
      Happens (.stallTimerRunsOut (.ingress p .answer)) s
        (((((s.elapse left).detect (.link p) .stallDrop (s.answerSubject a)).dropAnswer p).endEntry i .stalled
          true).serveAnswers p))
  ∧ ∀ (s : State) (c : Message) (h : Request Unit) (p : Port) (left : Nat),
    s.management.running = some ⟨c, .awaitLane h p left⟩ →
      let t := (s.elapse left).detect .m .stallDrop h.hostSubject
      (s.management.mayEnter .response = true →
        Happens (.stallTimerRunsOut .m) s
          { t with management :=
            { (s.elapse left).management with
              running := none
              outgoing := s.management.outgoing ++ [c.response (.answer .stalled) .empty]
              last := some ⟨c.msg.seq, c.msg.check, c.response (.answer .stalled) .empty⟩ } })
      ∧ (s.management.mayEnter .response = false →
          Happens (.stallTimerRunsOut .m) s
            { t with management :=
              { (s.elapse left).management with
                running := some ⟨c, .answered (c.response (.answer .stalled) .empty)⟩ } })

/-! ## Chapter 6: link ports -/

/-- SET LINK writes enable and configured max together; a DISABLED port enabled goes DOWN with attempt count 0, an UP port disabled
leaves UP with cause DISABLE (what that does: LeavingUpEmptiesThePort, its order the model's: log 21), any other port disabled is DISABLED
with attempt count 0, else the state stays; the response carries the state after (R121, R122). A byte that names no link port and one
that is no flag are BAD VALUE (R121). -/
def Obligations.SetLinkWritesTheSettings : Prop :=
  (∀ (m : HostMsg) (p e m1 m0 : Byte) (s : State), TakenOutsideStart s ⟨0x40, m⟩ → m.params = [p, e, m1, m0] →
    6 < p.toNat ∨ 1 < e.toNat → Answers (.setLink m) s ⟨0x40, m⟩ .badValue .empty s)
  ∧ ∀ (m : HostMsg) (p e m1 m0 : Byte) (port : Port) (enable : Bool) (s : State), TakenOutsideStart s ⟨0x40, m⟩ →
    m.params = [p, e, m1, m0] → Port.ofByte p = some port → flagOfByte e = some enable →
      let x : LinkSettings := ⟨enable, (word16 m1 m0).toNat⟩
      let old := (s.port port).settings
      let wrote := s.modPort port fun z => { z with settings := ⟨x, old.fixed⟩ }
      (x.max ∈ [64, 128, 256, 512, 1024] → (old.fixed = true → old.value = x) →
        ((s.port port).link = .disabled → enable = true →
          Answers (.setLink m) s ⟨0x40, m⟩ .done (.linkState .down)
            (wrote.modPort port fun z => { z with link := .down (some 1), attempts := 0 }))
        ∧ (s.isUp port = true → enable = false →
            Effect (.setLink m) s
              (State.answer ⟨0x40, m⟩ .done (.linkState .disabled)
                ((s.taken.modPort port fun z => { z with settings := ⟨x, old.fixed⟩ }).leaveUp port .disabled .disable)))
        ∧ (s.isUp port = false → (s.port port).link ≠ .disabled → enable = false →
            Answers (.setLink m) s ⟨0x40, m⟩ .done (.linkState .disabled)
              (wrote.modPort port fun z => { z with link := .disabled, attempts := 0 }))
        ∧ (((s.port port).link ≠ .disabled ∧ enable = true) ∨ ((s.port port).link = .disabled ∧ enable = false) →
            Answers (.setLink m) s ⟨0x40, m⟩ .done (.linkState (s.port port).link.name) wrote))
      ∧ (x.max ∉ [64, 128, 256, 512, 1024] → Answers (.setLink m) s ⟨0x40, m⟩ .badValue .empty s)
      ∧ (x.max ∈ [64, 128, 256, 512, 1024] → old.fixed = true → old.value ≠ x →
          Answers (.setLink m) s ⟨0x40, m⟩ .fixed .empty s)

/-- HOLD BAY: from UP a RESET symbol goes out and the link leaves UP with cause HOLD into HELD (what that does:
LeavingUpEmptiesThePort, its order the model's: log 21); from DOWN, TRAINING and FAILED the bay is
HELD at once; HELD stays; DISABLED is WRONG STATE; the attempt count becomes 0 on entering HELD; T and a byte that names no bay are BAD
VALUE (R133). -/
def Obligations.HoldBayByLinkState : Prop :=
  (∀ (m : HostMsg) (b : Byte) (s : State), TakenOutsideStart s ⟨0x41, m⟩ → m.params = [b] → b = 0 ∨ 6 < b.toNat →
    Answers (.holdBay m) s ⟨0x41, m⟩ .badValue .empty s)
  ∧ ∀ (m : HostMsg) (b : Byte) (bay : Bay) (s : State), TakenOutsideStart s ⟨0x41, m⟩ → m.params = [b] →
    Bay.ofByte b = some bay →
      (s.isUp bay.port = true →
        Effect (.holdBay m) s
          (State.answer ⟨0x41, m⟩ .done .empty
            ((State.leaveUp bay.port .held .hold { s.taken with wire := s.wire ++ [.resetSymbol bay.port] }).modPort bay.port
              fun x => { x with attempts := 0 })))
      ∧ ((s.port bay.port).link.name ∈ [.down, .training, .failed] →
          Answers (.holdBay m) s ⟨0x41, m⟩ .done .empty (s.modPort bay.port fun x => { x with link := .held, attempts := 0 }))
      ∧ ((s.port bay.port).link = .held → Answers (.holdBay m) s ⟨0x41, m⟩ .done .empty s)
      ∧ ((s.port bay.port).link = .disabled → Answers (.holdBay m) s ⟨0x41, m⟩ .wrongState .empty s)

/-- RELEASE BAY takes a HELD bay, and RETRAIN a FAILED port, to DOWN at the start of its quiet interval with attempt count 0, all else
kept; in any other state they are WRONG STATE and nothing changes; a port outside their range is BAD VALUE. Both are taken in
CONFIGURING and in FORWARDING (R134, R135). The training that follows is TrainingBegins. -/
def Obligations.ReleaseBayAndRetrain : Prop :=
  (∀ (m : HostMsg) (b : Byte) (s : State), TakenOutsideStart s ⟨0x42, m⟩ → m.params = [b] →
    (Bay.ofByte b = none → Answers (.releaseBay m) s ⟨0x42, m⟩ .badValue .empty s)
    ∧ ∀ bay, Bay.ofByte b = some bay →
      ((s.port bay.port).link = .held →
        Answers (.releaseBay m) s ⟨0x42, m⟩ .done .empty
          (s.modPort bay.port fun x => { x with link := .down (some 1), attempts := 0 }))
      ∧ ((s.port bay.port).link ≠ .held → Answers (.releaseBay m) s ⟨0x42, m⟩ .wrongState .empty s))
  ∧ ∀ (m : HostMsg) (p : Byte) (s : State), TakenOutsideStart s ⟨0x43, m⟩ → m.params = [p] →
    (Port.ofByte p = none → Answers (.retrain m) s ⟨0x43, m⟩ .badValue .empty s)
    ∧ ∀ port, Port.ofByte p = some port →
      ((s.port port).link = .failed →
        Answers (.retrain m) s ⟨0x43, m⟩ .done .empty
          (s.modPort port fun x => { x with link := .down (some 1), attempts := 0 }))
      ∧ ((s.port port).link ≠ .failed → Answers (.retrain m) s ⟨0x43, m⟩ .wrongState .empty s)

/-- READ LANES answers one port's buffers, lanes and credits and changes nothing: occupancies of both classes and both lanes, the
waiting state and the stall time left of each head, granted counts, forwarded answers, partner credit counts, pointers, the stall limit
and its mark (R117).
READ LINK answers one port's link as it stands and changes nothing: the link state, the settings and their mark, offered max, attempt
count, greeting record, effective max payload while UP, the damaged window's count, 0 when not UP, the last causes (R136). -/
def Obligations.ReadLanesAndReadLinkAnswer : Prop :=
  (∀ (m : HostMsg) (p : Byte) (s : State), TakenOutsideStart s ⟨0x39, m⟩ → m.params = [p] →
        (∀ port, Port.ofByte p = some port → Answers (.readLanes m) s ⟨0x39, m⟩ .done (.lanes (s.lanesReport port)) s)
        ∧ (Port.ofByte p = none → Answers (.readLanes m) s ⟨0x39, m⟩ .badValue .empty s))
  ∧ (∀ (m : HostMsg) (p : Byte) (s : State), TakenOutsideStart s ⟨0x44, m⟩ → m.params = [p] →
      (∀ port, Port.ofByte p = some port → Answers (.readLink m) s ⟨0x44, m⟩ .done (.link (s.port port).linkReport) s)
      ∧ (Port.ofByte p = none → Answers (.readLink m) s ⟨0x44, m⟩ .badValue .empty s))
  ∧ (∀ (p : Port) (s : State),
      let x := s.port p
      let l := s.lanesReport p
      l.requestsHeld = x.requests.length ∧ l.answersHeld = x.answers.length
      ∧ (x.requestWait = none → l.requestWait = .idle ∧ l.requestStall = none)
      ∧ (∀ d left, x.requestWait = some (.lane d left) → l.requestWait = .awaitLane ∧ l.requestStall = some left)
      ∧ (∀ st left, x.requestWait = some (.answerSlot st left) → l.requestWait = .awaitAnswerSlot ∧ l.requestStall = some left)
      ∧ (x.answerWait = none → l.answerWait = .idle ∧ l.answerStall = none)
      ∧ (∀ left, x.answerWait = some left → l.answerWait = .awaitMatch ∧ l.answerStall = some left)
      ∧ l.granted = x.granted ∧ l.requestLane = x.requestLane.length ∧ l.answerLane = x.answerLane.length
      ∧ l.forwarded = (x.answerLane.filter fun a => !a.routerMade).length
      ∧ l.partner = x.partner ∧ l.pointer = x.pointer ∧ l.stallLimit = s.stallLimit)
  ∧ ∀ x : PortState,
      let l := x.linkReport
      l.state = x.link.name ∧ l.settings = x.settings ∧ l.offered = x.offered ∧ l.attempts = x.attempts ∧ l.greeting = x.greeting
      ∧ (∀ most, x.link = .up most → l.effectiveMax = some most ∧ l.windowCount = x.window.length)
      ∧ (x.link.isUp = false → l.effectiveMax = none ∧ l.windowCount = 0)
      ∧ l.downCause = x.downCause ∧ l.failCause = x.failCause

/-- QUIET INTERVAL END, PARTNER SIGNAL PRESENT and GREETING REPEAT: a DOWN port whose quiet interval has ended enters TRAINING when the
partner signal is present, fixing its offered max and sending its greeting; without the signal it stays DOWN; in TRAINING it sends the
greeting again until an accept has come (R123, R124; log 5, log 14). The transmitter: quiet in DISABLED, HELD and FAILED and in the
quiet interval of DOWN, the idle signal in DOWN once that has ended, greetings and accepts in TRAINING, and in UP a frame being sent or
else the idle signal (R119, R123). -/
def Obligations.TrainingBegins : Prop :=
  (∀ (p : Port) (q : Nat) (s : State), (s.port p).link = .down (some q) →
    (s.pins.signal.get p = false →
      Happens (.quietIntervalEnd p) s ((s.elapse q).modPort p fun x => { x with link := .down none }))
    ∧ (s.pins.signal.get p = true →
      Happens (.quietIntervalEnd p) s
        { ((s.elapse q).modPort p fun x =>
            { x with link := .training ⟨2, true, none, false⟩, offered := some x.settings.value.max }) with
          wire := s.wire ++ [.greeting p (greetingBytes (s.port p).settings.value.max)] }))
  ∧ (∀ (p : Port) (s : State), (s.port p).link = .down none →
      Happens (.partnerSignalPresent p) s
        { (s.modPort p fun x =>
            { x with link := .training ⟨2, true, none, false⟩, offered := some x.settings.value.max }) with
          pins := { s.pins with signal := s.pins.signal.set p true }
          wire := s.wire ++ [.greeting p (greetingBytes (s.port p).settings.value.max)] })
  ∧ (∀ (p : Port) (s : State), (s.port p).link ≠ .down none →
      Happens (.partnerSignalPresent p) s { s with pins := { s.pins with signal := s.pins.signal.set p true } })
  ∧ (∀ (p : Port) (a : Attempt) (offer : Nat) (s : State), (s.port p).link = .training a → a.accepted = false →
      (s.port p).offered = some offer →
        Happens (.greetingRepeat p) s { s with wire := s.wire ++ [.greeting p (greetingBytes offer)] })
  ∧ ∀ x : PortState,
      (x.link = .disabled ∨ x.link = .held ∨ x.link = .failed ∨ (∃ q, x.link = .down (some q)) →
        x.transmitter = .quiet ∧ x.drives = false)
      ∧ (x.link = .down none → x.transmitter = .idle ∧ x.drives = true)
      ∧ (∀ a, x.link = .training a → x.transmitter = .training ∧ x.drives = true)
      ∧ ∀ most, x.link = .up most →
          (x.sending = none → x.transmitter = .idle) ∧ (∀ f, x.sending = some f → x.transmitter = .frame) ∧ x.drives = true

/-- GREETING and ACCEPT: the first greeting of an attempt that passes the check is kept and accepted, and each later intact one is
accepted unread; when a greeting is kept and an accept has come, in either order, the port is UP with the smaller of offered max and
capability, 4 and 4 granted, the partner's credits, attempt count 0, an empty damaged window and LINK_UP latched; a greeting that
fails the check ends the attempt with BAD GREETING: a first or second failure takes the port DOWN, the third to FAILED with
LINK_FAILED; a damaged greeting is counted and the attempt goes on (R14, R124, R125, R126, R127; a damaged greeting owes no credit:
log 13).
A greeting whose link check fails is damaged; an intact one passes the check when its partner kind is 01h to 03h, its capability one
of 64, 128, 256, 512 and 1024 and both its credits 1 to 16, and fails it otherwise (R125, R198, R201); one that is not nine bytes long
is damaged (the model's choice: log 30). -/
def Obligations.GreetingAndAcceptBringTheLinkUp : Prop :=
  (∀ (p : Port) (a : Attempt) (offer : Nat) (s : State), (s.port p).link = .training a → (s.port p).offered = some offer →
    let up := fun (g : Greeting) (t : State) =>
      (t.modPort p fun x =>
        { x with
          link := .up (min offer g.capability), attempts := 0, greeting := some g, window := [], granted := ⟨4, 4⟩, owed := ⟨0, 0⟩,
          partner := ⟨g.requestCredits, g.answerCredits⟩ }).latch (.origin (.link p)) .linkUp
    (∀ bytes g, a.kept = none → checkGreeting bytes = .good g →
      let accepted := { s with wire := s.wire ++ [.accept p] }
      (a.accepted = false →
        Happens (.greeting p bytes) s (accepted.modPort p fun x => { x with link := .training { a with kept := some g } }))
      ∧ (a.accepted = true → Happens (.greeting p bytes) s (up g accepted)))
    ∧ (∀ bytes g, a.kept = some g → checkGreeting bytes ≠ .damaged →
        Happens (.greeting p bytes) s { s with wire := s.wire ++ [.accept p] })
    ∧ (a.greeted = true →
        (∀ g, a.kept = some g → Happens (.accept p) s (up g s))
        ∧ (a.kept = none →
            Happens (.accept p) s (s.modPort p fun x => { x with link := .training { a with accepted := true } })))
    ∧ (∀ bytes, a.kept = none → checkGreeting bytes = .bad → (s.port p).attempts < 2 →
        Happens (.greeting p bytes) s
          (s.modPort p fun x =>
            { x with link := .down (some 1), attempts := x.attempts + 1, failCause := some .badGreeting }))
    ∧ (∀ bytes, a.kept = none → checkGreeting bytes = .bad → 2 ≤ (s.port p).attempts →
        Happens (.greeting p bytes) s
          ((s.modPort p fun x =>
            { x with link := .failed, attempts := x.attempts + 1, failCause := some .badGreeting }).latch (.origin (.link p))
            .linkFailed))
    ∧ ∀ bytes, checkGreeting bytes = .damaged →
        Happens (.greeting p bytes) s
          (s.modPort p fun x => { x with counters := { x.counters with damaged := x.counters.damaged + 1 } }))
  ∧ (∀ k c1 c0 req ans x3 x2 x1 x0 : Byte,
      let bytes := [k, c1, c0, req, ans, x3, x2, x1, x0]
      let capability := (word16 c1 c0).toNat
      let inRange :=
        capability ∈ [64, 128, 256, 512, 1024] ∧ 1 ≤ req.toNat ∧ req.toNat ≤ 16 ∧ 1 ≤ ans.toNat ∧ ans.toNat ≤ 16
      (crc32 [k, c1, c0, req, ans] ≠ word32 x3 x2 x1 x0 → checkGreeting bytes = .damaged)
      ∧ (crc32 [k, c1, c0, req, ans] = word32 x3 x2 x1 x0 →
          (inRange → k = 0x01 → checkGreeting bytes = .good ⟨.module, capability, req.toNat, ans.toNat⟩)
          ∧ (inRange → k = 0x02 → checkGreeting bytes = .good ⟨.router, capability, req.toNat, ans.toNat⟩)
          ∧ (inRange → k = 0x03 → checkGreeting bytes = .good ⟨.controller, capability, req.toNat, ans.toNat⟩)
          ∧ (¬inRange ∨ k = 0 ∨ 3 < k.toNat → checkGreeting bytes = .bad)))
  ∧ ∀ bytes : List Byte, bytes.length ≠ 9 → checkGreeting bytes = .damaged

/-- TRAINING TIMEOUT: a first or second failure takes the port DOWN, the third to FAILED with LINK_FAILED; each counts and sets the
failure cause (R126; log 5).
PARTNER SIGNAL LOSS: an UP link leaves UP with cause LOSS and goes DOWN; an attempt is abandoned without a count; DISABLED, HELD,
FAILED and DOWN stay. A greeting while UP takes the link DOWN with cause GREETING, unread; a damaged one is counted and joins the
damaged window, and as the eighth there takes the link DOWN with cause BUDGET (log 13); an accept while UP is ignored (R14, R129,
R130). DAMAGED WINDOW EXPIRY drops the oldest frame of the window (R126, R128, R129, R130; log 5; what leaving UP does:
LeavingUpEmptiesThePort, its order the model's: log 21). -/
def Obligations.FailuresLossesAndWindowExpiry : Prop :=
  (∀ (p : Port) (a : Attempt) (s : State), (s.port p).link = .training a →
      ((s.port p).attempts < 2 →
        Happens (.trainingTimeout p) s
          ((s.elapse a.left).modPort p fun x =>
            { x with link := .down (some 1), attempts := x.attempts + 1, failCause := some .timeout }))
      ∧ (2 ≤ (s.port p).attempts →
          Happens (.trainingTimeout p) s
            (((s.elapse a.left).modPort p fun x =>
              { x with link := .failed, attempts := x.attempts + 1, failCause := some .timeout }).latch (.origin (.link p))
              .linkFailed)))
  ∧ ((∀ (p : Port) (s : State),
      let lost := { s with pins := { s.pins with signal := s.pins.signal.set p false } }
      (s.isUp p = true → Happens (.partnerSignalLoss p) s (lost.leaveUp p (.down (some 1)) .loss))
      ∧ (∀ a, (s.port p).link = .training a →
          Happens (.partnerSignalLoss p) s (lost.modPort p fun x => { x with link := .down (some 1) }))
      ∧ ((s.port p).link.name ∈ [.disabled, .held, .failed, .down] → Happens (.partnerSignalLoss p) s lost))
    ∧ (∀ (p : Port) (bytes : List Byte) (s : State), s.isUp p = true → checkGreeting bytes ≠ .damaged →
        Happens (.greeting p bytes) s (s.leaveUp p (.down (some 1)) .greeting))
    ∧ (∀ (p : Port) (bytes : List Byte) (s : State), s.isUp p = true → checkGreeting bytes = .damaged →
        ((s.port p).window.length < 7 →
          Happens (.greeting p bytes) s
            (s.modPort p fun x =>
              { x with window := x.window ++ [10], counters := { x.counters with damaged := x.counters.damaged + 1 } }))
        ∧ (7 ≤ (s.port p).window.length →
            Happens (.greeting p bytes) s
              ((s.modPort p fun x =>
                { x with counters := { x.counters with damaged := x.counters.damaged + 1 } }).leaveUp p (.down (some 1)) .budget)))
    ∧ (∀ (p : Port) (s : State), s.isUp p = true → Happens (.accept p) s s)
    ∧ ∀ (p : Port) (s : State) (left : Nat) (rest : List Nat), (s.port p).window = left :: rest →
        Happens (.damagedWindowExpiry p) s
          ((s.elapse left).modPort p fun x => { x with window := rest.map (· - left) }))

/-- A link that leaves UP: LINK_DOWN is latched, the down cause set, the port's classes, lanes, credits and damaged window emptied
with the frames counted as dropped (but no STORE of M's: R64; that its FETCH and NOTICE count: log 32), its greeting record, settings
and pointers kept; no entry is left OPEN or ORPHAN with that destination and none OPEN with that origin (R87, R88, R114, R131). Then
in one transition, in the model's order (log 21): every entry with that destination goes to QUARANTINE with cause LINK LOST, FREE at a
quarantine time of 0, and stays so at a time above 0; the OPEN ones tell their origins in index order, as many as an answer lane has
free slots for, a host fetch in GATHERING goes to HOLDING; OPEN entries with that origin become ORPHAN with their fields kept; every
head that waits for its request lane is decided again as PORT DOWN under NO_ROUTE, a STORE or NOTICE dropped, a FETCH answered or left
to wait for a slot, and M's command is answered PORT DOWN; answers that wait are matched again (CancelAndListExchanges) (R57, R83,
R84, R86, R87, R88). That such a FETCH's answer is in its lane in the same step when no rival waits, and is left to LANE GRANT with
one, is the model's reading of R109 (log 9). That a response enters before a NOTIFY or FETCH DONE that the same event makes ready is
the model's choice (log 34). -/
def Obligations.LeavingUpEmptiesThePort : Prop :=
  (∀ (p : Port) (l : Link) (cause : DownCause) (s : State), l.isUp = false →
    let t := s.leaveUp p l cause
    let x := s.port p
    let emptied : PortState :=
      { x with
        link := l, downCause := some cause, window := [], requests := [], requestWait := none, answers := [], answerWait := none,
        granted := ⟨0, 0⟩, owed := ⟨0, 0⟩, requestLane := [], answerLane := [], partner := ⟨0, 0⟩, sending := none,
        counters :=
          { x.counters with
            dropped :=
              x.counters.dropped
                + BitVec.ofNat 32
                  (x.requests.length + x.answers.length
                    + (x.requestLane.filter fun r =>
                        match r.origin, r.request with
                        | .m, .store _ _ _ => false
                        | _, _ => true).length
                    + forwardedCount x.answerLane) } }
    t.port p = emptied
    ∧ .linkDown ∈ t.latched (.origin (.link p))
    ∧ (∀ i y issue d,
        (t.entry i = .opened y issue d → y.dest ≠ p ∧ y.origin.origin ≠ .link p)
        ∧ (t.entry i = .orphan y issue d → y.dest ≠ p))
    ∧ (0 < s.exchange.timers.value.quarantine → ∀ i y issue d, y.dest = p →
        s.entry i = .opened y issue d ∨ s.entry i = .orphan y issue d →
          t.entry i = .quarantine y .linkLost s.exchange.timers.value.quarantine)
    ∧ t = Port.all.foldl (fun v q => v.rematch q)
        (((((s.latch (.origin (.link p)) .linkDown).modPort p fun _ => emptied).endLinkLost p).orphan p).redecideFor p))
  ∧ (∀ (p : Port) (s : State),
      let t := s.endLinkLost p
      let q := s.exchange.timers.value.quarantine
      let told := fun o : Port =>
        (List.finRange 64).filterMap fun i =>
          match s.entry i with
          | .opened x _ _ =>
            match x.origin with
            | .link o' tag => if x.dest = p ∧ o' = o then some (⟨⟨tag, .linkLost, true, [], false⟩, true⟩ : LaneAnswer) else none
            | .host => none
          | _ => none
      (∀ i,
        (∀ x issue d, s.entry i = .opened x issue d ∨ s.entry i = .orphan x issue d →
          t.entry i = if x.dest = p then (if q = 0 then .free else .quarantine x .linkLost q) else s.entry i)
        ∧ ((∀ x issue d, s.entry i ≠ .opened x issue d ∧ s.entry i ≠ .orphan x issue d) → t.entry i = s.entry i))
      ∧ (∀ o, t.port o =
          if s.isUp o then
            { s.port o with answerLane := (s.port o).answerLane ++ (told o).take (8 - (s.port o).answerLane.length) }
          else s.port o)
      ∧ ((∃ i x issue d, s.entry i = .opened x issue d ∧ x.dest = p ∧ x.origin = .host) →
          ∀ i n data, s.hostFetch = .gathering i n data → t.hostFetch = .holding i n data .linkLost)
      ∧ ((∀ i x issue d, s.entry i = .opened x issue d → x.dest = p → x.origin ≠ .host) → t.hostFetch = s.hostFetch)
      ∧ t = { s with ports := t.ports, exchange := { s.exchange with entries := t.exchange.entries }, hostFetch := t.hostFetch })
  ∧ (∀ (p : Port) (s : State),
      let t := s.orphan p
      t = { s with exchange := { s.exchange with entries := t.exchange.entries } }
      ∧ ∀ i,
        (∀ x issue d, s.entry i = .opened x issue d → x.origin.origin = .link p → t.entry i = .orphan x issue d)
        ∧ ((∀ x issue d, s.entry i = .opened x issue d → x.origin.origin ≠ .link p) → t.entry i = s.entry i))
  ∧ (∀ (p : Port) (s : State), s.isUp p = false →
      ((∀ o, s.wantsRequestLane p o = false) → s.redecideFor p = s)
      ∧ (∀ q left, (s.port q).requestWait = some (.lane p left) → (∀ o, o ≠ .link q → s.wantsRequestLane p o = false) →
          s.redecideFor p = s.redecideLink q .portDown .noRoute)
      ∧ ∀ c h left, s.management.running = some ⟨c, .awaitLane h p left⟩ → (∀ q, s.wantsRequestLane p (.link q) = false) →
          let told := s.detect .m .noRoute h.hostSubject
          let answer := c.response (.answer .portDown) .empty
          (s.management.mayEnter .response = true →
            s.redecideFor p
              = { told with management :=
                  { s.management with
                    running := none
                    outgoing := s.management.outgoing ++ [answer]
                    waiting := s.management.without .response
                    last := some ⟨c.msg.seq, c.msg.check, answer⟩ } })
          ∧ (s.management.mayEnter .response = false →
              s.redecideFor p = { told with management := { s.management with running := some ⟨c, .answered answer⟩ } }))
  ∧ ∀ (q d : Port) (left : Nat) (r : Request Byte) (rest : List (Request Byte)) (s : State),
      (s.port q).requestWait = some (.lane d left) → (s.port q).requests = r :: rest → s.isUp q = true →
        let told := s.detect (.link q) .noRoute r.subject
        let left' : PortState → PortState := fun x =>
          { x with
            requests := rest
            requestWait := none
            owed := x.owed.set .request (x.owed.request + 1)
            counters := { x.counters with dropped := x.counters.dropped + 1 } }
        ((∀ a n tag sp, r ≠ .fetch a n tag sp) →
          s.redecideLink q .portDown .noRoute = (told.modPort q left').serveRequests q)
        ∧ ∀ a n tag sp, r = .fetch a n tag sp →
            ((s.port q).answerLane.length < 8 →
              ((∀ o, o ≠ q → s.wantsForward o q = false) ∨ 6 ≤ forwardedCount (s.port q).answerLane) →
              s.redecideLink q .portDown .noRoute
                = ((told.modPort q fun x =>
                    { left' x with answerLane := x.answerLane ++ [⟨⟨tag, .portDown, true, [], false⟩, true⟩] }).setPointer q .answer
                    (.link q)).serveRequests q)
            ∧ (8 ≤ (s.port q).answerLane.length
                ∨ ((∃ o, o ≠ q ∧ s.wantsForward o q = true) ∧ forwardedCount (s.port q).answerLane < 6) →
                s.redecideLink q .portDown .noRoute
                  = told.modPort q fun x => { x with requestWait := some (.answerSlot .portDown left) })

/-- RESET SYMBOL: on an UP T from a controller or router the trunk reset is taken: a RESET symbol on every UP bay (in `wire` B1's
first and B6's last, the model's order: log 33), every block but the management link at its values after reset with sticky conditions
kept, START with cause TRUNK RESET, and a host request that waits for a lane is answered NOT READY; on an UP T from a module and on an
UP bay MALFORMED is latched; on a port not UP nothing happens (R67, R132, R137, R144, R154, R169, R178). What such a reset keeps of
the conditions: in each set LINK_FAILED, MALFORMED, LOAD_FAILED and SPOILED as they stand and no other name; captures EMPTY, counters
0, reporting off with no name masked and no mark (R144, R154). The lost host fetch: the tag and the state of a buffer not EMPTY, else
none, or in START what the report already shows (R177, R178). -/
def Obligations.ResetSymbolByPort : Prop :=
  (∀ (p : Port) (s : State),
    (s.isUp p = false → Happens (.resetSymbol p) s s)
    ∧ (s.isUp p = true → p ≠ .t → Happens (.resetSymbol p) s (s.latch (.origin (.link p)) .malformed))
    ∧ (∀ g, p = .t → s.isUp .t = true → (s.port .t).greeting = some g → g.kind = .module →
        Happens (.resetSymbol p) s (s.latch (.origin (.link .t)) .malformed))
    ∧ ∀ g, p = .t → s.isUp .t = true → (s.port .t).greeting = some g → g.kind ≠ .module →
        let after := fun m : ManagementLink =>
          { State.reset with
            pending := s.pending
            pins := s.pins
            conditions := s.conditions.afterReset
            loader :=
              { state := .start .reading, pendingOpen := false,
                report :=
                  { cause := .trunkReset, outcome := none, executed := 0, refused := 0, firstRefused := none,
                    lostFetch := s.lostFetch } }
            management := m
            wire := s.wire ++ (Bay.all.filter fun b => s.isUp b.port).map fun b => .resetSymbol b.port }
        (s.hostHead = none → Happens (.resetSymbol p) s (after s.management))
        ∧ ∀ c h d left, s.management.running = some ⟨c, .awaitLane h d left⟩ →
            (s.management.mayEnter .response = true →
              Happens (.resetSymbol p) s
                (after
                  { s.management with
                    running := none
                    outgoing := s.management.outgoing ++ [c.response .notReady .empty]
                    last := some ⟨c.msg.seq, c.msg.check, c.response .notReady .empty⟩ }))
            ∧ (s.management.mayEnter .response = false →
              Happens (.resetSymbol p) s
                (after { s.management with running := some ⟨c, .answered (c.response .notReady .empty)⟩ })))
  ∧ (∀ k : ConditionUnit,
      let t := k.afterReset
      (∀ i c, c ∈ t.sets.get i ↔ c ∈ k.sets.get i ∧ c ∈ [.linkFailed, .malformed, .loadFailed, .spoiled])
      ∧ t.routingCapture = none ∧ t.exchangeCapture = none ∧ t.counters = ⟨0, 0, 0, 0⟩
      ∧ ∀ c, t.reporting.get c = ⟨⟨false, []⟩, false⟩)
  ∧ ∀ s : State,
      (∀ i n d, s.hostFetch = .gathering i n d → s.lostFetch = some (i, false))
      ∧ (∀ i n d st, s.hostFetch = .holding i n d st → s.lostFetch = some (i, true))
      ∧ (s.hostFetch = .empty → s.inStart = false → s.lostFetch = none)
      ∧ (s.hostFetch = .empty → s.inStart = true → s.lostFetch = s.loader.report.lostFetch)

/-! ## Chapter 7: conditions, captures and counters -/

/-- A detection latches its name in its set and in no other, marks the category when it went from clear to latched, the category is
enabled and the name is not masked, and fills an EMPTY capture of its category or counts one on a FULL one; PORT and INBOX conditions
have no capture (R140, R141, R148). A detection without fields, of the router-wide set or of a link's state, latches and marks likewise
and leaves captures, counters and settings alone (R62, R127, R131, R138, R140, R141, R172). Either changes nothing else of the state. -/
def Obligations.DetectionLatchesReportsAndCaptures : Prop :=
  (∀ (s : State) (i : SetId) (c : Condition),
    let t := s.latch i c
    (∀ j k, k ∈ t.latched j ↔ (j = i ∧ k = c) ∨ k ∈ s.latched j)
    ∧ (∀ k, t.notification.marks.get k =
        (s.notification.marks.get k
          || (k == c.category && !(s.latched i).contains c && (s.conditions.reporting.get c.category).value.enable
            && !(s.conditions.reporting.get c.category).value.masked.contains c)))
    ∧ t = { s with
          conditions := { s.conditions with sets := t.conditions.sets }
          notification := { s.notification with marks := t.notification.marks } })
  ∧ ∀ (s : State) (o : Origin) (c : Condition) (x : Subject),
    let t := s.detect o c x
    (∀ i k, k ∈ t.latched i ↔ (i = .origin o ∧ k = c) ∨ k ∈ s.latched i)
    ∧ (∀ k, t.notification.marks.get k =
        (s.notification.marks.get k
          || (k == c.category && !(s.latched (.origin o)).contains c && (s.conditions.reporting.get c.category).value.enable
            && !(s.conditions.reporting.get c.category).value.masked.contains c)))
    ∧ (c.category = .routing →
        t.conditions.routingCapture =
          some (match s.conditions.routingCapture with
            | none => ⟨o, c, x, 0⟩
            | some k => { k with later := min (k.later + 1) 65535 })
        ∧ t.conditions.exchangeCapture = s.conditions.exchangeCapture)
    ∧ (c.category = .exchange →
        t.conditions.exchangeCapture =
          some (match s.conditions.exchangeCapture with
            | none => ⟨o, c, x, 0⟩
            | some k => { k with later := min (k.later + 1) 65535 })
        ∧ t.conditions.routingCapture = s.conditions.routingCapture)
    ∧ (c.category = .port ∨ c.category = .inbox →
        t.conditions.routingCapture = s.conditions.routingCapture ∧ t.conditions.exchangeCapture = s.conditions.exchangeCapture)
    ∧ t = { s with
          conditions :=
            { s.conditions with
              sets := t.conditions.sets
              routingCapture := t.conditions.routingCapture
              exchangeCapture := t.conditions.exchangeCapture }
          notification := { s.notification with marks := t.notification.marks } }

/-- SET REPORTING writes one category's item whole, its masked names each once in the order of R138; a byte that names no category, one
that is no flag, and a masked name that is none of the category are BAD VALUE (R143); READ CONDITIONS answers one set and the settings;
CLEAR CONDITIONS with ALL empties one set and answers the names that were latched; a selector of no set is BAD VALUE (R145, R146).
CLEAR CONDITIONS with a list clears the names listed, answers those that were latched, and leaves the others; an empty list and a
name the set may not hold are BAD VALUE and clear nothing (R139, R146). -/
def Obligations.ConditionCommandResults : Prop :=
  ((∀ (m : HostMsg) (k e n : Byte) (items : List Byte) (cat : Category) (enable : Bool) (names : List Condition) (s : State),
      TakenOutsideStart s ⟨0x50, m⟩ → m.params = k :: e :: n :: items → items.length = n.toNat → Category.ofByte k = some cat →
      flagOfByte e = some enable → items.mapM Condition.ofByte = some names → (∀ c ∈ names, c.category = cat) →
        let old := s.conditions.reporting.get cat
        let x : Reporting := ⟨enable, inOrder names⟩
        ((old.fixed = true → old.value = x) →
          Answers (.setReporting m) s ⟨0x50, m⟩ .done .empty
            { s with conditions :=
              { s.conditions with reporting := s.conditions.reporting.set cat ⟨x, old.fixed⟩ } })
        ∧ (old.fixed = true → old.value ≠ x → Answers (.setReporting m) s ⟨0x50, m⟩ .fixed .empty s))
    ∧ (∀ (m : HostMsg) (k e n : Byte) (items : List Byte) (s : State), TakenOutsideStart s ⟨0x50, m⟩ →
        m.params = k :: e :: n :: items → items.length = n.toNat →
        (3 < k.toNat ∨ 1 < e.toNat
          ∨ ∃ cat b, Category.ofByte k = some cat ∧ b ∈ items ∧ ∀ c, Condition.ofByte b = some c → c.category ≠ cat) →
          Answers (.setReporting m) s ⟨0x50, m⟩ .badValue .empty s)
    ∧ (∀ (m : HostMsg) (sel : Byte) (s : State), TakenOutsideStart s ⟨0x52, m⟩ → m.params = [sel, 0xFF] → 8 < sel.toNat →
        Answers (.clearConditions m) s ⟨0x52, m⟩ .badValue .empty s)
    ∧ (∀ (m : HostMsg) (sel : Byte) (s : State), TakenOutsideStart s ⟨0x51, m⟩ → m.params = [sel] →
        (∀ i, SetId.ofByte sel = some i →
          Answers (.readConditions m) s ⟨0x51, m⟩ .done (.conditions (s.latched i) s.conditions.reporting) s)
        ∧ (8 < sel.toNat → Answers (.readConditions m) s ⟨0x51, m⟩ .badValue .empty s))
    ∧ ∀ (m : HostMsg) (sel : Byte) (i : SetId) (s : State), TakenOutsideStart s ⟨0x52, m⟩ → m.params = [sel, 0xFF] →
        SetId.ofByte sel = some i →
          Answers (.clearConditions m) s ⟨0x52, m⟩ .done (.names (s.latched i)) (s.setLatched i []))
  ∧ (∀ (m : HostMsg) (sel n : Byte) (items : List Byte) (i : SetId) (s : State), TakenOutsideStart s ⟨0x52, m⟩ →
      m.params = sel :: n :: items → items.length = n.toNat → SetId.ofByte sel = some i →
        (items = [] → n = 0 → Answers (.clearConditions m) s ⟨0x52, m⟩ .badValue .empty s)
        ∧ (∀ names, 1 ≤ items.length → items.length ≤ 21 → items.mapM Condition.ofByte = some names →
            ((∀ c ∈ names, i.mayHold c = true) →
              Answers (.clearConditions m) s ⟨0x52, m⟩ .done (.names ((s.latched i).filter fun c => names.contains c))
                (s.setLatched i ((s.latched i).filter fun c => !names.contains c)))
            ∧ ((∃ c ∈ names, i.mayHold c = false) → Answers (.clearConditions m) s ⟨0x52, m⟩ .badValue .empty s)))

/-- READ CAPTURE answers the record of ROUTING or EXCHANGE and keeps it; RELEASE CAPTURE empties it and answers the count it held,
and the next detection of the category fills it afresh; any other category is BAD VALUE. READ COUNTERS answers a group and, with the
clear flag on, sets it to 0 in the same act; a clear flag that is no flag is BAD VALUE (R149, R150, R153). -/
def Obligations.CapturesAndCounters : Prop :=
  (∀ (m : HostMsg) (s : State), TakenOutsideStart s ⟨0x53, m⟩ →
    (m.params = [1] → Answers (.readCapture m) s ⟨0x53, m⟩ .done (.capture s.conditions.routingCapture) s)
    ∧ (m.params = [2] → Answers (.readCapture m) s ⟨0x53, m⟩ .done (.capture s.conditions.exchangeCapture) s)
    ∧ (∀ b, m.params = [b] → b ≠ 1 → b ≠ 2 → Answers (.readCapture m) s ⟨0x53, m⟩ .badValue .empty s))
  ∧ (∀ (m : HostMsg) (s : State), TakenOutsideStart s ⟨0x54, m⟩ →
    (m.params = [1] →
      Answers (.releaseCapture m) s ⟨0x54, m⟩ .done (.released (s.conditions.routingCapture.map Capture.later))
        { s with conditions := { s.conditions with routingCapture := none } })
    ∧ (m.params = [2] →
        Answers (.releaseCapture m) s ⟨0x54, m⟩ .done (.released (s.conditions.exchangeCapture.map Capture.later))
          { s with conditions := { s.conditions with exchangeCapture := none } })
    ∧ (∀ b, m.params = [b] → b ≠ 1 → b ≠ 2 → Answers (.releaseCapture m) s ⟨0x54, m⟩ .badValue .empty s))
  ∧ (∀ (s : State) (o : Origin) (c : Condition) (x : Subject),
    (s.conditions.routingCapture = none → c.category = .routing →
      (s.detect o c x).conditions.routingCapture = some ⟨o, c, x, 0⟩)
    ∧ (s.conditions.exchangeCapture = none → c.category = .exchange →
        (s.detect o c x).conditions.exchangeCapture = some ⟨o, c, x, 0⟩))
  ∧ (∀ (m : HostMsg) (sel f : Byte) (s : State), TakenOutsideStart s ⟨0x55, m⟩ → m.params = [sel, f] → 1 < f.toNat →
      Answers (.readCounters m) s ⟨0x55, m⟩ .badValue .empty s)
  ∧ ∀ (m : HostMsg) (sel f : Byte) (clear : Bool) (s : State), TakenOutsideStart s ⟨0x55, m⟩ → m.params = [sel, f] →
      flagOfByte f = some clear →
        (∀ p, Port.ofByte sel = some p →
          Answers (.readCounters m) s ⟨0x55, m⟩ .done (.counters (s.port p).counters)
            (if clear then s.modPort p fun x => { x with counters := ⟨0, 0, 0, 0, 0⟩ } else s))
        ∧ (sel = 8 →
            Answers (.readCounters m) s ⟨0x55, m⟩ .done (.routerCounters s.conditions.counters)
              (if clear then { s with conditions := { s.conditions with counters := ⟨0, 0, 0, 0⟩ } } else s))
        ∧ (sel = 7 ∨ 8 < sel.toNat → Answers (.readCounters m) s ⟨0x55, m⟩ .badValue .empty s)

/-! ## Chapter 8: notification streams -/

/-- SET STREAMS grants 0, 1, 2 or 4 streams, clears every flag, keeps the mask of a stream that stays and starts a new one masked,
leaves the marks, and answers the report; above 8 is BAD VALUE, another granted count than a fixed one FIXED (R158, R159, R164). -/
def Obligations.SetStreamsRegroups : Prop :=
  ∀ (m : HostMsg) (n1 n0 : Byte) (s : State), TakenOutsideStart s ⟨0x60, m⟩ → m.params = [n1, n0] →
    let n := (word16 n1 n0).toNat
    let granted := if n = 0 then 0 else if n = 1 then 1 else if n = 2 then 2 else 4
    let u := s.notification
    (8 < n → Answers (.setStreams m) s ⟨0x60, m⟩ .badValue .empty s)
    ∧ (n ≤ 8 → u.countFixed = true → granted ≠ u.streams.length → Answers (.setStreams m) s ⟨0x60, m⟩ .fixed .empty s)
    ∧ (n ≤ 8 → (u.countFixed = true → granted = u.streams.length) →
        ∃ streams : List Stream, streams.length = granted
          ∧ (∀ (k : Nat) (x : Stream), streams[k]? = some x →
              x.awaiting = false ∧ x.masked = (match u.streams[k]? with | some y => y.masked | none => true))
          ∧ Answers (.setStreams m) s ⟨0x60, m⟩ .done (.streams { u with streams := streams }.report)
              { s with notification := { u with streams := streams } })

/-- ACK NOTIFY clears the flag of a stream that awaits, MASK STREAM and UNMASK STREAM write its mask, each answered DONE with the report
as it then stands; ACK NOTIFY of a stream that does not await is WRONG STATE, a stream that does not exist NO SUCH, one above 3 BAD
VALUE. A NOTIFY that ACK NOTIFY or UNMASK STREAM releases enters the outgoing queue by its own row, or, where that order is chosen and it
finds a place, before the response; where it took the last place, the response waits and the command stays in progress (R160, R161,
R162, R163, R164; the choice: log 15). -/
def Obligations.StreamCommandsWriteOneStream : Prop :=
  ∀ (m : HostMsg) (k : Byte) (s : State), m.params = [k] →
    let u := s.notification
    (∀ (x : Stream) (h : k.toNat < 4), u.streams[k.toNat]? = some x →
      let acked := { u with streams := u.streams.set k.toNat { x with awaiting := false } }
      let masked := { u with streams := u.streams.set k.toNat { x with masked := true } }
      let unmasked := { u with streams := u.streams.set k.toNat { x with masked := false } }
      let entered := fun n : NotificationUnit =>
        s.management.outgoing
          ++ [⟨0xFA, s.management.unsolicited, .notify n.streams.length ⟨k.toNat, h⟩ (n.marked k.toNat)⟩]
      let notified := fun (n : NotificationUnit) (c : Message) =>
        { s with
          notification := n.sent k.toNat
          management :=
            { s.management with
              receiveQueue := s.management.receiveQueue.tail
              outgoing := entered n ++ [c.response .done (.streams n.report)]
              unsolicited := s.management.unsolicited + 1
              last := some ⟨m.seq, m.check, c.response .done (.streams n.report)⟩ } }
      let crowded := fun (n : NotificationUnit) (c : Message) =>
        { s with
          notification := n.sent k.toNat
          management :=
            { s.management with
              receiveQueue := s.management.receiveQueue.tail
              outgoing := entered n
              unsolicited := s.management.unsolicited + 1
              running := some ⟨c, .answered (c.response .done (.streams n.report))⟩ } }
      let released := fun n : NotificationUnit =>
        n.ready k.toNat = true ∧ s.management.mayEnter (.notify ⟨k.toNat, h⟩) = true
      (TakenOutsideStart s ⟨0x61, m⟩ → ∀ first,
        (x.awaiting = false → Answers (.ackNotify m first) s ⟨0x61, m⟩ .wrongState .empty s)
        ∧ (x.awaiting = true →
            (first = false ∨ ¬released acked →
              Answers (.ackNotify m first) s ⟨0x61, m⟩ .done (.streams acked.report) { s with notification := acked })
            ∧ (first = true → released acked →
                (s.management.outgoing.length + 2 < 8 → Effect (.ackNotify m first) s (notified acked ⟨0x61, m⟩))
                ∧ (s.management.outgoing.length = 6 → Effect (.ackNotify m first) s (crowded acked ⟨0x61, m⟩)))))
      ∧ (TakenOutsideStart s ⟨0x62, m⟩ →
          Answers (.maskStream m) s ⟨0x62, m⟩ .done (.streams masked.report) { s with notification := masked })
      ∧ (TakenOutsideStart s ⟨0x63, m⟩ → ∀ first,
          (first = false ∨ ¬released unmasked →
            Answers (.unmaskStream m first) s ⟨0x63, m⟩ .done (.streams unmasked.report) { s with notification := unmasked })
          ∧ (first = true → released unmasked →
              (s.management.outgoing.length + 2 < 8 → Effect (.unmaskStream m first) s (notified unmasked ⟨0x63, m⟩))
              ∧ (s.management.outgoing.length = 6 → Effect (.unmaskStream m first) s (crowded unmasked ⟨0x63, m⟩)))))
    ∧ (3 < k.toNat →
        (TakenOutsideStart s ⟨0x61, m⟩ → ∀ first, Answers (.ackNotify m first) s ⟨0x61, m⟩ .badValue .empty s)
        ∧ (TakenOutsideStart s ⟨0x62, m⟩ → Answers (.maskStream m) s ⟨0x62, m⟩ .badValue .empty s)
        ∧ (TakenOutsideStart s ⟨0x63, m⟩ → ∀ first, Answers (.unmaskStream m first) s ⟨0x63, m⟩ .badValue .empty s))
    ∧ (k.toNat ≤ 3 → u.streams.length ≤ k.toNat →
        (TakenOutsideStart s ⟨0x61, m⟩ → ∀ first, Answers (.ackNotify m first) s ⟨0x61, m⟩ .noSuch .empty s)
        ∧ (TakenOutsideStart s ⟨0x62, m⟩ → Answers (.maskStream m) s ⟨0x62, m⟩ .noSuch .empty s)
        ∧ (TakenOutsideStart s ⟨0x63, m⟩ → ∀ first, Answers (.unmaskStream m first) s ⟨0x63, m⟩ .noSuch .empty s))

/-! ## Chapter 9: start-up, load and router states -/

/-- LOAD IMAGE READ: no acknowledge of the device address gives ABSENT without a condition; a failed later test gives BAD IMAGE and
latches LOAD_FAILED router-wide; an image with no record goes to its end GOOD, one with records is replayed from record 1 (R172). That
one row carries the whole reading, and `wire` shows its first read alone, is the model's choice (log 22).
An image laid out as R199 gives, of at most 64 records and 4096 bytes, reads back as its records, whatever follows it; one that is cut
short, has another marker, a count above 64, a total length above 4096, a check that does not match its records area, or an area that as
many records as its count do not fill exactly, is none (R172, R199). -/
def Obligations.LoadImageReadByTest : Prop :=
  let area := fun rs : List LoadRecord => rs.flatMap fun r => r.flag :: nat16 r.body.length ++ r.body
  (∀ (rs : List LoadRecord) (more : List Byte), rs.length ≤ 64 → (area rs).length ≤ 4096 → (∀ r ∈ rs, 1 ≤ r.body.length) →
    parseImage
        ([0x5A, 0x7E] ++ nat16 rs.length ++ nat16 (area rs).length ++ bytes16 (crc16 (area rs)) ++ area rs ++ more)
      = some rs)
  ∧ (∀ bytes : List Byte, bytes.length < 8 → parseImage bytes = none)
  ∧ (∀ (m1 m0 n1 n0 l1 l0 c1 c0 : Byte) (rest : List Byte),
      let count := (word16 n1 n0).toNat
      let total := (word16 l1 l0).toNat
      (word16 m1 m0 ≠ 0x5A7E ∨ 64 < count ∨ 4096 < total ∨ rest.length < total ∨ crc16 (rest.take total) ≠ word16 c1 c0
          ∨ (∀ rs : List LoadRecord, rs.length = count → (∀ r ∈ rs, 1 ≤ r.body.length ∧ r.body.length < 65536) →
              area rs ≠ rest.take total)) →
        parseImage (m1 :: m0 :: n1 :: n0 :: l1 :: l0 :: c1 :: c0 :: rest) = none)
  ∧ ∀ (r : ImageRead) (s : State), s.loader.state = .start .reading →
    let read := { s with wire := s.wire ++ [.memoryRead 0x51 0] }
    let go := fun (ph : LoadPhase) (t : State) => { t with loader := { s.loader with state := .start ph } }
    (r.deviceAck = false → Happens (.loadImageRead r) s (go (.offering .absent) read))
    ∧ (r.deviceAck = true → (r.allAck = false ∨ parseImage r.bytes = none) →
        Happens (.loadImageRead r) s (go (.offering .badImage) (read.latch .router .loadFailed)))
    ∧ (r.deviceAck = true → r.allAck = true → parseImage r.bytes = some [] →
        Happens (.loadImageRead r) s (go (.offering .good) read))
    ∧ (∀ x rest, r.deviceAck = true → r.allAck = true → parseImage r.bytes = some (x :: rest) →
        Happens (.loadImageRead r) s (go (.replaying 1 (x :: rest)) read))

/-- LOAD RECORD: a record is put to the tests of R173; taken, its command has its effect and records executed rises; refused, nothing
else changes, count refused rises, and the first refusal's index and status are kept. After the last record the outcome is GOOD when
none was refused, PARTIAL otherwise (R173, R176, R177).
The tests of a load record, in order: a flag byte other than 00h and 01h is BAD VALUE, an unknown kind BAD KIND, a kind not allowed in
a load NOT IN LOAD, parameters of a length the command does not require BAD LENGTH; a record with the fix attribute that is taken
writes its item and sets the item's mark, whatever its kind, and it is taken just where the record without it is; OPEN ROUTING needs
an own station and no earlier one; after a taken OPEN ROUTING record SET STATION 0 is WRONG STATE, as while FORWARDING, and before it
is taken.
Whatever refuses a record, it changes nothing (R173, R174, R175). A record without the attribute, of any kind that sets a
configuration item but SET LINK, does what the host's command of that kind does: the same status, refusals included, and the same
state, the router taken as FORWARDING once the pending-open mark is set; SET LINK is said in full, with and without the attribute. -/
def Obligations.LoadRecords : Prop :=
  (∀ (index : Nat) (r : LoadRecord) (rest : List LoadRecord) (s : State), s.loader.state = .start (.replaying index (r :: rest)) →
      let reply := runRecord r s
      let go := fun (report : LoadReport) (t : State) =>
        { t with
          loader :=
            { t.loader with
              state :=
                .start (match rest with
                  | [] => .offering (if report.refused = 0 then .good else .partly)
                  | x :: xs => .replaying (index + 1) (x :: xs))
              report := report } }
      (reply.status = .done →
        Happens .loadRecord s
          (go { reply.state.loader.report with executed := reply.state.loader.report.executed + 1 } reply.state))
      ∧ (reply.status ≠ .done →
          Happens .loadRecord s
            (go
              { s.loader.report with
                refused := s.loader.report.refused + 1
                firstRefused :=
                  match s.loader.report.firstRefused with
                  | some x => some x
                  | none => some (index, reply.status) }
              s)))
  ∧ (∀ (r : LoadRecord) (s : State), (runRecord r s).status ≠ .done → (runRecord r s).state = s)
  ∧ (∀ (flag kind : Byte) (params : List Byte) (s : State),
      (flag ≠ 0 → flag ≠ 1 → runRecord ⟨flag, kind :: params⟩ s = ⟨s, .badValue, .empty⟩)
      ∧ (flag = 0 ∨ flag = 1 → isCommandKind kind = false → runRecord ⟨flag, kind :: params⟩ s = ⟨s, .badKind, .empty⟩)
      ∧ (flag = 0 ∨ flag = 1 → isCommandKind kind = true →
          kind ∉ [0x10, 0x11, 0x12, 0x13, 0x14, 0x15, 0x30, 0x31, 0x38, 0x40, 0x50, 0x60, 0x72] →
            runRecord ⟨flag, kind :: params⟩ s = ⟨s, .notInLoad, .empty⟩)
      ∧ (flag = 0 ∨ flag = 1 →
          (∀ length : Nat,
            (kind, length) ∈ [(0x10, 1), (0x11, 3), (0x12, 10), (0x13, 10), (0x14, 3), (0x15, 2), (0x30, 3), (0x31, 4), (0x38, 2),
              (0x40, 4), (0x60, 2), (0x72, 0)] → params.length ≠ length →
                runRecord ⟨flag, kind :: params⟩ s = ⟨s, .badLength, .empty⟩)
          ∧ (kind = 0x50 → (params.length < 3 ∨ ∃ c e n items, params = c :: e :: n :: items ∧ items.length ≠ n.toNat) →
              runRecord ⟨flag, kind :: params⟩ s = ⟨s, .badLength, .empty⟩))
      ∧ (∀ st, flag = 1 → kind = 0x10 → params = [st] → st ≠ 255 → st ≠ 0 → s.routes.ownStation.fixed = false →
          (∀ b, (s.routes.bays.get b).range.value.holds st = false) →
            runRecord ⟨flag, kind :: params⟩ s
              = ⟨{ s with routes := { s.routes with ownStation := ⟨st, true⟩ } }, .done, .empty⟩)
      ∧ (flag = 1 → (runRecord ⟨flag, kind :: params⟩ s).status = (runRecord ⟨0, kind :: params⟩ s).status)
      ∧ (flag = 1 → (runRecord ⟨flag, kind :: params⟩ s).status = .done →
          let t := (runRecord ⟨flag, kind :: params⟩ s).state
          let u := (runRecord ⟨0, kind :: params⟩ s).state
          (∀ b f l bay, kind = 0x11 → params = [b, f, l] → Bay.ofByte b = some bay →
            t = { s with routes :=
                  { s.routes with
                    bays := s.routes.bays.set bay { s.routes.bays.get bay with range := ⟨⟨f, l⟩, true⟩ } } })
          ∧ (∀ b k b3 b2 b1 b0 l3 l2 l1 l0 bay w, kind = 0x12 → params = [b, k, b3, b2, b1, b0, l3, l2, l1, l0] →
              Bay.ofByte b = some bay → WindowKind.ofByte k = some w →
                t = { s with routes :=
                      { s.routes with
                        bays := s.routes.bays.set bay
                          ((s.routes.bays.get bay).setWindow w ⟨⟨word32 b3 b2 b1 b0, word32 l3 l2 l1 l0⟩, true⟩) } })
          ∧ (∀ b3 b2 b1 b0 l3 l2 l1 l0 b f bay on, kind = 0x13 → params = [b3, b2, b1, b0, l3, l2, l1, l0, b, f] →
              Bay.ofByte b = some bay → flagOfByte f = some on →
                t = { s with routes :=
                      { s.routes with directed := ⟨⟨word32 b3 b2 b1 b0, word32 l3 l2 l1 l0, bay, on⟩, true⟩ } })
          ∧ (∀ b up pe bay upstream peer, kind = 0x14 → params = [b, up, pe] → Bay.ofByte b = some bay →
              flagOfByte up = some upstream → flagOfByte pe = some peer →
                t = { s with routes :=
                      { s.routes with
                        bays := s.routes.bays.set bay
                          { s.routes.bays.get bay with permits := ⟨⟨upstream, peer⟩, true⟩ } } })
          ∧ (∀ p d port drop, kind = 0x15 → params = [p, d] → Port.ofByte p = some port → flagOfByte d = some drop →
              t = { s with routes := { s.routes with dropSpoiled := s.routes.dropSpoiled.set port ⟨drop, true⟩ } })
          ∧ (∀ p n1 n0 port, kind = 0x30 → params = [p, n1, n0] → Port.ofByte p = some port →
              t = { s with exchange :=
                    { s.exchange with quotas := s.exchange.quotas.set port ⟨(word16 n1 n0).toNat, true⟩ } })
          ∧ (∀ t1 t0 q1 q0, kind = 0x31 → params = [t1, t0, q1, q0] →
              t = { s with exchange :=
                    { s.exchange with timers := ⟨⟨(word16 t1 t0).toNat, (word16 q1 q0).toNat⟩, true⟩ } })
          ∧ (∀ l1 l0, kind = 0x38 → params = [l1, l0] → t = { s with stallLimit := ⟨(word16 l1 l0).toNat, true⟩ })
          ∧ (∀ k e n items cat, kind = 0x50 → params = k :: e :: n :: items → Category.ofByte k = some cat →
              (t.conditions.reporting.get cat).fixed = true
              ∧ t = { s with conditions :=
                      { s.conditions with
                        reporting := s.conditions.reporting.set cat ⟨(u.conditions.reporting.get cat).value, true⟩ } })
          ∧ (kind = 0x60 → t = { u with notification := { u.notification with countFixed := true } })
          ∧ (kind = 0x72 → t = u))
      ∧ (flag = 0 ∨ flag = 1 → kind = 0x10 → params = [0] → s.routes.ownStation.fixed = false →
          (s.loader.pendingOpen = true → runRecord ⟨flag, kind :: params⟩ s = ⟨s, .wrongState, .empty⟩)
          ∧ (s.loader.pendingOpen = false →
              runRecord ⟨flag, kind :: params⟩ s
                = ⟨{ s with routes := { s.routes with ownStation := ⟨0, decide (flag = 1)⟩ } }, .done, .empty⟩))
      ∧ (flag = 0 ∨ flag = 1 → kind = 0x40 → ∀ p e m1 m0, params = [p, e, m1, m0] →
          (6 < p.toNat ∨ 1 < e.toNat → runRecord ⟨flag, kind :: params⟩ s = ⟨s, .badValue, .empty⟩)
          ∧ ∀ port enable, Port.ofByte p = some port → flagOfByte e = some enable →
            let x : LinkSettings := ⟨enable, (word16 m1 m0).toNat⟩
            let old := (s.port port).settings
            let wrote := s.modPort port fun z => { z with settings := ⟨x, old.fixed || decide (flag = 1)⟩ }
            let taken := fun (t : State) (l : LinkName) => runRecord ⟨flag, kind :: params⟩ s = ⟨t, .done, .linkState l⟩
            (x.max ∈ [64, 128, 256, 512, 1024] → (old.fixed = true → old.value = x) →
              ((s.port port).link = .disabled → enable = true →
                taken (wrote.modPort port fun z => { z with link := .down (some 1), attempts := 0 }) .down)
              ∧ (s.isUp port = true → enable = false → taken (wrote.leaveUp port .disabled .disable) .disabled)
              ∧ (s.isUp port = false → (s.port port).link ≠ .disabled → enable = false →
                  taken (wrote.modPort port fun z => { z with link := .disabled, attempts := 0 }) .disabled)
              ∧ (((s.port port).link ≠ .disabled ∧ enable = true) ∨ ((s.port port).link = .disabled ∧ enable = false) →
                  taken wrote (s.port port).link.name))
            ∧ (x.max ∉ [64, 128, 256, 512, 1024] → runRecord ⟨flag, kind :: params⟩ s = ⟨s, .badValue, .empty⟩)
            ∧ (x.max ∈ [64, 128, 256, 512, 1024] → old.fixed = true → old.value ≠ x →
                runRecord ⟨flag, kind :: params⟩ s = ⟨s, .fixed, .empty⟩))
      ∧ (∀ st, flag = 0 → kind = 0x10 → params = [st] → st ≠ 255 → st ≠ 0 → s.routes.ownStation.fixed = false →
          (∀ b, (s.routes.bays.get b).range.value.holds st = false) → s.loader.pendingOpen = true →
            runRecord ⟨flag, kind :: params⟩ s
              = ⟨{ s with routes := { s.routes with ownStation := ⟨st, false⟩ } }, .done, .empty⟩)
      ∧ (flag = 0 ∨ flag = 1 → kind = 0x72 → params = [] →
          (s.routes.ownStation.value ≠ 0 → s.loader.pendingOpen = false →
            runRecord ⟨flag, kind :: params⟩ s = ⟨{ s with loader := { s.loader with pendingOpen := true } }, .done, .empty⟩)
          ∧ (s.routes.ownStation.value = 0 ∨ s.loader.pendingOpen = true →
              runRecord ⟨flag, kind :: params⟩ s = ⟨s, .wrongState, .empty⟩)))
  ∧ ∀ (i : Instr) (kind : Byte) (m : HostMsg) (s : State) (l : Loader), i.message = some (kind, m) →
      (∀ k n, i ≠ .badKindMessage k n) → kind ∈ [0x10, 0x11, 0x12, 0x13, 0x14, 0x15, 0x30, 0x31, 0x38, 0x50, 0x60] →
      TakenOutsideStart s ⟨kind, m⟩ → l.pendingOpen = s.isForwarding →
        let reply := runRecord ⟨0, kind :: m.params⟩ { s with loader := l }
        Answers i s ⟨kind, m⟩ reply.status reply.values { reply.state with loader := s.loader }
        ∧ reply.state.loader = l ∧ reply.state.management = s.management

/-- RESTARTED enters the outgoing queue while it holds fewer than 8 and no response of a command in progress waits; START ends in
FORWARDING when the pending-open mark is set and in CONFIGURING otherwise, the mark is cleared, the message takes the next unsolicited
sequence, and the report keeps its values but the lost host fetch (R176, R177, R178, R179, R190). -/
def Obligations.RestartedEndsStart : Prop :=
  ∀ (o : LoadOutcome) (s : State), s.loader.state = .start (.offering o) → s.management.outgoing.length < 8 →
    s.management.running = none →
      let report := { s.loader.report with outcome := some o }
      Happens .restarted s
        { s with
          loader :=
            { state := if s.loader.pendingOpen then .forwarding else .configuring
              pendingOpen := false
              report := { report with lostFetch := none } }
          management :=
            { s.management with
              outgoing :=
                s.management.outgoing
                  ++ [⟨0xFC, s.management.unsolicited,
                    .restarted report (if s.loader.pendingOpen then .forwarding else .configuring)⟩]
              unsolicited := s.management.unsolicited + 1 } }

/-- RESET ROUTER answers DONE and in the same act takes the command reset: every block but the management link at its values after reset,
sticky conditions kept, no RESET symbol, START with cause COMMAND RESET (R137, R154, R170, R171). What it keeps of the conditions: in
each set LINK_FAILED, MALFORMED, LOAD_FAILED and SPOILED as they stand and no other name; captures EMPTY, counters 0, reporting off with
no name masked and no mark (R144, R154). The lost host fetch: the tag and the state of a buffer not EMPTY, else none (R177). -/
def Obligations.ResetRouterTakesTheCommandReset : Prop :=
  (∀ (m : HostMsg) (s : State), TakenOutsideStart s ⟨0x70, m⟩ → m.params = [] →
    Answers (.resetRouter m) s ⟨0x70, m⟩ .done .empty
      { State.reset with
        pending := s.pending
        pins := s.pins
        conditions := s.conditions.afterReset
        loader :=
          { state := .start .reading, pendingOpen := false,
            report :=
              { cause := .commandReset, outcome := none, executed := 0, refused := 0, firstRefused := none,
                lostFetch := s.lostFetch } }
        wire := s.wire })
  ∧ (∀ k : ConditionUnit,
      let t := k.afterReset
      (∀ i c, c ∈ t.sets.get i ↔ c ∈ k.sets.get i ∧ c ∈ [.linkFailed, .malformed, .loadFailed, .spoiled])
      ∧ t.routingCapture = none ∧ t.exchangeCapture = none ∧ t.counters = ⟨0, 0, 0, 0⟩
      ∧ ∀ c, t.reporting.get c = ⟨⟨false, []⟩, false⟩)
  ∧ ∀ s : State,
      (∀ i n d, s.hostFetch = .gathering i n d → s.lostFetch = some (i, false))
      ∧ (∀ i n d st, s.hostFetch = .holding i n d st → s.lostFetch = some (i, true))
      ∧ (s.hostFetch = .empty → s.inStart = false → s.lostFetch = none)
      ∧ (s.hostFetch = .empty → s.inStart = true → s.lostFetch = s.loader.report.lostFetch)

/-- OPEN ROUTING takes CONFIGURING to FORWARDING when the own station is not 0, else WRONG STATE; CLOSE ROUTING takes FORWARDING to
CONFIGURING and decides the waiting link heads again, in CONFIGURING it is WRONG STATE; with parameters each is BAD LENGTH, in START
NOT READY, and CLOSE ROUTING in a load image NOT IN LOAD; READ LOAD REPORT answers router state and report in every state (R57, R179,
R180, R181). A link head that waits for a lane is decided again as refused NOT READY: NOT_READY_DROP is latched, a STORE or NOTICE is
dropped and the heads behind it taken up, a FETCH goes on to AWAIT ANSWER SLOT, its stall timer running on, where its own answer lane
is full (where it has room: RefusedFetchIsAnswered); with one head waiting, nothing else happens (R54, R55, R57, R60). Where several
wait, the order in which they are decided again is the model's choice (log 29). -/
def Obligations.RoutingOpenedClosedAndReportRead : Prop :=
  (∀ (m : HostMsg) (s : State),
    (TakenOutsideStart s ⟨0x72, m⟩ →
      (m.params ≠ [] → Answers (.openRouting m) s ⟨0x72, m⟩ .badLength .empty s)
      ∧ (m.params = [] → s.loader.state = .configuring → s.routes.ownStation.value ≠ 0 →
          Answers (.openRouting m) s ⟨0x72, m⟩ .done .empty { s with loader := { s.loader with state := .forwarding } })
      ∧ (m.params = [] → s.loader.state = .configuring → s.routes.ownStation.value = 0 →
          Answers (.openRouting m) s ⟨0x72, m⟩ .wrongState .empty s)
      ∧ (m.params = [] → s.loader.state = .forwarding → Answers (.openRouting m) s ⟨0x72, m⟩ .wrongState .empty s))
    ∧ (Taken s ⟨0x72, m⟩ → s.inStart = true → Answers (.openRouting m) s ⟨0x72, m⟩ .notReady .empty s))
  ∧ (∀ (m : HostMsg) (s : State),
    (TakenOutsideStart s ⟨0x73, m⟩ →
      (m.params ≠ [] → Answers (.closeRouting m) s ⟨0x73, m⟩ .badLength .empty s)
      ∧ (m.params = [] → s.loader.state = .forwarding →
          Effect (.closeRouting m) s
            (State.answer ⟨0x73, m⟩ .done .empty
              (State.redecideAll { s.taken with loader := { s.loader with state := .configuring } })))
      ∧ (m.params = [] → s.loader.state = .configuring → Answers (.closeRouting m) s ⟨0x73, m⟩ .wrongState .empty s))
    ∧ (Taken s ⟨0x73, m⟩ → s.inStart = true → Answers (.closeRouting m) s ⟨0x73, m⟩ .notReady .empty s))
  ∧ (∀ flag params t, (flag = 0 ∨ flag = 1) → runRecord ⟨flag, 0x73 :: params⟩ t = ⟨t, .notInLoad, .empty⟩)
  ∧ (∀ s : State, (∀ p l d, (s.port p).requestWait ≠ some (.lane l d)) → s.redecideAll = s)
  ∧ (∀ (p : Port) (s : State), s.isForwarding = false →
      (∀ q d left, q ≠ p → (s.port q).requestWait ≠ some (.lane d left)) →
        s.redecideAll = s.redecideLink p .notReady .notReadyDrop)
  ∧ (∀ (p d : Port) (left : Nat) (r : Request Byte) (rest : List (Request Byte)) (s : State),
      (s.port p).requestWait = some (.lane d left) → (s.port p).requests = r :: rest →
        let told := s.detect (.link p) .notReadyDrop r.subject
        let dropped :=
          (told.modPort p fun x =>
            { x with
              requests := rest
              requestWait := none
              owed := if s.isUp p then x.owed.set .request (x.owed.request + 1) else x.owed
              counters := { x.counters with dropped := x.counters.dropped + 1 } }).serveRequests p
        (∀ a b sp, r = .store a b sp → s.redecideLink p .notReady .notReadyDrop = dropped)
        ∧ (∀ t f c b sp, r = .notice t f c b sp → s.redecideLink p .notReady .notReadyDrop = dropped)
        ∧ ∀ a n tag sp, r = .fetch a n tag sp → 8 ≤ (s.port p).answerLane.length →
            s.redecideLink p .notReady .notReadyDrop
              = told.modPort p fun x => { x with requestWait := some (.answerSlot .notReady left) })
  ∧ ∀ (m : HostMsg) (s : State), Taken s ⟨0x71, m⟩ →
      (m.params = [] → Answers (.readLoadReport m) s ⟨0x71, m⟩ .done (.loadReport s.loader.state.name s.loader.report) s)
      ∧ (m.params ≠ [] → Answers (.readLoadReport m) s ⟨0x71, m⟩ .badLength .empty s)

/-! ## Chapter 10: management link -/

/-- IDENTIFY without parameters answers DONE with the identity values in every router state, with parameters BAD LENGTH; it changes
nothing; in a load image it is NOT IN LOAD (R192). The widths of the values' bytes, two each and one for the revision, are the model's
reading of R195 (log 18). -/
def Obligations.IdentifyAnswersInEveryState : Prop :=
  ∀ (m : HostMsg) (s : State), Taken s ⟨0x01, m⟩ →
    (m.params = [] → Answers (.identify m) s ⟨0x01, m⟩ .done .identity s)
    ∧ (m.params ≠ [] → Answers (.identify m) s ⟨0x01, m⟩ .badLength .empty s)
    ∧ Values.identity.bytes = [0x3A, 0x5C, 0x0F, 0x07, 0x01, 0, 7, 0, 64, 0, 16, 0, 4]
    ∧ ∀ flag params t, (flag = 0 ∨ flag = 1) → runRecord ⟨flag, 0x01 :: params⟩ t = ⟨t, .notInLoad, .empty⟩

/-- ECHO answers DONE with its parameter bytes, more than 4157 are BAD LENGTH; in START it is NOT READY; in a load image NOT IN LOAD; it
changes nothing, and sent again with the same sequence and check it is answered from memory (R187, R193). -/
def Obligations.EchoReturnsItsBytes : Prop :=
  ∀ (m : HostMsg) (s : State), Taken s ⟨0x02, m⟩ →
    (s.inStart = false → m.params.length ≤ 4157 →
      Answers (.echo m) s ⟨0x02, m⟩ .done (.echoed m.params) s ∧ (Values.echoed m.params).bytes = m.params)
    ∧ (s.inStart = false → 4157 < m.params.length → Answers (.echo m) s ⟨0x02, m⟩ .badLength .empty s)
    ∧ (s.inStart = true → Answers (.echo m) s ⟨0x02, m⟩ .notReady .empty s)
    ∧ (∀ flag params t, (flag = 0 ∨ flag = 1) → runRecord ⟨flag, 0x02 :: params⟩ t = ⟨t, .notInLoad, .empty⟩)
    ∧ ∀ t response, t.pins.porn = true → t.management.running = none → t.management.mayEnter .response = true →
        t.management.receiveQueue.head? = some ⟨0x02, m⟩ → t.management.last = some ⟨m.seq, m.check, response⟩ →
          Effect (.echo m) t
            { t with management :=
              { t.management with
                receiveQueue := t.management.receiveQueue.tail
                outgoing := t.management.outgoing ++ [response] } }

/-- In START every command but IDENTIFY and READ LOAD REPORT is answered NOT READY and changes nothing (R167, R186).
A message whose kind is no command kind is answered BAD KIND with response kind FFh and its own sequence, in every router state (R186,
R202).
A command whose sequence and check both equal those in the last response memory is not run: the stored response enters the outgoing
queue again and the memory is left as it was (R186, R187).
A command taken whose parameters do not have the length it requires is answered BAD LENGTH and changes nothing, whichever command it
is (R170, R186, R195): they must be readable field by field, no byte missing and none left over. PROBE ROUTE carries its address and
length, or its station, each as a field that may be absent; which of them a request and a notice carry is the model's reading (log
19). -/
def Obligations.TestsBeforeACommandRuns : Prop :=
  (∀ (i : Instr) (kind : Byte) (m : HostMsg) (s : State), i.message = some (kind, m) → isCommandKind kind = true →
      (∀ k n, i ≠ .badKindMessage k n) → kind ≠ 0x01 → kind ≠ 0x71 → Taken s ⟨kind, m⟩ → s.inStart = true →
        Answers i s ⟨kind, m⟩ .notReady .empty s)
  ∧ (∀ (kind : Byte) (m : HostMsg) (s : State), isCommandKind kind = false → Taken s ⟨kind, m⟩ →
      Answers (.badKindMessage kind m) s ⟨kind, m⟩ .badKind .empty s
      ∧ (Message.response ⟨kind, m⟩ .badKind .empty).kind = 0xFF
      ∧ (Message.response ⟨kind, m⟩ .badKind .empty).seq = m.seq)
  ∧ (∀ (i : Instr) (kind : Byte) (m : HostMsg) (s : State) (response : OutMessage), i.message = some (kind, m) →
      (∀ k n, i = .badKindMessage k n → isCommandKind k = false) → s.pins.porn = true → s.management.running = none →
      s.management.mayEnter .response = true → s.management.receiveQueue.head? = some ⟨kind, m⟩ →
      s.management.last = some ⟨m.seq, m.check, response⟩ →
        Effect i s
          { s with management :=
            { s.management with
              receiveQueue := s.management.receiveQueue.tail
              outgoing := s.management.outgoing ++ [response] } })
  ∧ ∀ (i : Instr) (kind : Byte) (m : HostMsg) (s : State), i.message = some (kind, m) → (∀ k n, i ≠ .badKindMessage k n) →
      Taken s ⟨kind, m⟩ → (s.inStart = false ∨ kind = 0x01 ∨ kind = 0x71) →
        let wrong := Answers i s ⟨kind, m⟩ .badLength .empty s
        let optional := fun (n : Nat) (field : List Byte) => field = [0] ∨ ∃ bytes : List Byte, bytes.length = n ∧ field = 1 :: bytes
        (∀ length : Nat,
          (kind, length) ∈
              [(0x01, 0), (0x10, 1), (0x11, 3), (0x12, 10), (0x13, 10), (0x14, 3), (0x15, 2), (0x16, 1), (0x20, 2), (0x30, 3),
                (0x31, 4), (0x32, 1), (0x33, 6), (0x34, 1), (0x38, 2), (0x39, 1), (0x40, 4), (0x41, 1), (0x42, 1), (0x43, 1),
                (0x44, 1), (0x51, 1), (0x53, 1), (0x54, 1), (0x55, 2), (0x60, 2), (0x61, 1), (0x62, 1), (0x63, 1), (0x70, 0),
                (0x71, 0), (0x72, 0), (0x73, 0)] →
            m.params.length ≠ length → wrong)
        ∧ (kind = 0x02 → 4157 < m.params.length → wrong)
        ∧ (kind = 0x17 →
            (m.params.length < 2
              ∨ ∃ x k rest, m.params = x :: k :: rest
                ∧ ((k = 0 ∧ ∀ a3 a2 a1 a0 n1 n0, rest ≠ [1, a3, a2, a1, a0, 1, n1, n0, 0])
                  ∨ (k = 1 ∧ ∀ st, rest ≠ [0, 0, 1, st])
                  ∨ (1 < k.toNat ∧ ∀ a n st, optional 4 a → optional 2 n → optional 1 st → rest ≠ a ++ n ++ st))) →
              wrong)
        ∧ (kind = 0x21 →
            (m.params.length < 7
              ∨ ∃ a3 a2 a1 a0 n1 n0 rest, m.params = a3 :: a2 :: a1 :: a0 :: n1 :: n0 :: rest
                ∧ rest.length ≠ (word16 n1 n0).toNat + 1) →
              wrong)
        ∧ (kind = 0x22 → m.params.length < 3 → wrong)
        ∧ (kind = 0x50 →
            (m.params.length < 3 ∨ ∃ c e n items, m.params = c :: e :: n :: items ∧ items.length ≠ n.toNat) → wrong)
        ∧ (kind = 0x52 →
            (m.params.length < 2
              ∨ ∃ sel n items, m.params = sel :: n :: items ∧ items.length ≠ n.toNat ∧ (n ≠ 0xFF ∨ items ≠ [])) →
              wrong)

/-- The receiver. A good message met while hunting enters the receive queue; with the queue full it is answered BUSY when the outgoing
queue has room, else discarded, and counted (R183, R185; which room is left for it: log 16; its response kind: log 17). A message whose
check fails raises the framing errors counter by one, and the bytes after its start byte are examined again as hunted bytes (R183).
While hunting every byte but a start byte is discarded; while gathering, the bytes go on from those taken (R183; how many bytes one row
carries: log 24). A start byte begins to gather, a length out of range ends it uncounted, and a start byte among the two length bytes
begins anew (R183). Once more than 5 ms have passed since the last byte the message is abandoned, uncounted, and the receiver hunts
(R184; the clock: log 5). MESSAGE RECEIVE answers a next state whatever the bytes. -/
def Obligations.ReceiverTakesMessages : Prop :=
  (∀ (kind : Byte) (m : HostMsg) (s : State), s.management.gathered = none → m.good kind = true →
    (s.management.receiveQueue.length < 4 →
      Happens (.messageReceive (m.envelope kind)) s
        { s with management := { s.management with receiveQueue := s.management.receiveQueue ++ [⟨kind, m⟩] } })
    ∧ (4 ≤ s.management.receiveQueue.length → s.management.busyRoom = true →
        Happens (.messageReceive (m.envelope kind)) s
          { s with
            management :=
              { s.management with outgoing := s.management.outgoing ++ [Message.response ⟨kind, m⟩ .busy .empty] }
            conditions :=
              { s.conditions with
                counters :=
                  { s.conditions.counters with busyAnswers := s.conditions.counters.busyAnswers + 1 } } })
    ∧ (4 ≤ s.management.receiveQueue.length → s.management.busyRoom = false →
        Happens (.messageReceive (m.envelope kind)) s
          { s with
            conditions :=
              { s.conditions with
                counters := { s.conditions.counters with discarded := s.conditions.counters.discarded + 1 } } }))
  ∧ (∀ (hi lo c1 c0 : Byte) (body : List Byte) (s : State), s.pins.porn = true → s.management.gathered = none →
      lengthOutOfRange hi lo = false → body.length = (word16 hi lo).toNat → crc16 (hi :: lo :: body) ≠ word16 c1 c0 →
        let after := hi :: lo :: body ++ [c1, c0]
        let counted :=
          { s with
            conditions :=
              { s.conditions with
                counters := { s.conditions.counters with framingErrors := s.conditions.counters.framingErrors + 1 } } }
        (∃ w, exec (.messageReceive (0x9C :: after)) s = exec (.messageReceive after) (counted.withWaiting w))
        ∧ (0x9C ∉ after → Happens (.messageReceive (0x9C :: after)) s counted))
  ∧ (∀ (bytes : List Byte) (s : State), s.management.gathered = none → 0x9C ∉ bytes → Happens (.messageReceive bytes) s s)
  ∧ (∀ (bytes : List Byte) (g : Gathering) (s : State), s.pins.porn = true → s.management.gathered = some g → bytes ≠ [] →
      exec (.messageReceive bytes) s
        = exec (.messageReceive (0x9C :: g.taken ++ bytes)) { s with management := { s.management with gathered := none } })
  ∧ (∀ (bytes : List Byte) (s : State), ∃ t, exec (.messageReceive bytes) s = .next t)
  ∧ (∀ s : State, s.management.gathered = none →
      Happens .startByteFound s { s with management := { s.management with gathered := some ⟨[], 5⟩ } })
  ∧ (∀ (hi lo : Byte) (left : Nat) (s : State), s.management.gathered = some ⟨[], left⟩ → lengthOutOfRange hi lo = true →
      (hi ≠ 0x9C → lo ≠ 0x9C →
        Happens (.bodyLengthOutOfRange hi lo) s { s with management := { s.management with gathered := none } })
      ∧ (hi ≠ 0x9C → lo = 0x9C →
        Happens (.bodyLengthOutOfRange hi lo) s { s with management := { s.management with gathered := some ⟨[], 5⟩ } })
      ∧ (hi = 0x9C →
        Happens (.bodyLengthOutOfRange hi lo) s { s with management := { s.management with gathered := some ⟨[lo], 5⟩ } }))
  ∧ (∀ (g : Gathering) (s : State), s.management.gathered = some g →
      Happens .messageAbandoned s
        { s.elapse g.left with management := { (s.elapse g.left).management with gathered := none } }
      ∧ ∀ n, (n ≤ g.left → (s.elapse n).management.gathered = some ⟨g.taken, g.left - n⟩)
          ∧ (g.left < n → (s.elapse n).management.gathered = none))
  ∧ ∀ s : State, s.management.gathered = none → Happens .messageAbandoned s s

/-- MESSAGE SENT puts the message at the head of the outgoing queue on the line and frees its place; RESPONSE ENTERS QUEUE puts the
waiting response of the command in progress at the tail, and the command is answered (R187, R188, R189).
Places in the outgoing queue: RESTARTED may enter below 8 messages, any other below 7, and no other message enters before a waiting
RESTARTED but the response of a command in progress (R176, R189).
The waiting messages (R189): at the end of each command those that wait and are no longer ready wait no more, and those that are
ready, do not wait yet and find no place begin to wait together, behind all that wait; a message that enters waits no more, any
message of the group that began to wait first may enter and no other, and a row whose message may not enter leaves the state (which of
a group goes first, and that a step is the moment of beginning together: log 16).
What waited before is the list as it stood, without each message that the command has put in the queue. A command other than MESSAGE
RECEIVE and the two of PORN (PornHoldsAndTakesThePowerOnReset) puts none there, or at the tail one that may enter: NOTIFY, FETCH DONE
and RESTARTED their own message, any other command one response, after which none is in progress, or, for ACK NOTIFY and UNMASK STREAM
with the NOTIFY chosen first (log 15), that NOTIFY, the response following it or waiting; MESSAGE SENT alone takes one away (R161,
R162, R163, R187, R188, R189). The bytes of a MESSAGE RECEIVE put what they come to before the queues one after another: nothing of it
takes a message out of the list that waits, and what waits is noted after each (R183, R185, R189; log 16). That a response enters
before a NOTIFY or FETCH DONE that the same event makes ready is the model's choice (log 34). -/
def Obligations.OutgoingQueuePlacesAndMoves : Prop :=
  ((∀ (x : OutMessage) (rest : List OutMessage) (s : State), s.management.outgoing = x :: rest →
      Happens .messageSent s
        { s with
          management := { s.management with outgoing := rest }
          wire := s.wire ++ [.message x.bytes] })
    ∧ ∀ (c : Message) (response : OutMessage) (s : State), s.management.running = some ⟨c, .answered response⟩ →
        s.management.mayEnter .response = true →
          Happens .responseEntersQueue s
            { s with management :=
              { s.management with
                running := none
                outgoing := s.management.outgoing ++ [response]
                last := some ⟨c.msg.seq, c.msg.check, response⟩ } })
  ∧ (∀ m : ManagementLink,
      (m.mayEnter .restarted = true ↔ m.outgoing.length < 8 ∧ m.running = none)
      ∧ (∀ w, w ≠ .restarted → m.mayEnter w = true → m.outgoing.length < 7)
      ∧ (∀ w, w ≠ .restarted → m.waiting = [] → m.outgoing.length < 7 → m.mayEnter w = true)
      ∧ (∀ w, m.restartedWaits = true → w ≠ .restarted → m.mayEnter w = true → w = .response ∧ m.running ≠ none)
      ∧ (∀ w g later, m.waiting = g :: later → g ≠ [] → .restarted ∉ m.waiting.flatten → w ≠ .restarted →
          (m.mayEnter w = true ↔ m.outgoing.length < 7 ∧ w ∈ g))
      ∧ ∀ w x, m.enter w x =
          { m with
            outgoing := m.outgoing ++ [x]
            waiting := (m.waiting.map fun g => g.filter (· ≠ w)).filter (· ≠ []) })
  ∧ (∀ s : State,
      let kept := (s.management.waiting.map fun g => g.filter (· ∈ s.ready)).filter (· ≠ [])
      (∃ fresh : List Waiter,
        (∀ w, w ∈ fresh ↔ w ∈ s.ready ∧ w ∉ kept.flatten ∧ { s.management with waiting := kept }.mayEnter w = false)
        ∧ s.noteWaiting = s.withWaiting (kept ++ (if fresh = [] then [] else [fresh])))
      ∧ ∀ w, w ∈ s.ready ↔
          match w with
          | .response =>
            (∃ c x, s.management.running = some ⟨c, .answered x⟩)
              ∨ (s.management.running = none ∧ s.management.receiveQueue ≠ [])
          | .fetchDone => ∃ i n d st, s.hostFetch = .holding i n d st
          | .notify k => s.notification.ready k.val = true
          | .restarted => ∃ o, s.loader.state = .start (.offering o))
  ∧ (∀ (i : Instr) (s t : State), s.pins.porn = true → i ≠ .pornLow → (∀ r1 r0, i ≠ .powerOnReset r1 r0) →
      (∀ bytes, i ≠ .messageReceive bytes) → exec i s = .next t →
        let m := s.management
        ∃ after : ManagementLink,
          t = (t.withWaiting after.waiting).noteWaiting ∧ t.management.outgoing = after.outgoing
          ∧ ((after = m ∧ i ≠ .messageSent)
            ∨ (after = { m with outgoing := m.outgoing.tail } ∧ i = .messageSent)
            ∨ (∃ w x, after = m.enter w x ∧ m.mayEnter w = true
              ∧ match w with
                | .response =>
                  t.management.running = none ∧ i ≠ .fetchDone ∧ i ≠ .restarted ∧ i ≠ .messageSent ∧ ∀ k, i ≠ .notify k
                | .fetchDone => i = .fetchDone ∧ ∃ tag st d, x = ⟨0xFB, m.unsolicited, .fetchDone tag st d⟩
                | .restarted => i = .restarted ∧ ∃ report name, x = ⟨0xFC, m.unsolicited, .restarted report name⟩
                | .notify k =>
                  (i = .notify k
                    ∨ ((∃ c, i = .ackNotify c true ∨ i = .unmaskStream c true) ∧ ∃ c y, t.management.running = some ⟨c, .answered y⟩))
                  ∧ ∃ n cats, x = ⟨0xFA, m.unsolicited, .notify n k cats⟩)
            ∨ ∃ k x y, after = (m.enter (.notify k) x).enter .response y ∧ m.mayEnter (.notify k) = true
              ∧ (m.enter (.notify k) x).mayEnter .response = true ∧ t.management.running = none
              ∧ (∃ c, i = .ackNotify c true ∨ i = .unmaskStream c true) ∧ ∃ n cats, x = ⟨0xFA, m.unsolicited, .notify n k cats⟩))
  ∧ (∀ (bytes : List Byte) (s : State), s.pins.porn = true →
      let found :=
        scan 0 (match s.management.gathered with
          | none => bytes
          | some g => 0x9C :: g.taken ++ bytes)
      let taken := found.1.foldl (fun u e => (u.received e).noteWaiting) s
      (bytes = [] → exec (.messageReceive bytes) s = .next s.noteWaiting)
      ∧ (bytes ≠ [] →
          exec (.messageReceive bytes) s
            = .next
              { taken with
                management := { taken.management with gathered := found.2.map fun b => ⟨b, 5⟩ } }.noteWaiting)
      ∧ ∀ (u : State) (e : ReceiverEvent), (u.received e).management.waiting = u.management.waiting)
  ∧ ∀ s : State,
      (s.management.mayEnter .response = false → Happens .responseEntersQueue s s)
      ∧ (s.management.mayEnter .fetchDone = false → Happens .fetchDone s s)
      ∧ (∀ k, s.management.mayEnter (.notify k) = false → Happens (.notify k) s s)
      ∧ (s.management.mayEnter .restarted = false → Happens .restarted s s)
      ∧ (s.management.outgoing = [] → Happens .messageSent s s)
      ∧ ((∀ c x, s.management.running ≠ some ⟨c, .answered x⟩) → Happens .responseEntersQueue s s)

/-! ## Laws that every step keeps -/

/-- The laws hold in the state after reset. -/
def Obligations.LawsHoldAtReset : Prop :=
  RouteLaw State.reset.routes ∧ StationLaw State.reset ∧ BufferLaw State.reset ∧ ForwardingLaw State.reset ∧ QueueLaw State.reset

/-- Every step keeps the laws of the route tables: no station in two bay ranges, none of them holding the own station, no point in two
open windows, every window aligned (R27, R28, R29). -/
def Obligations.EveryStepKeepsTheRouteLaw : Prop :=
  ∀ s t : State, RouteLaw s.routes → s.stepsTo t → RouteLaw t.routes

/-- Every step keeps a nonzero own station while the router forwards, and from a taken OPEN ROUTING record to the end of START (R26,
R175). -/
def Obligations.EveryStepKeepsTheStationLaw : Prop :=
  ∀ s t : State, StationLaw s → s.stepsTo t → StationLaw t

/-- Every step keeps the bounds of classes, lanes and credits of every port, and a port that is not UP empty (R100 to R105, R115,
R129). -/
def Obligations.EveryStepKeepsTheBufferLaw : Prop :=
  ∀ s t : State, BufferLaw s → s.stepsTo t → BufferLaw t

/-- Every step keeps the forwarding unit's law: while the router is not FORWARDING no head of a link port waits for a request lane
(R57). -/
def Obligations.EveryStepKeepsTheForwardingLaw : Prop :=
  ∀ s t : State, ForwardingLaw s → s.stepsTo t → ForwardingLaw t

/-- Every step keeps the sizes of the management queues, the station inbox and the granted stream count (R61, R156, R185, R189). -/
def Obligations.EveryStepKeepsTheQueueLaw : Prop :=
  ∀ s t : State, QueueLaw s → s.stepsTo t → QueueLaw t
end

