-- ==== Sys2Proof/Laws/State.lean ====
section
/-! SUPPORT. The fields of State under each update: one lemma per field per update, true by rfl. And the items of PerPort, PerBay,
PerClass and PerCategory under set, map and const. -/

namespace Sys2Proof.Machine

/-! ## PerPort -/

@[simp] theorem PerPort.get_set_same {α : Type} (v : PerPort α) (k : Port) (a : α) : (v.set k a).get k = a := by cases k <;> rfl

theorem PerPort.get_set_ne {α : Type} (v : PerPort α) {k l : Port} (a : α) (h : l ≠ k) : (v.set k a).get l = v.get l := by
  cases k <;> cases l <;> first | rfl | exact absurd rfl h

theorem PerPort.get_set {α : Type} (v : PerPort α) (k l : Port) (a : α) : (v.set k a).get l = if l = k then a else v.get l := by
  cases k <;> cases l <;> rfl

@[simp] theorem PerPort.set_get_self {α : Type} (v : PerPort α) (k : Port) : v.set k (v.get k) = v := by cases k <;> rfl

@[simp] theorem PerPort.set_set_same {α : Type} (v : PerPort α) (k : Port) (a b : α) : (v.set k a).set k b = v.set k b := by
  cases k <;> rfl

theorem PerPort.set_comm {α : Type} (v : PerPort α) {k l : Port} (a b : α) (h : k ≠ l) :
    (v.set k a).set l b = (v.set l b).set k a := by
  cases k <;> cases l <;> first | rfl | exact absurd rfl h

theorem PerPort.ext_get {α : Type} {v w : PerPort α} (h : ∀ k, v.get k = w.get k) : v = w := by
  cases v; cases w
  simp only [PerPort.mk.injEq]
  exact ⟨h .t, h .b1, h .b2, h .b3, h .b4, h .b5, h .b6⟩

@[simp] theorem PerPort.get_const {α : Type} (a : α) (k : Port) : (PerPort.const a).get k = a := by cases k <;> rfl

@[simp] theorem PerPort.get_map {α β : Type} (f : α → β) (v : PerPort α) (k : Port) : (v.map f).get k = f (v.get k) := by
  cases k <;> rfl

/-! ## PerBay -/

@[simp] theorem PerBay.get_set_same {α : Type} (v : PerBay α) (k : Bay) (a : α) : (v.set k a).get k = a := by cases k <;> rfl

theorem PerBay.get_set_ne {α : Type} (v : PerBay α) {k l : Bay} (a : α) (h : l ≠ k) : (v.set k a).get l = v.get l := by
  cases k <;> cases l <;> first | rfl | exact absurd rfl h

theorem PerBay.get_set {α : Type} (v : PerBay α) (k l : Bay) (a : α) : (v.set k a).get l = if l = k then a else v.get l := by
  cases k <;> cases l <;> rfl

@[simp] theorem PerBay.set_get_self {α : Type} (v : PerBay α) (k : Bay) : v.set k (v.get k) = v := by cases k <;> rfl

@[simp] theorem PerBay.set_set_same {α : Type} (v : PerBay α) (k : Bay) (a b : α) : (v.set k a).set k b = v.set k b := by
  cases k <;> rfl

theorem PerBay.set_comm {α : Type} (v : PerBay α) {k l : Bay} (a b : α) (h : k ≠ l) :
    (v.set k a).set l b = (v.set l b).set k a := by
  cases k <;> cases l <;> first | rfl | exact absurd rfl h

theorem PerBay.ext_get {α : Type} {v w : PerBay α} (h : ∀ k, v.get k = w.get k) : v = w := by
  cases v; cases w
  simp only [PerBay.mk.injEq]
  exact ⟨h .b1, h .b2, h .b3, h .b4, h .b5, h .b6⟩

@[simp] theorem PerBay.get_const {α : Type} (a : α) (k : Bay) : (PerBay.const a).get k = a := by cases k <;> rfl

/-! ## PerClass -/

@[simp] theorem PerClass.get_set_same {α : Type} (v : PerClass α) (k : FrameClass) (a : α) : (v.set k a).get k = a := by
  cases k <;> rfl

theorem PerClass.get_set_ne {α : Type} (v : PerClass α) {k l : FrameClass} (a : α) (h : l ≠ k) :
    (v.set k a).get l = v.get l := by
  cases k <;> cases l <;> first | rfl | exact absurd rfl h

theorem PerClass.get_set {α : Type} (v : PerClass α) (k l : FrameClass) (a : α) :
    (v.set k a).get l = if l = k then a else v.get l := by
  cases k <;> cases l <;> rfl

@[simp] theorem PerClass.set_get_self {α : Type} (v : PerClass α) (k : FrameClass) : v.set k (v.get k) = v := by cases k <;> rfl

@[simp] theorem PerClass.set_set_same {α : Type} (v : PerClass α) (k : FrameClass) (a b : α) :
    (v.set k a).set k b = v.set k b := by
  cases k <;> rfl

theorem PerClass.set_comm {α : Type} (v : PerClass α) {k l : FrameClass} (a b : α) (h : k ≠ l) :
    (v.set k a).set l b = (v.set l b).set k a := by
  cases k <;> cases l <;> first | rfl | exact absurd rfl h

theorem PerClass.ext_get {α : Type} {v w : PerClass α} (h : ∀ k, v.get k = w.get k) : v = w := by
  cases v; cases w
  simp only [PerClass.mk.injEq]
  exact ⟨h .request, h .answer⟩

/-! ## PerCategory -/

@[simp] theorem PerCategory.get_set_same {α : Type} (v : PerCategory α) (k : Category) (a : α) : (v.set k a).get k = a := by
  cases k <;> rfl

theorem PerCategory.get_set_ne {α : Type} (v : PerCategory α) {k l : Category} (a : α) (h : l ≠ k) :
    (v.set k a).get l = v.get l := by
  cases k <;> cases l <;> first | rfl | exact absurd rfl h

theorem PerCategory.get_set {α : Type} (v : PerCategory α) (k l : Category) (a : α) :
    (v.set k a).get l = if l = k then a else v.get l := by
  cases k <;> cases l <;> rfl

@[simp] theorem PerCategory.set_get_self {α : Type} (v : PerCategory α) (k : Category) : v.set k (v.get k) = v := by
  cases k <;> rfl

@[simp] theorem PerCategory.set_set_same {α : Type} (v : PerCategory α) (k : Category) (a b : α) :
    (v.set k a).set k b = v.set k b := by
  cases k <;> rfl

theorem PerCategory.set_comm {α : Type} (v : PerCategory α) {k l : Category} (a b : α) (h : k ≠ l) :
    (v.set k a).set l b = (v.set l b).set k a := by
  cases k <;> cases l <;> first | rfl | exact absurd rfl h

theorem PerCategory.ext_get {α : Type} {v w : PerCategory α} (h : ∀ k, v.get k = w.get k) : v = w := by
  cases v; cases w
  simp only [PerCategory.mk.injEq]
  exact ⟨h .port, h .routing, h .exchange, h .inbox⟩

/-! ## modPort: one port -/

@[simp] theorem State.modPort_pending (p : Port) (f : PortState → PortState) (s : State) :
    (s.modPort p f).pending = s.pending := rfl
@[simp] theorem State.modPort_pins (p : Port) (f : PortState → PortState) (s : State) : (s.modPort p f).pins = s.pins := rfl
@[simp] theorem State.modPort_routes (p : Port) (f : PortState → PortState) (s : State) : (s.modPort p f).routes = s.routes := rfl
@[simp] theorem State.modPort_inbox (p : Port) (f : PortState → PortState) (s : State) : (s.modPort p f).inbox = s.inbox := rfl
@[simp] theorem State.modPort_exchange (p : Port) (f : PortState → PortState) (s : State) :
    (s.modPort p f).exchange = s.exchange := rfl
@[simp] theorem State.modPort_hostFetch (p : Port) (f : PortState → PortState) (s : State) :
    (s.modPort p f).hostFetch = s.hostFetch := rfl
@[simp] theorem State.modPort_stallLimit (p : Port) (f : PortState → PortState) (s : State) :
    (s.modPort p f).stallLimit = s.stallLimit := rfl
@[simp] theorem State.modPort_conditions (p : Port) (f : PortState → PortState) (s : State) :
    (s.modPort p f).conditions = s.conditions := rfl
@[simp] theorem State.modPort_notification (p : Port) (f : PortState → PortState) (s : State) :
    (s.modPort p f).notification = s.notification := rfl
@[simp] theorem State.modPort_loader (p : Port) (f : PortState → PortState) (s : State) : (s.modPort p f).loader = s.loader := rfl
@[simp] theorem State.modPort_management (p : Port) (f : PortState → PortState) (s : State) :
    (s.modPort p f).management = s.management := rfl
@[simp] theorem State.modPort_wire (p : Port) (f : PortState → PortState) (s : State) : (s.modPort p f).wire = s.wire := rfl

@[simp] theorem State.port_modPort_same (p : Port) (f : PortState → PortState) (s : State) :
    (s.modPort p f).port p = f (s.port p) :=
  PerPort.get_set_same ..

theorem State.port_modPort_ne {p q : Port} (f : PortState → PortState) (s : State) (h : q ≠ p) :
    (s.modPort p f).port q = s.port q :=
  PerPort.get_set_ne _ _ h

theorem State.port_modPort (p q : Port) (f : PortState → PortState) (s : State) :
    (s.modPort p f).port q = if q = p then f (s.port p) else s.port q :=
  PerPort.get_set ..

/-- Two changes of one port are one change. -/
theorem State.modPort_modPort_same (p : Port) (f g : PortState → PortState) (s : State) :
    (s.modPort p f).modPort p g = s.modPort p fun x => g (f x) := by
  simp only [State.modPort, State.port, PerPort.set_set_same, PerPort.get_set_same]

/-- Changes of two ports commute. -/
theorem State.modPort_comm {p q : Port} (f g : PortState → PortState) (s : State) (h : p ≠ q) :
    (s.modPort p f).modPort q g = (s.modPort q g).modPort p f := by
  simp only [State.modPort, State.port, PerPort.get_set_ne _ _ h, PerPort.get_set_ne _ _ (Ne.symm h), PerPort.set_comm _ _ _ h]

/-- A change of a port depends on what it makes of that port's present value. -/
theorem State.modPort_congr (p : Port) {f g : PortState → PortState} (s : State) (h : f (s.port p) = g (s.port p)) :
    s.modPort p f = s.modPort p g := by
  simp only [State.modPort, h]

/-- A change that leaves the port as it is leaves the state as it is. -/
theorem State.modPort_self (p : Port) {f : PortState → PortState} (s : State) (h : f (s.port p) = s.port p) :
    s.modPort p f = s := by
  unfold State.modPort
  rw [h]
  simp only [State.port, PerPort.set_get_self]

/-! ## setPointer: an arbiter's pointer -/

@[simp] theorem State.setPointer_pending (p : Port) (c : FrameClass) (o : Origin) (s : State) :
    (s.setPointer p c o).pending = s.pending := rfl
@[simp] theorem State.setPointer_pins (p : Port) (c : FrameClass) (o : Origin) (s : State) :
    (s.setPointer p c o).pins = s.pins := rfl
@[simp] theorem State.setPointer_routes (p : Port) (c : FrameClass) (o : Origin) (s : State) :
    (s.setPointer p c o).routes = s.routes := rfl
@[simp] theorem State.setPointer_inbox (p : Port) (c : FrameClass) (o : Origin) (s : State) :
    (s.setPointer p c o).inbox = s.inbox := rfl
@[simp] theorem State.setPointer_exchange (p : Port) (c : FrameClass) (o : Origin) (s : State) :
    (s.setPointer p c o).exchange = s.exchange := rfl
@[simp] theorem State.setPointer_hostFetch (p : Port) (c : FrameClass) (o : Origin) (s : State) :
    (s.setPointer p c o).hostFetch = s.hostFetch := rfl
@[simp] theorem State.setPointer_stallLimit (p : Port) (c : FrameClass) (o : Origin) (s : State) :
    (s.setPointer p c o).stallLimit = s.stallLimit := rfl
@[simp] theorem State.setPointer_conditions (p : Port) (c : FrameClass) (o : Origin) (s : State) :
    (s.setPointer p c o).conditions = s.conditions := rfl
@[simp] theorem State.setPointer_notification (p : Port) (c : FrameClass) (o : Origin) (s : State) :
    (s.setPointer p c o).notification = s.notification := rfl
@[simp] theorem State.setPointer_loader (p : Port) (c : FrameClass) (o : Origin) (s : State) :
    (s.setPointer p c o).loader = s.loader := rfl
@[simp] theorem State.setPointer_management (p : Port) (c : FrameClass) (o : Origin) (s : State) :
    (s.setPointer p c o).management = s.management := rfl
@[simp] theorem State.setPointer_wire (p : Port) (c : FrameClass) (o : Origin) (s : State) :
    (s.setPointer p c o).wire = s.wire := rfl

/-! ## dropRequest, dropAnswer: a head discarded -/

@[simp] theorem State.dropRequest_pending (p : Port) (s : State) : (s.dropRequest p).pending = s.pending := rfl
@[simp] theorem State.dropRequest_pins (p : Port) (s : State) : (s.dropRequest p).pins = s.pins := rfl
@[simp] theorem State.dropRequest_routes (p : Port) (s : State) : (s.dropRequest p).routes = s.routes := rfl
@[simp] theorem State.dropRequest_inbox (p : Port) (s : State) : (s.dropRequest p).inbox = s.inbox := rfl
@[simp] theorem State.dropRequest_exchange (p : Port) (s : State) : (s.dropRequest p).exchange = s.exchange := rfl
@[simp] theorem State.dropRequest_hostFetch (p : Port) (s : State) : (s.dropRequest p).hostFetch = s.hostFetch := rfl
@[simp] theorem State.dropRequest_stallLimit (p : Port) (s : State) : (s.dropRequest p).stallLimit = s.stallLimit := rfl
@[simp] theorem State.dropRequest_conditions (p : Port) (s : State) : (s.dropRequest p).conditions = s.conditions := rfl
@[simp] theorem State.dropRequest_notification (p : Port) (s : State) : (s.dropRequest p).notification = s.notification := rfl
@[simp] theorem State.dropRequest_loader (p : Port) (s : State) : (s.dropRequest p).loader = s.loader := rfl
@[simp] theorem State.dropRequest_management (p : Port) (s : State) : (s.dropRequest p).management = s.management := rfl
@[simp] theorem State.dropRequest_wire (p : Port) (s : State) : (s.dropRequest p).wire = s.wire := rfl

/-! ## dropAnswer -/

@[simp] theorem State.dropAnswer_pending (p : Port) (s : State) : (s.dropAnswer p).pending = s.pending := rfl
@[simp] theorem State.dropAnswer_pins (p : Port) (s : State) : (s.dropAnswer p).pins = s.pins := rfl
@[simp] theorem State.dropAnswer_routes (p : Port) (s : State) : (s.dropAnswer p).routes = s.routes := rfl
@[simp] theorem State.dropAnswer_inbox (p : Port) (s : State) : (s.dropAnswer p).inbox = s.inbox := rfl
@[simp] theorem State.dropAnswer_exchange (p : Port) (s : State) : (s.dropAnswer p).exchange = s.exchange := rfl
@[simp] theorem State.dropAnswer_hostFetch (p : Port) (s : State) : (s.dropAnswer p).hostFetch = s.hostFetch := rfl
@[simp] theorem State.dropAnswer_stallLimit (p : Port) (s : State) : (s.dropAnswer p).stallLimit = s.stallLimit := rfl
@[simp] theorem State.dropAnswer_conditions (p : Port) (s : State) : (s.dropAnswer p).conditions = s.conditions := rfl
@[simp] theorem State.dropAnswer_notification (p : Port) (s : State) : (s.dropAnswer p).notification = s.notification := rfl
@[simp] theorem State.dropAnswer_loader (p : Port) (s : State) : (s.dropAnswer p).loader = s.loader := rfl
@[simp] theorem State.dropAnswer_management (p : Port) (s : State) : (s.dropAnswer p).management = s.management := rfl
@[simp] theorem State.dropAnswer_wire (p : Port) (s : State) : (s.dropAnswer p).wire = s.wire := rfl

/-! ## placeRequest: a frame enters a request lane -/

@[simp] theorem State.placeRequest_pending (p : Port) (o : Origin) (r : Request RouterTag) (s : State) :
    (s.placeRequest p o r).pending = s.pending := rfl
@[simp] theorem State.placeRequest_pins (p : Port) (o : Origin) (r : Request RouterTag) (s : State) :
    (s.placeRequest p o r).pins = s.pins := rfl
@[simp] theorem State.placeRequest_routes (p : Port) (o : Origin) (r : Request RouterTag) (s : State) :
    (s.placeRequest p o r).routes = s.routes := rfl
@[simp] theorem State.placeRequest_inbox (p : Port) (o : Origin) (r : Request RouterTag) (s : State) :
    (s.placeRequest p o r).inbox = s.inbox := rfl
@[simp] theorem State.placeRequest_exchange (p : Port) (o : Origin) (r : Request RouterTag) (s : State) :
    (s.placeRequest p o r).exchange = s.exchange := rfl
@[simp] theorem State.placeRequest_hostFetch (p : Port) (o : Origin) (r : Request RouterTag) (s : State) :
    (s.placeRequest p o r).hostFetch = s.hostFetch := rfl
@[simp] theorem State.placeRequest_stallLimit (p : Port) (o : Origin) (r : Request RouterTag) (s : State) :
    (s.placeRequest p o r).stallLimit = s.stallLimit := rfl
@[simp] theorem State.placeRequest_conditions (p : Port) (o : Origin) (r : Request RouterTag) (s : State) :
    (s.placeRequest p o r).conditions = s.conditions := rfl
@[simp] theorem State.placeRequest_notification (p : Port) (o : Origin) (r : Request RouterTag) (s : State) :
    (s.placeRequest p o r).notification = s.notification := rfl
@[simp] theorem State.placeRequest_loader (p : Port) (o : Origin) (r : Request RouterTag) (s : State) :
    (s.placeRequest p o r).loader = s.loader := rfl
@[simp] theorem State.placeRequest_management (p : Port) (o : Origin) (r : Request RouterTag) (s : State) :
    (s.placeRequest p o r).management = s.management := rfl
@[simp] theorem State.placeRequest_wire (p : Port) (o : Origin) (r : Request RouterTag) (s : State) :
    (s.placeRequest p o r).wire = s.wire := rfl

/-! ## setLink -/

@[simp] theorem State.setLink_pending (p : Port) (l : Link) (s : State) : (s.setLink p l).pending = s.pending := rfl
@[simp] theorem State.setLink_pins (p : Port) (l : Link) (s : State) : (s.setLink p l).pins = s.pins := rfl
@[simp] theorem State.setLink_routes (p : Port) (l : Link) (s : State) : (s.setLink p l).routes = s.routes := rfl
@[simp] theorem State.setLink_inbox (p : Port) (l : Link) (s : State) : (s.setLink p l).inbox = s.inbox := rfl
@[simp] theorem State.setLink_exchange (p : Port) (l : Link) (s : State) : (s.setLink p l).exchange = s.exchange := rfl
@[simp] theorem State.setLink_hostFetch (p : Port) (l : Link) (s : State) : (s.setLink p l).hostFetch = s.hostFetch := rfl
@[simp] theorem State.setLink_stallLimit (p : Port) (l : Link) (s : State) : (s.setLink p l).stallLimit = s.stallLimit := rfl
@[simp] theorem State.setLink_conditions (p : Port) (l : Link) (s : State) : (s.setLink p l).conditions = s.conditions := rfl
@[simp] theorem State.setLink_notification (p : Port) (l : Link) (s : State) :
    (s.setLink p l).notification = s.notification := rfl
@[simp] theorem State.setLink_loader (p : Port) (l : Link) (s : State) : (s.setLink p l).loader = s.loader := rfl
@[simp] theorem State.setLink_management (p : Port) (l : Link) (s : State) : (s.setLink p l).management = s.management := rfl
@[simp] theorem State.setLink_wire (p : Port) (l : Link) (s : State) : (s.setLink p l).wire = s.wire := rfl

/-! ## withdraw: a QUEUED FETCH -/

/-- All that a withdrawal does to its port: the FETCH leaves the request lane, and counts as dropped if it stood there (R77). -/
theorem PortState.withdrawFetch_eq (i : RouterTag) (x : PortState) :
    x.withdrawFetch i
      = { x with
          requestLane := x.requestLane.eraseP (LaneRequest.isFetchOf i)
          counters := if x.requestLane.any (LaneRequest.isFetchOf i) then x.counters.addDropped else x.counters } := by
  unfold PortState.withdrawFetch
  split <;> rename_i h
  · simp [PortState.count]
  · have absent : x.requestLane.eraseP (LaneRequest.isFetchOf i) = x.requestLane :=
      List.eraseP_of_forall_not (by simpa using h)
    simp [absent]

@[simp] theorem State.withdraw_pending (i : RouterTag) (p : Port) (s : State) : (s.withdraw i p).pending = s.pending := rfl
@[simp] theorem State.withdraw_pins (i : RouterTag) (p : Port) (s : State) : (s.withdraw i p).pins = s.pins := rfl
@[simp] theorem State.withdraw_routes (i : RouterTag) (p : Port) (s : State) : (s.withdraw i p).routes = s.routes := rfl
@[simp] theorem State.withdraw_inbox (i : RouterTag) (p : Port) (s : State) : (s.withdraw i p).inbox = s.inbox := rfl
@[simp] theorem State.withdraw_exchange (i : RouterTag) (p : Port) (s : State) : (s.withdraw i p).exchange = s.exchange := rfl
@[simp] theorem State.withdraw_hostFetch (i : RouterTag) (p : Port) (s : State) : (s.withdraw i p).hostFetch = s.hostFetch := rfl
@[simp] theorem State.withdraw_stallLimit (i : RouterTag) (p : Port) (s : State) :
    (s.withdraw i p).stallLimit = s.stallLimit := rfl
@[simp] theorem State.withdraw_conditions (i : RouterTag) (p : Port) (s : State) :
    (s.withdraw i p).conditions = s.conditions := rfl
@[simp] theorem State.withdraw_notification (i : RouterTag) (p : Port) (s : State) :
    (s.withdraw i p).notification = s.notification := rfl
@[simp] theorem State.withdraw_loader (i : RouterTag) (p : Port) (s : State) : (s.withdraw i p).loader = s.loader := rfl
@[simp] theorem State.withdraw_management (i : RouterTag) (p : Port) (s : State) :
    (s.withdraw i p).management = s.management := rfl
@[simp] theorem State.withdraw_wire (i : RouterTag) (p : Port) (s : State) : (s.withdraw i p).wire = s.wire := rfl

/-! ## setEntry: one exchange entry -/

@[simp] theorem State.setEntry_pending (i : RouterTag) (e : Entry) (s : State) : (s.setEntry i e).pending = s.pending := rfl
@[simp] theorem State.setEntry_pins (i : RouterTag) (e : Entry) (s : State) : (s.setEntry i e).pins = s.pins := rfl
@[simp] theorem State.setEntry_routes (i : RouterTag) (e : Entry) (s : State) : (s.setEntry i e).routes = s.routes := rfl
@[simp] theorem State.setEntry_inbox (i : RouterTag) (e : Entry) (s : State) : (s.setEntry i e).inbox = s.inbox := rfl
@[simp] theorem State.setEntry_hostFetch (i : RouterTag) (e : Entry) (s : State) : (s.setEntry i e).hostFetch = s.hostFetch := rfl
@[simp] theorem State.setEntry_ports (i : RouterTag) (e : Entry) (s : State) : (s.setEntry i e).ports = s.ports := rfl
@[simp] theorem State.setEntry_stallLimit (i : RouterTag) (e : Entry) (s : State) :
    (s.setEntry i e).stallLimit = s.stallLimit := rfl
@[simp] theorem State.setEntry_conditions (i : RouterTag) (e : Entry) (s : State) :
    (s.setEntry i e).conditions = s.conditions := rfl
@[simp] theorem State.setEntry_notification (i : RouterTag) (e : Entry) (s : State) :
    (s.setEntry i e).notification = s.notification := rfl
@[simp] theorem State.setEntry_loader (i : RouterTag) (e : Entry) (s : State) : (s.setEntry i e).loader = s.loader := rfl
@[simp] theorem State.setEntry_management (i : RouterTag) (e : Entry) (s : State) :
    (s.setEntry i e).management = s.management := rfl
@[simp] theorem State.setEntry_wire (i : RouterTag) (e : Entry) (s : State) : (s.setEntry i e).wire = s.wire := rfl

@[simp] theorem State.setEntry_quotas (i : RouterTag) (e : Entry) (s : State) :
    (s.setEntry i e).exchange.quotas = s.exchange.quotas := rfl
@[simp] theorem State.setEntry_timers (i : RouterTag) (e : Entry) (s : State) :
    (s.setEntry i e).exchange.timers = s.exchange.timers := rfl
@[simp] theorem State.setEntry_port (i : RouterTag) (e : Entry) (s : State) (p : Port) : (s.setEntry i e).port p = s.port p := rfl

@[simp] theorem State.entry_setEntry_same (i : RouterTag) (e : Entry) (s : State) : (s.setEntry i e).entry i = e := by
  simp [State.entry, State.setEntry]

theorem State.entry_setEntry_ne {i j : RouterTag} (e : Entry) (s : State) (h : j ≠ i) : (s.setEntry i e).entry j = s.entry j := by
  simp only [State.entry, State.setEntry, Fin.getElem_fin]
  exact Vector.getElem_set_ne _ _ (fun e => h (Fin.ext e.symm))

theorem State.entry_setEntry (i j : RouterTag) (e : Entry) (s : State) :
    (s.setEntry i e).entry j = if j = i then e else s.entry j := by
  by_cases h : j = i
  · subst h; simp
  · simp [h, State.entry_setEntry_ne e s h]

@[simp] theorem State.entry_modPort (p : Port) (f : PortState → PortState) (s : State) (i : RouterTag) :
    (s.modPort p f).entry i = s.entry i := rfl

/-! ## openEntry: an admission -/

@[simp] theorem State.openEntry_pending (i : RouterTag) (o : Requester) (d : Port) (a : Word32) (n : Nat) (s : State) :
    (s.openEntry i o d a n).pending = s.pending := rfl
@[simp] theorem State.openEntry_pins (i : RouterTag) (o : Requester) (d : Port) (a : Word32) (n : Nat) (s : State) :
    (s.openEntry i o d a n).pins = s.pins := rfl
@[simp] theorem State.openEntry_routes (i : RouterTag) (o : Requester) (d : Port) (a : Word32) (n : Nat) (s : State) :
    (s.openEntry i o d a n).routes = s.routes := rfl
@[simp] theorem State.openEntry_inbox (i : RouterTag) (o : Requester) (d : Port) (a : Word32) (n : Nat) (s : State) :
    (s.openEntry i o d a n).inbox = s.inbox := rfl
@[simp] theorem State.openEntry_hostFetch (i : RouterTag) (o : Requester) (d : Port) (a : Word32) (n : Nat) (s : State) :
    (s.openEntry i o d a n).hostFetch = s.hostFetch := rfl
@[simp] theorem State.openEntry_ports (i : RouterTag) (o : Requester) (d : Port) (a : Word32) (n : Nat) (s : State) :
    (s.openEntry i o d a n).ports = s.ports := rfl
@[simp] theorem State.openEntry_stallLimit (i : RouterTag) (o : Requester) (d : Port) (a : Word32) (n : Nat) (s : State) :
    (s.openEntry i o d a n).stallLimit = s.stallLimit := rfl
@[simp] theorem State.openEntry_conditions (i : RouterTag) (o : Requester) (d : Port) (a : Word32) (n : Nat) (s : State) :
    (s.openEntry i o d a n).conditions = s.conditions := rfl
@[simp] theorem State.openEntry_notification (i : RouterTag) (o : Requester) (d : Port) (a : Word32) (n : Nat) (s : State) :
    (s.openEntry i o d a n).notification = s.notification := rfl
@[simp] theorem State.openEntry_loader (i : RouterTag) (o : Requester) (d : Port) (a : Word32) (n : Nat) (s : State) :
    (s.openEntry i o d a n).loader = s.loader := rfl
@[simp] theorem State.openEntry_management (i : RouterTag) (o : Requester) (d : Port) (a : Word32) (n : Nat) (s : State) :
    (s.openEntry i o d a n).management = s.management := rfl
@[simp] theorem State.openEntry_wire (i : RouterTag) (o : Requester) (d : Port) (a : Word32) (n : Nat) (s : State) :
    (s.openEntry i o d a n).wire = s.wire := rfl

/-! ## toQuarantine -/

@[simp] theorem State.toQuarantine_pending (i : RouterTag) (x : Exchange) (c : EndCause) (s : State) :
    (s.toQuarantine i x c).pending = s.pending := rfl
@[simp] theorem State.toQuarantine_pins (i : RouterTag) (x : Exchange) (c : EndCause) (s : State) :
    (s.toQuarantine i x c).pins = s.pins := rfl
@[simp] theorem State.toQuarantine_routes (i : RouterTag) (x : Exchange) (c : EndCause) (s : State) :
    (s.toQuarantine i x c).routes = s.routes := rfl
@[simp] theorem State.toQuarantine_inbox (i : RouterTag) (x : Exchange) (c : EndCause) (s : State) :
    (s.toQuarantine i x c).inbox = s.inbox := rfl
@[simp] theorem State.toQuarantine_hostFetch (i : RouterTag) (x : Exchange) (c : EndCause) (s : State) :
    (s.toQuarantine i x c).hostFetch = s.hostFetch := rfl
@[simp] theorem State.toQuarantine_ports (i : RouterTag) (x : Exchange) (c : EndCause) (s : State) :
    (s.toQuarantine i x c).ports = s.ports := rfl
@[simp] theorem State.toQuarantine_stallLimit (i : RouterTag) (x : Exchange) (c : EndCause) (s : State) :
    (s.toQuarantine i x c).stallLimit = s.stallLimit := rfl
@[simp] theorem State.toQuarantine_conditions (i : RouterTag) (x : Exchange) (c : EndCause) (s : State) :
    (s.toQuarantine i x c).conditions = s.conditions := rfl
@[simp] theorem State.toQuarantine_notification (i : RouterTag) (x : Exchange) (c : EndCause) (s : State) :
    (s.toQuarantine i x c).notification = s.notification := rfl
@[simp] theorem State.toQuarantine_loader (i : RouterTag) (x : Exchange) (c : EndCause) (s : State) :
    (s.toQuarantine i x c).loader = s.loader := rfl
@[simp] theorem State.toQuarantine_management (i : RouterTag) (x : Exchange) (c : EndCause) (s : State) :
    (s.toQuarantine i x c).management = s.management := rfl
@[simp] theorem State.toQuarantine_wire (i : RouterTag) (x : Exchange) (c : EndCause) (s : State) :
    (s.toQuarantine i x c).wire = s.wire := rfl

/-! ## orphan -/

@[simp] theorem State.orphan_pending (p : Port) (s : State) : (s.orphan p).pending = s.pending := rfl
@[simp] theorem State.orphan_pins (p : Port) (s : State) : (s.orphan p).pins = s.pins := rfl
@[simp] theorem State.orphan_routes (p : Port) (s : State) : (s.orphan p).routes = s.routes := rfl
@[simp] theorem State.orphan_inbox (p : Port) (s : State) : (s.orphan p).inbox = s.inbox := rfl
@[simp] theorem State.orphan_hostFetch (p : Port) (s : State) : (s.orphan p).hostFetch = s.hostFetch := rfl
@[simp] theorem State.orphan_ports (p : Port) (s : State) : (s.orphan p).ports = s.ports := rfl
@[simp] theorem State.orphan_stallLimit (p : Port) (s : State) : (s.orphan p).stallLimit = s.stallLimit := rfl
@[simp] theorem State.orphan_conditions (p : Port) (s : State) : (s.orphan p).conditions = s.conditions := rfl
@[simp] theorem State.orphan_notification (p : Port) (s : State) : (s.orphan p).notification = s.notification := rfl
@[simp] theorem State.orphan_loader (p : Port) (s : State) : (s.orphan p).loader = s.loader := rfl
@[simp] theorem State.orphan_management (p : Port) (s : State) : (s.orphan p).management = s.management := rfl
@[simp] theorem State.orphan_wire (p : Port) (s : State) : (s.orphan p).wire = s.wire := rfl

/-! ## emit: something goes out on a wire -/

@[simp] theorem State.emit_pending (e : Emission) (s : State) : (s.emit e).pending = s.pending := rfl
@[simp] theorem State.emit_pins (e : Emission) (s : State) : (s.emit e).pins = s.pins := rfl
@[simp] theorem State.emit_routes (e : Emission) (s : State) : (s.emit e).routes = s.routes := rfl
@[simp] theorem State.emit_inbox (e : Emission) (s : State) : (s.emit e).inbox = s.inbox := rfl
@[simp] theorem State.emit_exchange (e : Emission) (s : State) : (s.emit e).exchange = s.exchange := rfl
@[simp] theorem State.emit_hostFetch (e : Emission) (s : State) : (s.emit e).hostFetch = s.hostFetch := rfl
@[simp] theorem State.emit_ports (e : Emission) (s : State) : (s.emit e).ports = s.ports := rfl
@[simp] theorem State.emit_stallLimit (e : Emission) (s : State) : (s.emit e).stallLimit = s.stallLimit := rfl
@[simp] theorem State.emit_conditions (e : Emission) (s : State) : (s.emit e).conditions = s.conditions := rfl
@[simp] theorem State.emit_notification (e : Emission) (s : State) : (s.emit e).notification = s.notification := rfl
@[simp] theorem State.emit_loader (e : Emission) (s : State) : (s.emit e).loader = s.loader := rfl
@[simp] theorem State.emit_management (e : Emission) (s : State) : (s.emit e).management = s.management := rfl

@[simp] theorem State.emit_wire (e : Emission) (s : State) : (s.emit e).wire = s.wire ++ [e] := rfl

/-! ## setLatched: one condition set -/

@[simp] theorem State.setLatched_pending (i : SetId) (names : List Condition) (s : State) :
    (s.setLatched i names).pending = s.pending := rfl
@[simp] theorem State.setLatched_pins (i : SetId) (names : List Condition) (s : State) :
    (s.setLatched i names).pins = s.pins := rfl
@[simp] theorem State.setLatched_routes (i : SetId) (names : List Condition) (s : State) :
    (s.setLatched i names).routes = s.routes := rfl
@[simp] theorem State.setLatched_inbox (i : SetId) (names : List Condition) (s : State) :
    (s.setLatched i names).inbox = s.inbox := rfl
@[simp] theorem State.setLatched_exchange (i : SetId) (names : List Condition) (s : State) :
    (s.setLatched i names).exchange = s.exchange := rfl
@[simp] theorem State.setLatched_hostFetch (i : SetId) (names : List Condition) (s : State) :
    (s.setLatched i names).hostFetch = s.hostFetch := rfl
@[simp] theorem State.setLatched_ports (i : SetId) (names : List Condition) (s : State) :
    (s.setLatched i names).ports = s.ports := rfl
@[simp] theorem State.setLatched_stallLimit (i : SetId) (names : List Condition) (s : State) :
    (s.setLatched i names).stallLimit = s.stallLimit := rfl
@[simp] theorem State.setLatched_notification (i : SetId) (names : List Condition) (s : State) :
    (s.setLatched i names).notification = s.notification := rfl
@[simp] theorem State.setLatched_loader (i : SetId) (names : List Condition) (s : State) :
    (s.setLatched i names).loader = s.loader := rfl
@[simp] theorem State.setLatched_management (i : SetId) (names : List Condition) (s : State) :
    (s.setLatched i names).management = s.management := rfl
@[simp] theorem State.setLatched_wire (i : SetId) (names : List Condition) (s : State) :
    (s.setLatched i names).wire = s.wire := rfl

@[simp] theorem State.setLatched_reporting (i : SetId) (names : List Condition) (s : State) :
    (s.setLatched i names).conditions.reporting = s.conditions.reporting := rfl
@[simp] theorem State.setLatched_counters (i : SetId) (names : List Condition) (s : State) :
    (s.setLatched i names).conditions.counters = s.conditions.counters := rfl

@[simp] theorem State.latched_setLatched_same (i : SetId) (names : List Condition) (s : State) :
    (s.setLatched i names).latched i = names := by
  cases i with
  | router => rfl
  | origin o => cases o with
    | m => rfl
    | link p => exact PerPort.get_set_same ..

theorem State.latched_setLatched_ne {i j : SetId} (names : List Condition) (s : State) (h : j ≠ i) :
    (s.setLatched i names).latched j = s.latched j := by
  rcases i with (p | _) | _ <;> rcases j with (q | _) | _ <;> try rfl
  · exact PerPort.get_set_ne _ _ fun e => h (by rw [e])
  · exact absurd rfl h
  · exact absurd rfl h

/-! ## mark: an unreported mark -/

@[simp] theorem State.mark_pending (c : Category) (s : State) : (s.mark c).pending = s.pending := rfl
@[simp] theorem State.mark_pins (c : Category) (s : State) : (s.mark c).pins = s.pins := rfl
@[simp] theorem State.mark_routes (c : Category) (s : State) : (s.mark c).routes = s.routes := rfl
@[simp] theorem State.mark_inbox (c : Category) (s : State) : (s.mark c).inbox = s.inbox := rfl
@[simp] theorem State.mark_exchange (c : Category) (s : State) : (s.mark c).exchange = s.exchange := rfl
@[simp] theorem State.mark_hostFetch (c : Category) (s : State) : (s.mark c).hostFetch = s.hostFetch := rfl
@[simp] theorem State.mark_ports (c : Category) (s : State) : (s.mark c).ports = s.ports := rfl
@[simp] theorem State.mark_stallLimit (c : Category) (s : State) : (s.mark c).stallLimit = s.stallLimit := rfl
@[simp] theorem State.mark_conditions (c : Category) (s : State) : (s.mark c).conditions = s.conditions := rfl
@[simp] theorem State.mark_loader (c : Category) (s : State) : (s.mark c).loader = s.loader := rfl
@[simp] theorem State.mark_management (c : Category) (s : State) : (s.mark c).management = s.management := rfl
@[simp] theorem State.mark_wire (c : Category) (s : State) : (s.mark c).wire = s.wire := rfl

@[simp] theorem State.mark_streams (c : Category) (s : State) : (s.mark c).notification.streams = s.notification.streams := rfl
@[simp] theorem State.mark_countFixed (c : Category) (s : State) :
    (s.mark c).notification.countFixed = s.notification.countFixed := rfl

/-! ## countRouter: a router-wide counter -/

@[simp] theorem State.countRouter_pending (f : RouterCounters → RouterCounters) (s : State) :
    (s.countRouter f).pending = s.pending := rfl
@[simp] theorem State.countRouter_pins (f : RouterCounters → RouterCounters) (s : State) : (s.countRouter f).pins = s.pins := rfl
@[simp] theorem State.countRouter_routes (f : RouterCounters → RouterCounters) (s : State) :
    (s.countRouter f).routes = s.routes := rfl
@[simp] theorem State.countRouter_inbox (f : RouterCounters → RouterCounters) (s : State) :
    (s.countRouter f).inbox = s.inbox := rfl
@[simp] theorem State.countRouter_exchange (f : RouterCounters → RouterCounters) (s : State) :
    (s.countRouter f).exchange = s.exchange := rfl
@[simp] theorem State.countRouter_hostFetch (f : RouterCounters → RouterCounters) (s : State) :
    (s.countRouter f).hostFetch = s.hostFetch := rfl
@[simp] theorem State.countRouter_ports (f : RouterCounters → RouterCounters) (s : State) :
    (s.countRouter f).ports = s.ports := rfl
@[simp] theorem State.countRouter_stallLimit (f : RouterCounters → RouterCounters) (s : State) :
    (s.countRouter f).stallLimit = s.stallLimit := rfl
@[simp] theorem State.countRouter_notification (f : RouterCounters → RouterCounters) (s : State) :
    (s.countRouter f).notification = s.notification := rfl
@[simp] theorem State.countRouter_loader (f : RouterCounters → RouterCounters) (s : State) :
    (s.countRouter f).loader = s.loader := rfl
@[simp] theorem State.countRouter_management (f : RouterCounters → RouterCounters) (s : State) :
    (s.countRouter f).management = s.management := rfl
@[simp] theorem State.countRouter_wire (f : RouterCounters → RouterCounters) (s : State) : (s.countRouter f).wire = s.wire := rfl

/-! ## setNotification -/

@[simp] theorem State.setNotification_pending (n : NotificationUnit) (s : State) :
    (s.setNotification n).pending = s.pending := rfl
@[simp] theorem State.setNotification_pins (n : NotificationUnit) (s : State) : (s.setNotification n).pins = s.pins := rfl
@[simp] theorem State.setNotification_routes (n : NotificationUnit) (s : State) : (s.setNotification n).routes = s.routes := rfl
@[simp] theorem State.setNotification_inbox (n : NotificationUnit) (s : State) : (s.setNotification n).inbox = s.inbox := rfl
@[simp] theorem State.setNotification_exchange (n : NotificationUnit) (s : State) :
    (s.setNotification n).exchange = s.exchange := rfl
@[simp] theorem State.setNotification_hostFetch (n : NotificationUnit) (s : State) :
    (s.setNotification n).hostFetch = s.hostFetch := rfl
@[simp] theorem State.setNotification_ports (n : NotificationUnit) (s : State) : (s.setNotification n).ports = s.ports := rfl
@[simp] theorem State.setNotification_stallLimit (n : NotificationUnit) (s : State) :
    (s.setNotification n).stallLimit = s.stallLimit := rfl
@[simp] theorem State.setNotification_conditions (n : NotificationUnit) (s : State) :
    (s.setNotification n).conditions = s.conditions := rfl
@[simp] theorem State.setNotification_loader (n : NotificationUnit) (s : State) : (s.setNotification n).loader = s.loader := rfl
@[simp] theorem State.setNotification_management (n : NotificationUnit) (s : State) :
    (s.setNotification n).management = s.management := rfl
@[simp] theorem State.setNotification_wire (n : NotificationUnit) (s : State) : (s.setNotification n).wire = s.wire := rfl

/-! ## setRoutes -/

@[simp] theorem State.setRoutes_pending (r : RouteTables) (s : State) : (s.setRoutes r).pending = s.pending := rfl
@[simp] theorem State.setRoutes_pins (r : RouteTables) (s : State) : (s.setRoutes r).pins = s.pins := rfl
@[simp] theorem State.setRoutes_inbox (r : RouteTables) (s : State) : (s.setRoutes r).inbox = s.inbox := rfl
@[simp] theorem State.setRoutes_exchange (r : RouteTables) (s : State) : (s.setRoutes r).exchange = s.exchange := rfl
@[simp] theorem State.setRoutes_hostFetch (r : RouteTables) (s : State) : (s.setRoutes r).hostFetch = s.hostFetch := rfl
@[simp] theorem State.setRoutes_ports (r : RouteTables) (s : State) : (s.setRoutes r).ports = s.ports := rfl
@[simp] theorem State.setRoutes_stallLimit (r : RouteTables) (s : State) : (s.setRoutes r).stallLimit = s.stallLimit := rfl
@[simp] theorem State.setRoutes_conditions (r : RouteTables) (s : State) : (s.setRoutes r).conditions = s.conditions := rfl
@[simp] theorem State.setRoutes_notification (r : RouteTables) (s : State) : (s.setRoutes r).notification = s.notification := rfl
@[simp] theorem State.setRoutes_loader (r : RouteTables) (s : State) : (s.setRoutes r).loader = s.loader := rfl
@[simp] theorem State.setRoutes_management (r : RouteTables) (s : State) : (s.setRoutes r).management = s.management := rfl
@[simp] theorem State.setRoutes_wire (r : RouteTables) (s : State) : (s.setRoutes r).wire = s.wire := rfl

/-! ## setLoader, setPhase, setRouterState -/

@[simp] theorem State.setLoader_pending (l : Loader) (s : State) : (s.setLoader l).pending = s.pending := rfl
@[simp] theorem State.setLoader_pins (l : Loader) (s : State) : (s.setLoader l).pins = s.pins := rfl
@[simp] theorem State.setLoader_routes (l : Loader) (s : State) : (s.setLoader l).routes = s.routes := rfl
@[simp] theorem State.setLoader_inbox (l : Loader) (s : State) : (s.setLoader l).inbox = s.inbox := rfl
@[simp] theorem State.setLoader_exchange (l : Loader) (s : State) : (s.setLoader l).exchange = s.exchange := rfl
@[simp] theorem State.setLoader_hostFetch (l : Loader) (s : State) : (s.setLoader l).hostFetch = s.hostFetch := rfl
@[simp] theorem State.setLoader_ports (l : Loader) (s : State) : (s.setLoader l).ports = s.ports := rfl
@[simp] theorem State.setLoader_stallLimit (l : Loader) (s : State) : (s.setLoader l).stallLimit = s.stallLimit := rfl
@[simp] theorem State.setLoader_conditions (l : Loader) (s : State) : (s.setLoader l).conditions = s.conditions := rfl
@[simp] theorem State.setLoader_notification (l : Loader) (s : State) : (s.setLoader l).notification = s.notification := rfl
@[simp] theorem State.setLoader_management (l : Loader) (s : State) : (s.setLoader l).management = s.management := rfl
@[simp] theorem State.setLoader_wire (l : Loader) (s : State) : (s.setLoader l).wire = s.wire := rfl

/-! ## setPhase -/

@[simp] theorem State.setPhase_pending (ph : LoadPhase) (s : State) : (s.setPhase ph).pending = s.pending := rfl
@[simp] theorem State.setPhase_pins (ph : LoadPhase) (s : State) : (s.setPhase ph).pins = s.pins := rfl
@[simp] theorem State.setPhase_routes (ph : LoadPhase) (s : State) : (s.setPhase ph).routes = s.routes := rfl
@[simp] theorem State.setPhase_inbox (ph : LoadPhase) (s : State) : (s.setPhase ph).inbox = s.inbox := rfl
@[simp] theorem State.setPhase_exchange (ph : LoadPhase) (s : State) : (s.setPhase ph).exchange = s.exchange := rfl
@[simp] theorem State.setPhase_hostFetch (ph : LoadPhase) (s : State) : (s.setPhase ph).hostFetch = s.hostFetch := rfl
@[simp] theorem State.setPhase_ports (ph : LoadPhase) (s : State) : (s.setPhase ph).ports = s.ports := rfl
@[simp] theorem State.setPhase_stallLimit (ph : LoadPhase) (s : State) : (s.setPhase ph).stallLimit = s.stallLimit := rfl
@[simp] theorem State.setPhase_conditions (ph : LoadPhase) (s : State) : (s.setPhase ph).conditions = s.conditions := rfl
@[simp] theorem State.setPhase_notification (ph : LoadPhase) (s : State) : (s.setPhase ph).notification = s.notification := rfl
@[simp] theorem State.setPhase_management (ph : LoadPhase) (s : State) : (s.setPhase ph).management = s.management := rfl
@[simp] theorem State.setPhase_wire (ph : LoadPhase) (s : State) : (s.setPhase ph).wire = s.wire := rfl

/-! ## setRouterState -/

@[simp] theorem State.setRouterState_pending (x : RouterState) (s : State) : (s.setRouterState x).pending = s.pending := rfl
@[simp] theorem State.setRouterState_pins (x : RouterState) (s : State) : (s.setRouterState x).pins = s.pins := rfl
@[simp] theorem State.setRouterState_routes (x : RouterState) (s : State) : (s.setRouterState x).routes = s.routes := rfl
@[simp] theorem State.setRouterState_inbox (x : RouterState) (s : State) : (s.setRouterState x).inbox = s.inbox := rfl
@[simp] theorem State.setRouterState_exchange (x : RouterState) (s : State) : (s.setRouterState x).exchange = s.exchange := rfl
@[simp] theorem State.setRouterState_hostFetch (x : RouterState) (s : State) : (s.setRouterState x).hostFetch = s.hostFetch := rfl
@[simp] theorem State.setRouterState_ports (x : RouterState) (s : State) : (s.setRouterState x).ports = s.ports := rfl
@[simp] theorem State.setRouterState_stallLimit (x : RouterState) (s : State) :
    (s.setRouterState x).stallLimit = s.stallLimit := rfl
@[simp] theorem State.setRouterState_conditions (x : RouterState) (s : State) :
    (s.setRouterState x).conditions = s.conditions := rfl
@[simp] theorem State.setRouterState_notification (x : RouterState) (s : State) :
    (s.setRouterState x).notification = s.notification := rfl
@[simp] theorem State.setRouterState_management (x : RouterState) (s : State) :
    (s.setRouterState x).management = s.management := rfl
@[simp] theorem State.setRouterState_wire (x : RouterState) (s : State) : (s.setRouterState x).wire = s.wire := rfl

/-! ## setSignal -/

@[simp] theorem State.setSignal_pending (p : Port) (b : Bool) (s : State) : (s.setSignal p b).pending = s.pending := rfl
@[simp] theorem State.setSignal_routes (p : Port) (b : Bool) (s : State) : (s.setSignal p b).routes = s.routes := rfl
@[simp] theorem State.setSignal_inbox (p : Port) (b : Bool) (s : State) : (s.setSignal p b).inbox = s.inbox := rfl
@[simp] theorem State.setSignal_exchange (p : Port) (b : Bool) (s : State) : (s.setSignal p b).exchange = s.exchange := rfl
@[simp] theorem State.setSignal_hostFetch (p : Port) (b : Bool) (s : State) : (s.setSignal p b).hostFetch = s.hostFetch := rfl
@[simp] theorem State.setSignal_ports (p : Port) (b : Bool) (s : State) : (s.setSignal p b).ports = s.ports := rfl
@[simp] theorem State.setSignal_stallLimit (p : Port) (b : Bool) (s : State) : (s.setSignal p b).stallLimit = s.stallLimit := rfl
@[simp] theorem State.setSignal_conditions (p : Port) (b : Bool) (s : State) : (s.setSignal p b).conditions = s.conditions := rfl
@[simp] theorem State.setSignal_notification (p : Port) (b : Bool) (s : State) :
    (s.setSignal p b).notification = s.notification := rfl
@[simp] theorem State.setSignal_loader (p : Port) (b : Bool) (s : State) : (s.setSignal p b).loader = s.loader := rfl
@[simp] theorem State.setSignal_management (p : Port) (b : Bool) (s : State) : (s.setSignal p b).management = s.management := rfl
@[simp] theorem State.setSignal_wire (p : Port) (b : Bool) (s : State) : (s.setSignal p b).wire = s.wire := rfl

/-! ## elapse: the clock -/

@[simp] theorem State.elapse_pending (n : Nat) (s : State) : (s.elapse n).pending = s.pending := rfl
@[simp] theorem State.elapse_pins (n : Nat) (s : State) : (s.elapse n).pins = s.pins := rfl
@[simp] theorem State.elapse_routes (n : Nat) (s : State) : (s.elapse n).routes = s.routes := rfl
@[simp] theorem State.elapse_inbox (n : Nat) (s : State) : (s.elapse n).inbox = s.inbox := rfl
@[simp] theorem State.elapse_hostFetch (n : Nat) (s : State) : (s.elapse n).hostFetch = s.hostFetch := rfl
@[simp] theorem State.elapse_stallLimit (n : Nat) (s : State) : (s.elapse n).stallLimit = s.stallLimit := rfl
@[simp] theorem State.elapse_conditions (n : Nat) (s : State) : (s.elapse n).conditions = s.conditions := rfl
@[simp] theorem State.elapse_notification (n : Nat) (s : State) : (s.elapse n).notification = s.notification := rfl
@[simp] theorem State.elapse_loader (n : Nat) (s : State) : (s.elapse n).loader = s.loader := rfl
@[simp] theorem State.elapse_wire (n : Nat) (s : State) : (s.elapse n).wire = s.wire := rfl

@[simp] theorem State.elapse_port (n : Nat) (s : State) (p : Port) : (s.elapse n).port p = (s.port p).elapse n := PerPort.get_map ..
@[simp] theorem State.elapse_timers (n : Nat) (s : State) : (s.elapse n).exchange.timers = s.exchange.timers := rfl
@[simp] theorem State.elapse_quotas (n : Nat) (s : State) : (s.elapse n).exchange.quotas = s.exchange.quotas := rfl

@[simp] theorem State.elapse_entry (n : Nat) (s : State) (i : RouterTag) : (s.elapse n).entry i = (s.entry i).elapse n := by
  simp [State.entry, State.elapse]

@[simp] theorem State.elapse_gathered (n : Nat) (s : State) :
    (s.elapse n).management.gathered = s.management.gathered.bind (Gathering.elapse n) := rfl
@[simp] theorem State.elapse_running (n : Nat) (s : State) :
    (s.elapse n).management.running = s.management.running.map (Running.elapse n) := rfl
@[simp] theorem State.elapse_receiveQueue (n : Nat) (s : State) :
    (s.elapse n).management.receiveQueue = s.management.receiveQueue := rfl
@[simp] theorem State.elapse_outgoing (n : Nat) (s : State) : (s.elapse n).management.outgoing = s.management.outgoing := rfl
@[simp] theorem State.elapse_last (n : Nat) (s : State) : (s.elapse n).management.last = s.management.last := rfl

@[simp] theorem State.elapse_rate (n : Nat) (s : State) : (s.elapse n).management.rate = s.management.rate := rfl
@[simp] theorem State.elapse_waiting (n : Nat) (s : State) : (s.elapse n).management.waiting = s.management.waiting := rfl
@[simp] theorem State.elapse_unsolicited (n : Nat) (s : State) :
    (s.elapse n).management.unsolicited = s.management.unsolicited := rfl

/-- Time moves no message into or out of the outgoing queue (R189). -/
@[simp] theorem State.elapse_mayEnter (n : Nat) (s : State) (w : Waiter) :
    (s.elapse n).management.mayEnter w = s.management.mayEnter w := by
  show (s.management.elapse n).mayEnter w = _
  obtain ⟨rate, gathered, receiveQueue, running, outgoing, waiting, last, unsolicited⟩ := s.management
  cases running <;> cases w <;> rfl

@[simp] theorem Entry.elapse_free (n : Nat) : Entry.free.elapse n = .free := rfl
@[simp] theorem Entry.elapse_opened (n : Nat) (x : Exchange) (i : Issue) (d : Nat) :
    (Entry.opened x i d).elapse n = .opened x i (d - n) := rfl
@[simp] theorem Entry.elapse_orphan (n : Nat) (x : Exchange) (i : Issue) (d : Nat) :
    (Entry.orphan x i d).elapse n = .orphan x i (d - n) := rfl
@[simp] theorem Entry.elapse_quarantine (n : Nat) (x : Exchange) (c : EndCause) (l : Nat) :
    (Entry.quarantine x c l).elapse n = .quarantine x c (l - n) := rfl
@[simp] theorem RequestWait.elapse_lane (n : Nat) (p : Port) (l : Nat) : (RequestWait.lane p l).elapse n = .lane p (l - n) := rfl
@[simp] theorem RequestWait.elapse_answerSlot (n : Nat) (st : AnsStatus) (l : Nat) :
    (RequestWait.answerSlot st l).elapse n = .answerSlot st (l - n) := rfl
@[simp] theorem Link.elapse_down (n : Nat) (q : Option Nat) : (Link.down q).elapse n = .down (q.map (· - n)) := rfl
@[simp] theorem Link.elapse_training (n : Nat) (a : Attempt) :
    (Link.training a).elapse n = .training { a with left := a.left - n } := rfl

/-- A message being gathered goes on while no more than what is left of the 5 ms passes (R184). -/
theorem Gathering.elapse_within {n : Nat} {g : Gathering} (h : n ≤ g.left) :
    g.elapse n = some { g with left := g.left - n } := if_pos h

/-- A message being gathered is abandoned once more than what is left of the 5 ms has passed (R184). -/
theorem Gathering.elapse_beyond {n : Nat} {g : Gathering} (h : g.left < n) : g.elapse n = none := if_neg (by omega)

/-! ## transmitter: what a port drives, by its link state (R119, R123) -/

@[simp] theorem PortState.transmitter_disabled (x : PortState) :
    ({ x with link := .disabled } : PortState).transmitter = .quiet := rfl
@[simp] theorem PortState.transmitter_quiet (x : PortState) (n : Nat) :
    ({ x with link := .down (some n) } : PortState).transmitter = .quiet := rfl
@[simp] theorem PortState.transmitter_down (x : PortState) : ({ x with link := .down none } : PortState).transmitter = .idle := rfl
@[simp] theorem PortState.transmitter_training (x : PortState) (a : Attempt) :
    ({ x with link := .training a } : PortState).transmitter = .training := rfl
@[simp] theorem PortState.transmitter_held (x : PortState) : ({ x with link := .held } : PortState).transmitter = .quiet := rfl
@[simp] theorem PortState.transmitter_failed (x : PortState) : ({ x with link := .failed } : PortState).transmitter = .quiet := rfl

/-- An UP link sends a frame or drives the idle signal (R119). -/
theorem PortState.transmitter_up {x : PortState} (h : x.link.isUp = true) :
    x.transmitter = if x.sending.isSome then .frame else .idle := by
  cases hl : x.link <;> simp_all [Link.isUp, PortState.transmitter]

/-- The line of a port is driven in every state but DISABLED, HELD, FAILED and the quiet interval of DOWN (R119, R123). -/
theorem PortState.drives_iff (x : PortState) :
    x.drives = true ↔ x.link.isUp = true ∨ x.link = .down none ∨ ∃ a, x.link = .training a := by
  unfold PortState.drives PortState.transmitter Link.isUp
  cases x.link with
  | down q => cases q <;> simp
  | up m => cases x.sending <;> simp
  | _ => simp

/-! ## hunt: the receiver hunts (R183, R184) -/

@[simp] theorem State.hunt_gathered (s : State) : s.hunt.management.gathered = none := rfl
@[simp] theorem State.hunt_pending (s : State) : s.hunt.pending = s.pending := rfl
@[simp] theorem State.hunt_pins (s : State) : s.hunt.pins = s.pins := rfl
@[simp] theorem State.hunt_routes (s : State) : s.hunt.routes = s.routes := rfl
@[simp] theorem State.hunt_inbox (s : State) : s.hunt.inbox = s.inbox := rfl
@[simp] theorem State.hunt_exchange (s : State) : s.hunt.exchange = s.exchange := rfl
@[simp] theorem State.hunt_hostFetch (s : State) : s.hunt.hostFetch = s.hostFetch := rfl
@[simp] theorem State.hunt_ports (s : State) : s.hunt.ports = s.ports := rfl
@[simp] theorem State.hunt_stallLimit (s : State) : s.hunt.stallLimit = s.stallLimit := rfl
@[simp] theorem State.hunt_conditions (s : State) : s.hunt.conditions = s.conditions := rfl
@[simp] theorem State.hunt_notification (s : State) : s.hunt.notification = s.notification := rfl
@[simp] theorem State.hunt_loader (s : State) : s.hunt.loader = s.loader := rfl
@[simp] theorem State.hunt_wire (s : State) : s.hunt.wire = s.wire := rfl

/-! ## withWaiting: which messages wait for a place -/

@[simp] theorem State.withWaiting_pending (w : List (List Waiter)) (s : State) : (s.withWaiting w).pending = s.pending := rfl
@[simp] theorem State.withWaiting_pins (w : List (List Waiter)) (s : State) : (s.withWaiting w).pins = s.pins := rfl
@[simp] theorem State.withWaiting_routes (w : List (List Waiter)) (s : State) : (s.withWaiting w).routes = s.routes := rfl
@[simp] theorem State.withWaiting_inbox (w : List (List Waiter)) (s : State) : (s.withWaiting w).inbox = s.inbox := rfl
@[simp] theorem State.withWaiting_exchange (w : List (List Waiter)) (s : State) : (s.withWaiting w).exchange = s.exchange := rfl
@[simp] theorem State.withWaiting_hostFetch (w : List (List Waiter)) (s : State) :
    (s.withWaiting w).hostFetch = s.hostFetch := rfl
@[simp] theorem State.withWaiting_ports (w : List (List Waiter)) (s : State) : (s.withWaiting w).ports = s.ports := rfl
@[simp] theorem State.withWaiting_stallLimit (w : List (List Waiter)) (s : State) :
    (s.withWaiting w).stallLimit = s.stallLimit := rfl
@[simp] theorem State.withWaiting_conditions (w : List (List Waiter)) (s : State) :
    (s.withWaiting w).conditions = s.conditions := rfl
@[simp] theorem State.withWaiting_notification (w : List (List Waiter)) (s : State) :
    (s.withWaiting w).notification = s.notification := rfl
@[simp] theorem State.withWaiting_loader (w : List (List Waiter)) (s : State) : (s.withWaiting w).loader = s.loader := rfl
@[simp] theorem State.withWaiting_wire (w : List (List Waiter)) (s : State) : (s.withWaiting w).wire = s.wire := rfl

/-! ## enterResponse, respond: a command is answered -/

@[simp] theorem State.enterResponse_pending (c : Message) (r : OutMessage) (s : State) :
    (s.enterResponse c r).pending = s.pending := rfl
@[simp] theorem State.enterResponse_pins (c : Message) (r : OutMessage) (s : State) : (s.enterResponse c r).pins = s.pins := rfl
@[simp] theorem State.enterResponse_routes (c : Message) (r : OutMessage) (s : State) :
    (s.enterResponse c r).routes = s.routes := rfl
@[simp] theorem State.enterResponse_inbox (c : Message) (r : OutMessage) (s : State) :
    (s.enterResponse c r).inbox = s.inbox := rfl
@[simp] theorem State.enterResponse_exchange (c : Message) (r : OutMessage) (s : State) :
    (s.enterResponse c r).exchange = s.exchange := rfl
@[simp] theorem State.enterResponse_hostFetch (c : Message) (r : OutMessage) (s : State) :
    (s.enterResponse c r).hostFetch = s.hostFetch := rfl
@[simp] theorem State.enterResponse_ports (c : Message) (r : OutMessage) (s : State) :
    (s.enterResponse c r).ports = s.ports := rfl
@[simp] theorem State.enterResponse_stallLimit (c : Message) (r : OutMessage) (s : State) :
    (s.enterResponse c r).stallLimit = s.stallLimit := rfl
@[simp] theorem State.enterResponse_conditions (c : Message) (r : OutMessage) (s : State) :
    (s.enterResponse c r).conditions = s.conditions := rfl
@[simp] theorem State.enterResponse_notification (c : Message) (r : OutMessage) (s : State) :
    (s.enterResponse c r).notification = s.notification := rfl
@[simp] theorem State.enterResponse_loader (c : Message) (r : OutMessage) (s : State) :
    (s.enterResponse c r).loader = s.loader := rfl
@[simp] theorem State.enterResponse_wire (c : Message) (r : OutMessage) (s : State) : (s.enterResponse c r).wire = s.wire := rfl

/-! ## respond -/

@[simp] theorem State.respond_pending (c : Message) (st : Status) (v : Values) (s : State) :
    (s.respond c st v).pending = s.pending := rfl
@[simp] theorem State.respond_pins (c : Message) (st : Status) (v : Values) (s : State) : (s.respond c st v).pins = s.pins := rfl
@[simp] theorem State.respond_routes (c : Message) (st : Status) (v : Values) (s : State) :
    (s.respond c st v).routes = s.routes := rfl
@[simp] theorem State.respond_inbox (c : Message) (st : Status) (v : Values) (s : State) :
    (s.respond c st v).inbox = s.inbox := rfl
@[simp] theorem State.respond_exchange (c : Message) (st : Status) (v : Values) (s : State) :
    (s.respond c st v).exchange = s.exchange := rfl
@[simp] theorem State.respond_hostFetch (c : Message) (st : Status) (v : Values) (s : State) :
    (s.respond c st v).hostFetch = s.hostFetch := rfl
@[simp] theorem State.respond_ports (c : Message) (st : Status) (v : Values) (s : State) :
    (s.respond c st v).ports = s.ports := rfl
@[simp] theorem State.respond_stallLimit (c : Message) (st : Status) (v : Values) (s : State) :
    (s.respond c st v).stallLimit = s.stallLimit := rfl
@[simp] theorem State.respond_conditions (c : Message) (st : Status) (v : Values) (s : State) :
    (s.respond c st v).conditions = s.conditions := rfl
@[simp] theorem State.respond_notification (c : Message) (st : Status) (v : Values) (s : State) :
    (s.respond c st v).notification = s.notification := rfl
@[simp] theorem State.respond_loader (c : Message) (st : Status) (v : Values) (s : State) :
    (s.respond c st v).loader = s.loader := rfl
@[simp] theorem State.respond_wire (c : Message) (st : Status) (v : Values) (s : State) : (s.respond c st v).wire = s.wire := rfl

/-! ## sendUnsolicited -/

@[simp] theorem State.sendUnsolicited_pending (wt : Waiter) (k : Byte) (b : Body) (s : State) :
    (s.sendUnsolicited wt k b).pending = s.pending := rfl
@[simp] theorem State.sendUnsolicited_pins (wt : Waiter) (k : Byte) (b : Body) (s : State) :
    (s.sendUnsolicited wt k b).pins = s.pins := rfl
@[simp] theorem State.sendUnsolicited_routes (wt : Waiter) (k : Byte) (b : Body) (s : State) :
    (s.sendUnsolicited wt k b).routes = s.routes := rfl
@[simp] theorem State.sendUnsolicited_inbox (wt : Waiter) (k : Byte) (b : Body) (s : State) :
    (s.sendUnsolicited wt k b).inbox = s.inbox := rfl
@[simp] theorem State.sendUnsolicited_exchange (wt : Waiter) (k : Byte) (b : Body) (s : State) :
    (s.sendUnsolicited wt k b).exchange = s.exchange := rfl
@[simp] theorem State.sendUnsolicited_hostFetch (wt : Waiter) (k : Byte) (b : Body) (s : State) :
    (s.sendUnsolicited wt k b).hostFetch = s.hostFetch := rfl
@[simp] theorem State.sendUnsolicited_ports (wt : Waiter) (k : Byte) (b : Body) (s : State) :
    (s.sendUnsolicited wt k b).ports = s.ports := rfl
@[simp] theorem State.sendUnsolicited_stallLimit (wt : Waiter) (k : Byte) (b : Body) (s : State) :
    (s.sendUnsolicited wt k b).stallLimit = s.stallLimit := rfl
@[simp] theorem State.sendUnsolicited_conditions (wt : Waiter) (k : Byte) (b : Body) (s : State) :
    (s.sendUnsolicited wt k b).conditions = s.conditions := rfl
@[simp] theorem State.sendUnsolicited_notification (wt : Waiter) (k : Byte) (b : Body) (s : State) :
    (s.sendUnsolicited wt k b).notification = s.notification := rfl
@[simp] theorem State.sendUnsolicited_loader (wt : Waiter) (k : Byte) (b : Body) (s : State) :
    (s.sendUnsolicited wt k b).loader = s.loader := rfl
@[simp] theorem State.sendUnsolicited_wire (wt : Waiter) (k : Byte) (b : Body) (s : State) :
    (s.sendUnsolicited wt k b).wire = s.wire := rfl

/-! ## resetBlocks: what no trunk or command reset touches -/

@[simp] theorem State.resetBlocks_pending (c : ResetCause) (s : State) : (s.resetBlocks c).pending = s.pending := rfl
@[simp] theorem State.resetBlocks_pins (c : ResetCause) (s : State) : (s.resetBlocks c).pins = s.pins := rfl
@[simp] theorem State.resetBlocks_management (c : ResetCause) (s : State) : (s.resetBlocks c).management = s.management := rfl
@[simp] theorem State.resetBlocks_wire (c : ResetCause) (s : State) : (s.resetBlocks c).wire = s.wire := rfl

/-! ## noteWaiting -/

@[simp] theorem State.noteWaiting_pending (s : State) : (s.noteWaiting).pending = s.pending := rfl
@[simp] theorem State.noteWaiting_pins (s : State) : (s.noteWaiting).pins = s.pins := rfl
@[simp] theorem State.noteWaiting_routes (s : State) : (s.noteWaiting).routes = s.routes := rfl
@[simp] theorem State.noteWaiting_inbox (s : State) : (s.noteWaiting).inbox = s.inbox := rfl
@[simp] theorem State.noteWaiting_exchange (s : State) : (s.noteWaiting).exchange = s.exchange := rfl
@[simp] theorem State.noteWaiting_hostFetch (s : State) : (s.noteWaiting).hostFetch = s.hostFetch := rfl
@[simp] theorem State.noteWaiting_ports (s : State) : (s.noteWaiting).ports = s.ports := rfl
@[simp] theorem State.noteWaiting_stallLimit (s : State) : (s.noteWaiting).stallLimit = s.stallLimit := rfl
@[simp] theorem State.noteWaiting_conditions (s : State) : (s.noteWaiting).conditions = s.conditions := rfl
@[simp] theorem State.noteWaiting_notification (s : State) : (s.noteWaiting).notification = s.notification := rfl
@[simp] theorem State.noteWaiting_loader (s : State) : (s.noteWaiting).loader = s.loader := rfl
@[simp] theorem State.noteWaiting_wire (s : State) : (s.noteWaiting).wire = s.wire := rfl

end Sys2Proof.Machine
end

