-- ==== Sys2Proof/Laws/Conditions.lean ====
section
/-! SUPPORT. What latching, capturing and detecting a condition can do: the two fields they change, and that they commute with a
change of ports, of entries and of the wires. -/

namespace Sys2Proof.Machine

/-! ## inOrder -/

theorem Condition.mem_all (c : Condition) : c ∈ Condition.all := by cases c <;> decide

@[simp] theorem mem_inOrder (names : List Condition) (c : Condition) : c ∈ inOrder names ↔ c ∈ names := by
  simp [inOrder, Condition.mem_all]

/-! ## latch (R140, R141) -/

@[simp] theorem State.latch_pending (i : SetId) (c : Condition) (s : State) : (s.latch i c).pending = s.pending := by
  unfold State.latch; dsimp only; split <;> rfl
@[simp] theorem State.latch_pins (i : SetId) (c : Condition) (s : State) : (s.latch i c).pins = s.pins := by
  unfold State.latch; dsimp only; split <;> rfl
@[simp] theorem State.latch_routes (i : SetId) (c : Condition) (s : State) : (s.latch i c).routes = s.routes := by
  unfold State.latch; dsimp only; split <;> rfl
@[simp] theorem State.latch_inbox (i : SetId) (c : Condition) (s : State) : (s.latch i c).inbox = s.inbox := by
  unfold State.latch; dsimp only; split <;> rfl
@[simp] theorem State.latch_exchange (i : SetId) (c : Condition) (s : State) : (s.latch i c).exchange = s.exchange := by
  unfold State.latch; dsimp only; split <;> rfl
@[simp] theorem State.latch_hostFetch (i : SetId) (c : Condition) (s : State) : (s.latch i c).hostFetch = s.hostFetch := by
  unfold State.latch; dsimp only; split <;> rfl
@[simp] theorem State.latch_ports (i : SetId) (c : Condition) (s : State) : (s.latch i c).ports = s.ports := by
  unfold State.latch; dsimp only; split <;> rfl
@[simp] theorem State.latch_stallLimit (i : SetId) (c : Condition) (s : State) : (s.latch i c).stallLimit = s.stallLimit := by
  unfold State.latch; dsimp only; split <;> rfl
@[simp] theorem State.latch_loader (i : SetId) (c : Condition) (s : State) : (s.latch i c).loader = s.loader := by
  unfold State.latch; dsimp only; split <;> rfl
@[simp] theorem State.latch_management (i : SetId) (c : Condition) (s : State) : (s.latch i c).management = s.management := by
  unfold State.latch; dsimp only; split <;> rfl
@[simp] theorem State.latch_wire (i : SetId) (c : Condition) (s : State) : (s.latch i c).wire = s.wire := by
  unfold State.latch; dsimp only; split <;> rfl

@[simp] theorem State.latch_reporting (i : SetId) (c : Condition) (s : State) :
    (s.latch i c).conditions.reporting = s.conditions.reporting := by
  unfold State.latch; dsimp only; split <;> rfl
@[simp] theorem State.latch_counters (i : SetId) (c : Condition) (s : State) :
    (s.latch i c).conditions.counters = s.conditions.counters := by
  unfold State.latch; dsimp only; split <;> rfl
@[simp] theorem State.latch_routingCapture (i : SetId) (c : Condition) (s : State) :
    (s.latch i c).conditions.routingCapture = s.conditions.routingCapture := by
  unfold State.latch; dsimp only; split <;> rfl
@[simp] theorem State.latch_exchangeCapture (i : SetId) (c : Condition) (s : State) :
    (s.latch i c).conditions.exchangeCapture = s.conditions.exchangeCapture := by
  unfold State.latch; dsimp only; split <;> rfl
@[simp] theorem State.latch_streams (i : SetId) (c : Condition) (s : State) :
    (s.latch i c).notification.streams = s.notification.streams := by
  unfold State.latch; dsimp only; split <;> rfl
@[simp] theorem State.latch_countFixed (i : SetId) (c : Condition) (s : State) :
    (s.latch i c).notification.countFixed = s.notification.countFixed := by
  unfold State.latch; dsimp only; split <;> rfl
@[simp] theorem State.latch_port (i : SetId) (c : Condition) (s : State) (p : Port) : (s.latch i c).port p = s.port p := by
  simp only [State.port, State.latch_ports]
@[simp] theorem State.latch_entry (i : SetId) (c : Condition) (s : State) (t : RouterTag) :
    (s.latch i c).entry t = s.entry t := by
  simp only [State.entry, State.latch_exchange]

/-- A detection latches its name in its set, and no other name anywhere (R140). -/
theorem State.mem_latched_latch (i j : SetId) (c k : Condition) (s : State) :
    k ∈ (s.latch i c).latched j ↔ (j = i ∧ k = c) ∨ k ∈ s.latched j := by
  have h : (s.latch i c).latched j = (s.setLatched i (inOrder (c :: s.latched i))).latched j := by
    unfold State.latch; dsimp only; split <;> rfl
  rw [h]
  by_cases e : j = i
  · subst e; simp
  · simp [State.latched_setLatched_ne _ _ e, e]

/-- The marks after a detection (R141). -/
theorem State.marks_latch (i : SetId) (c : Condition) (s : State) (k : Category) :
    (s.latch i c).notification.marks.get k
      = (s.notification.marks.get k || (k == c.category && !(s.latched i).contains c && s.reports c)) := by
  unfold State.latch
  dsimp only
  split
  · rename_i h
    simp only [Bool.and_eq_true, Bool.not_eq_true'] at h
    show (s.notification.marks.set c.category true).get k = _
    rw [PerCategory.get_set]
    by_cases e : k = c.category
    · simp only [e, if_true, h.1, h.2, beq_self_eq_true, Bool.not_false, Bool.and_self, Bool.or_true]
    · simp [e]
  · rename_i h
    show s.notification.marks.get k = _
    simp only [Bool.and_eq_true, Bool.not_eq_true', not_and, Bool.not_eq_true] at h
    by_cases e : (s.latched i).contains c = false
    · rw [h e]; simp
    · simp only [Bool.not_eq_false] at e
      simp only [e, Bool.not_true, Bool.and_false, Bool.false_and, Bool.or_false]

/-! ## fillCapture and detect (R148) -/

@[simp] theorem State.fillCapture_pending (o : Origin) (c : Condition) (x : Subject) (s : State) :
    (s.fillCapture o c x).pending = s.pending := by
  unfold State.fillCapture; split <;> rfl
@[simp] theorem State.fillCapture_pins (o : Origin) (c : Condition) (x : Subject) (s : State) :
    (s.fillCapture o c x).pins = s.pins := by
  unfold State.fillCapture; split <;> rfl
@[simp] theorem State.fillCapture_routes (o : Origin) (c : Condition) (x : Subject) (s : State) :
    (s.fillCapture o c x).routes = s.routes := by
  unfold State.fillCapture; split <;> rfl
@[simp] theorem State.fillCapture_inbox (o : Origin) (c : Condition) (x : Subject) (s : State) :
    (s.fillCapture o c x).inbox = s.inbox := by
  unfold State.fillCapture; split <;> rfl
@[simp] theorem State.fillCapture_exchange (o : Origin) (c : Condition) (x : Subject) (s : State) :
    (s.fillCapture o c x).exchange = s.exchange := by
  unfold State.fillCapture; split <;> rfl
@[simp] theorem State.fillCapture_hostFetch (o : Origin) (c : Condition) (x : Subject) (s : State) :
    (s.fillCapture o c x).hostFetch = s.hostFetch := by
  unfold State.fillCapture; split <;> rfl
@[simp] theorem State.fillCapture_ports (o : Origin) (c : Condition) (x : Subject) (s : State) :
    (s.fillCapture o c x).ports = s.ports := by
  unfold State.fillCapture; split <;> rfl
@[simp] theorem State.fillCapture_stallLimit (o : Origin) (c : Condition) (x : Subject) (s : State) :
    (s.fillCapture o c x).stallLimit = s.stallLimit := by
  unfold State.fillCapture; split <;> rfl
@[simp] theorem State.fillCapture_loader (o : Origin) (c : Condition) (x : Subject) (s : State) :
    (s.fillCapture o c x).loader = s.loader := by
  unfold State.fillCapture; split <;> rfl
@[simp] theorem State.fillCapture_management (o : Origin) (c : Condition) (x : Subject) (s : State) :
    (s.fillCapture o c x).management = s.management := by
  unfold State.fillCapture; split <;> rfl
@[simp] theorem State.fillCapture_wire (o : Origin) (c : Condition) (x : Subject) (s : State) :
    (s.fillCapture o c x).wire = s.wire := by
  unfold State.fillCapture; split <;> rfl

@[simp] theorem State.fillCapture_notification (o : Origin) (c : Condition) (x : Subject) (s : State) :
    (s.fillCapture o c x).notification = s.notification := by
  unfold State.fillCapture; split <;> rfl
@[simp] theorem State.fillCapture_latched (o : Origin) (c : Condition) (x : Subject) (s : State) (i : SetId) :
    (s.fillCapture o c x).latched i = s.latched i := by
  unfold State.fillCapture; split <;> rfl
@[simp] theorem State.fillCapture_reporting (o : Origin) (c : Condition) (x : Subject) (s : State) :
    (s.fillCapture o c x).conditions.reporting = s.conditions.reporting := by
  unfold State.fillCapture; split <;> rfl
@[simp] theorem State.fillCapture_counters (o : Origin) (c : Condition) (x : Subject) (s : State) :
    (s.fillCapture o c x).conditions.counters = s.conditions.counters := by
  unfold State.fillCapture; split <;> rfl

@[simp] theorem State.detect_pending (o : Origin) (c : Condition) (x : Subject) (s : State) :
    (s.detect o c x).pending = s.pending := by
  simp only [State.detect, State.fillCapture_pending, State.latch_pending]
@[simp] theorem State.detect_pins (o : Origin) (c : Condition) (x : Subject) (s : State) : (s.detect o c x).pins = s.pins := by
  simp only [State.detect, State.fillCapture_pins, State.latch_pins]
@[simp] theorem State.detect_routes (o : Origin) (c : Condition) (x : Subject) (s : State) :
    (s.detect o c x).routes = s.routes := by
  simp only [State.detect, State.fillCapture_routes, State.latch_routes]
@[simp] theorem State.detect_inbox (o : Origin) (c : Condition) (x : Subject) (s : State) : (s.detect o c x).inbox = s.inbox := by
  simp only [State.detect, State.fillCapture_inbox, State.latch_inbox]
@[simp] theorem State.detect_exchange (o : Origin) (c : Condition) (x : Subject) (s : State) :
    (s.detect o c x).exchange = s.exchange := by
  simp only [State.detect, State.fillCapture_exchange, State.latch_exchange]
@[simp] theorem State.detect_hostFetch (o : Origin) (c : Condition) (x : Subject) (s : State) :
    (s.detect o c x).hostFetch = s.hostFetch := by
  simp only [State.detect, State.fillCapture_hostFetch, State.latch_hostFetch]
@[simp] theorem State.detect_ports (o : Origin) (c : Condition) (x : Subject) (s : State) : (s.detect o c x).ports = s.ports := by
  simp only [State.detect, State.fillCapture_ports, State.latch_ports]
@[simp] theorem State.detect_stallLimit (o : Origin) (c : Condition) (x : Subject) (s : State) :
    (s.detect o c x).stallLimit = s.stallLimit := by
  simp only [State.detect, State.fillCapture_stallLimit, State.latch_stallLimit]
@[simp] theorem State.detect_loader (o : Origin) (c : Condition) (x : Subject) (s : State) :
    (s.detect o c x).loader = s.loader := by
  simp only [State.detect, State.fillCapture_loader, State.latch_loader]
@[simp] theorem State.detect_management (o : Origin) (c : Condition) (x : Subject) (s : State) :
    (s.detect o c x).management = s.management := by
  simp only [State.detect, State.fillCapture_management, State.latch_management]
@[simp] theorem State.detect_wire (o : Origin) (c : Condition) (x : Subject) (s : State) : (s.detect o c x).wire = s.wire := by
  simp only [State.detect, State.fillCapture_wire, State.latch_wire]
@[simp] theorem State.detect_port (o : Origin) (c : Condition) (x : Subject) (s : State) (p : Port) :
    (s.detect o c x).port p = s.port p := by
  simp only [State.port, State.detect_ports]
@[simp] theorem State.detect_entry (o : Origin) (c : Condition) (x : Subject) (s : State) (t : RouterTag) :
    (s.detect o c x).entry t = s.entry t := by
  simp only [State.entry, State.detect_exchange]
@[simp] theorem State.detect_streams (o : Origin) (c : Condition) (x : Subject) (s : State) :
    (s.detect o c x).notification.streams = s.notification.streams := by
  simp only [State.detect, State.fillCapture_notification, State.latch_streams]
@[simp] theorem State.detect_reporting (o : Origin) (c : Condition) (x : Subject) (s : State) :
    (s.detect o c x).conditions.reporting = s.conditions.reporting := by
  simp only [State.detect, State.fillCapture_reporting, State.latch_reporting]

theorem State.mem_latched_detect (o : Origin) (c k : Condition) (x : Subject) (s : State) (j : SetId) :
    k ∈ (s.detect o c x).latched j ↔ (j = .origin o ∧ k = c) ∨ k ∈ s.latched j := by
  simp only [State.detect, State.fillCapture_latched, State.mem_latched_latch]

/-! ## Order with other blocks -/

theorem State.latch_modPort (i : SetId) (c : Condition) (p : Port) (f : PortState → PortState) (s : State) :
    (State.modPort p f s).latch i c = State.modPort p f (s.latch i c) := by
  simp only [State.latch, apply_ite (State.modPort p f)]; rfl

theorem State.detect_modPort (o : Origin) (c : Condition) (x : Subject) (p : Port) (f : PortState → PortState) (s : State) :
    (State.modPort p f s).detect o c x = State.modPort p f (s.detect o c x) := by
  simp only [State.detect, State.latch_modPort]
  unfold State.fillCapture
  split <;> rfl

theorem State.latch_setEntry (i : SetId) (c : Condition) (t : RouterTag) (e : Entry) (s : State) :
    (State.setEntry t e s).latch i c = State.setEntry t e (s.latch i c) := by
  simp only [State.latch, apply_ite (State.setEntry t e)]; rfl

theorem State.detect_setEntry (o : Origin) (c : Condition) (x : Subject) (i : RouterTag) (e : Entry) (s : State) :
    (State.setEntry i e s).detect o c x = State.setEntry i e (s.detect o c x) := by
  simp only [State.detect, State.latch_setEntry]
  unfold State.fillCapture
  split <;> rfl

theorem State.latch_emit (i : SetId) (c : Condition) (e : Emission) (s : State) :
    (State.emit e s).latch i c = State.emit e (s.latch i c) := by
  simp only [State.latch, apply_ite (State.emit e)]; rfl

theorem State.detect_emit (o : Origin) (c : Condition) (x : Subject) (e : Emission) (s : State) :
    (State.emit e s).detect o c x = State.emit e (s.detect o c x) := by
  simp only [State.detect, State.latch_emit]
  unfold State.fillCapture
  split <;> rfl

theorem State.latch_setPointer (i : SetId) (c : Condition) (p : Port) (l : FrameClass) (o : Origin) (s : State) :
    (State.setPointer p l o s).latch i c = State.setPointer p l o (s.latch i c) := by
  simp only [State.latch, apply_ite (State.setPointer p l o)]; rfl

theorem State.detect_setPointer (o : Origin) (c : Condition) (x : Subject) (p : Port) (l : FrameClass) (r : Origin) (s : State) :
    (State.setPointer p l r s).detect o c x = State.setPointer p l r (s.detect o c x) := by
  simp only [State.detect, State.latch_setPointer]
  unfold State.fillCapture
  split <;> rfl

/-- The management link stands apart from the condition unit. -/
theorem State.latch_withManagement (i : SetId) (c : Condition) (m : ManagementLink) (s : State) :
    ({ s with management := m } : State).latch i c = { s.latch i c with management := m } := by
  simp only [State.latch, apply_ite (fun t : State => ({ t with management := m } : State))]; rfl

theorem State.detect_withManagement (o : Origin) (c : Condition) (x : Subject) (m : ManagementLink) (s : State) :
    ({ s with management := m } : State).detect o c x = { s.detect o c x with management := m } := by
  simp only [State.detect, State.latch_withManagement]
  unfold State.fillCapture
  split <;> rfl

/-- So does the station inbox. -/
theorem State.latch_withInbox (i : SetId) (c : Condition) (l : List NoticeRecord) (s : State) :
    ({ s with inbox := l } : State).latch i c = { s.latch i c with inbox := l } := by
  simp only [State.latch, apply_ite (fun t : State => ({ t with inbox := l } : State))]; rfl

end Sys2Proof.Machine
end

