-- ==== Sys2Proof/Laws/Commands.lean ====
section
/-! SUPPORT. How an event is taken and a host command taken and answered: what every meaning's proof cites instead of unfolding the
management link. -/

namespace Sys2Proof.Machine

/-! ## Waiting messages -/

/-- Noting what waits changes nothing but which messages wait (R189). -/
theorem State.noteWaiting_eq (s : State) : s.noteWaiting = s.withWaiting s.noteWaiting.management.waiting := rfl

@[simp] theorem State.withWaiting_withWaiting (v w : List (List Waiter)) (s : State) :
    (s.withWaiting v).withWaiting w = s.withWaiting w := rfl

@[simp] theorem State.withWaiting_self (s : State) : s.withWaiting s.management.waiting = s := rfl

/-- States that differ only in what waits have the same effect (Effect leaves it open). -/
theorem Effect.of_next {i : Instr} {s t u : State} (h : exec i s = .next u) (hu : ∃ w, u = t.withWaiting w) : Effect i s t := by
  obtain ⟨w, rfl⟩ := hu
  exact ⟨w, h⟩

/-! ## Events -/

theorem event_high (f : State → State) {s : State} (h : s.pins.porn = true) : event f s = .next (f s).noteWaiting := by
  simp [event, h]

theorem event_low (f : State → State) {s : State} (h : s.pins.porn = false) : event f s = .next s := by
  simp [event, h]

/-- An event's effect, up to what waits. -/
theorem effect_of_event {i : Instr} {f : State → State} {s t : State} (he : exec i s = event f s) (hp : s.pins.porn = true)
    (h : ∃ w, f s = t.withWaiting w) : Effect i s t := by
  obtain ⟨w, hw⟩ := h
  refine ⟨(f s).noteWaiting.management.waiting, ?_⟩
  rw [he, event_high f hp, State.noteWaiting_eq, hw]
  rfl

/-- An event's effect. -/
theorem happens_of_event {i : Instr} {f : State → State} {s t : State} (he : exec i s = event f s) (h : f s = t) :
    Happens i s t :=
  fun hp => effect_of_event he hp ⟨t.management.waiting, h⟩

/-- An event's effect, up to what waits. -/
theorem happens_of_event' {i : Instr} {f : State → State} {s t : State} (he : exec i s = event f s)
    (h : ∃ w, f s = t.withWaiting w) : Happens i s t :=
  fun hp => effect_of_event he hp h

/-! ## Taking a command (R186) -/

/-- The head of the receive queue leaves it when nothing runs and its response may enter. -/
theorem State.takeHead_eq {s : State} {c : Message} (hi : s.management.running = none)
    (hm : s.management.mayEnter .response = true) (hq : s.management.receiveQueue.head? = some c) :
    s.takeHead c = some s.taken := by
  unfold State.takeHead State.taken
  dsimp only
  cases hr : s.management.receiveQueue with
  | nil => simp [hr] at hq
  | cons a rest =>
    simp only [hr, List.head?_cons, Option.some.injEq] at hq
    simp [hi, hm, hq]

theorem State.takeHead_taken {s : State} {c : Message} (h : Taken s c) : s.takeHead c = some s.taken :=
  State.takeHead_eq h.idle h.place h.head

/-- A command taken meets tests 1 and 3 of R186 as the state before it says. -/
theorem State.take_taken {s : State} {c : Message} (h : Taken s c) (inStart : Bool) (run : State → State) :
    s.take c inStart run = if s.inStart && !inStart then s.taken.respond c .notReady .empty else run s.taken := by
  have hr : s.taken.management.repeated c = none := h.fresh
  unfold State.take
  simp only [State.takeHead_taken h, hr]
  rfl

/-- A command taken and answered, up to what waits. -/
theorem State.respond_eq (c : Message) (st : Status) (v : Values) (s : State) :
    s.respond c st v = (s.answer c st v).withWaiting (s.management.without .response) := rfl

/-- What follows the tests of R186 gives the command's effect. -/
theorem effect_of_run {i : Instr} {s t : State} {c : Message} {inStart : Bool} {run : State → State}
    (he : exec i s = event (State.take c inStart run) s) (h : Taken s c) (hs : inStart = true ∨ s.inStart = false)
    (hrun : ∃ w, run s.taken = t.withWaiting w) : Effect i s t := by
  refine effect_of_event he h.porn ?_
  rw [State.take_taken h]
  rcases hs with hs | hs <;> simp [hs, hrun]

/-- In START a command that is not run there is answered NOT READY (R167). -/
theorem answers_notReady {i : Instr} {s : State} {c : Message} {run : State → State}
    (he : exec i s = event (State.take c false run) s) (h : Taken s c) (hs : s.inStart = true) :
    Answers i s c .notReady .empty s := by
  refine effect_of_event he h.porn ?_
  rw [State.take_taken h]
  simp only [hs, Bool.not_false, Bool.and_self, if_true]
  exact ⟨_, rfl⟩

/-- A command whose act succeeds is answered with its status and values, whatever the act did. -/
theorem effect_of_act {i : Instr} {s u : State} {c : Message} {inStart : Bool} {act : Act} {st : Status} {v : Values}
    (he : exec i s = event (State.take c inStart (State.runAct c act)) s) (h : Taken s c)
    (hs : inStart = true ∨ s.inStart = false) (hact : act c.msg.params s.taken = some ⟨u, st, v⟩) :
    Effect i s (u.answer c st v) := by
  refine effect_of_run he h hs ⟨u.management.without .response, ?_⟩
  simp only [State.runAct, hact, State.respond_eq]

/-- A command whose act leaves the management link alone. -/
theorem answers_of_act {i : Instr} {s t : State} {c : Message} {inStart : Bool} {act : Act} {st : Status} {v : Values}
    (he : exec i s = event (State.take c inStart (State.runAct c act)) s) (h : Taken s c)
    (hs : inStart = true ∨ s.inStart = false)
    (hact : act c.msg.params s.taken = some ⟨{ t with management := s.taken.management }, st, v⟩) : Answers i s c st v t := by
  exact effect_of_act he h hs hact

/-- A command whose parameters do not have the length it requires (test 4 of R186). -/
theorem answers_badLength {i : Instr} {s : State} {c : Message} {inStart : Bool} {act : Act}
    (he : exec i s = event (State.take c inStart (State.runAct c act)) s) (h : Taken s c)
    (hs : inStart = true ∨ s.inStart = false) (hact : act c.msg.params s.taken = none) :
    Answers i s c .badLength .empty s := by
  refine effect_of_run he h hs ⟨s.management.without .response, ?_⟩
  simp only [State.runAct, hact, State.respond_eq]
  rfl

/-- A repeated command is answered from memory (test 1 of R186). -/
theorem effect_of_repeat {i : Instr} {s : State} {c : Message} {inStart : Bool} {run : State → State} {r : OutMessage}
    (he : exec i s = event (State.take c inStart run) s) (hp : s.pins.porn = true) (hi : s.management.running = none)
    (hm : s.management.mayEnter .response = true) (hq : s.management.receiveQueue.head? = some c)
    (hl : s.management.last = some ⟨c.msg.seq, c.msg.check, r⟩) :
    Effect i s
      { s with management :=
        { s.management with
          receiveQueue := s.management.receiveQueue.tail
          outgoing := s.management.outgoing ++ [r] } } := by
  refine effect_of_event he hp ⟨s.management.without .response, ?_⟩
  have ht : s.takeHead c = some s.taken := State.takeHead_eq hi hm hq
  have hrep : s.taken.management.repeated c = some r := by
    simp [State.taken, ManagementLink.repeated, hl]
  unfold State.take
  simp only [ht, hrep]
  rfl

/-! ## Places (R189) -/

/-- A free place for a response stays free when a command begins. -/
theorem ManagementLink.mayEnter_response_running {m : ManagementLink} (r : Running) (h : m.mayEnter .response = true)
    (hi : m.running = none) : { m with running := some r }.mayEnter .response = true := by
  simp only [ManagementLink.mayEnter, hi, Option.isSome_none, Bool.and_eq_true] at h ⊢
  refine ⟨h.1, ?_⟩
  have h2 := h.2
  by_cases e : m.restartedWaits = true
  · simp [e] at h2
  · simp only [e] at h2
    have e' : ({ m with running := some r } : ManagementLink).restartedWaits = false := by
      simpa [ManagementLink.restartedWaits] using e
    simp only [e', Bool.false_eq_true, if_false]
    simpa [ManagementLink.isNext, ManagementLink.without] using h2

end Sys2Proof.Machine
end

