-- ==== Sys2Proof/Laws/Lanes.lean ====
section
/-! SUPPORT. The arbiters' candidates when there is one or none (R108, R109), and what a decision depends on (R45, R59). -/

namespace Sys2Proof.Machine

/-! ## Candidates -/

/-- With one position that passes, the cycle order gives that position alone, wherever the pointer stands. -/
theorem filter_after_sole (f : Origin → Bool) (k o : Origin) (ho : f o = true) (h : ∀ r, r ≠ o → f r = false) :
    (Origin.after k).filter f = [o] := by
  have hf : f = fun r => r == o := by
    funext r
    by_cases e : r = o
    · simp [e, ho]
    · simp [e, h r e]
  rw [hf]
  rcases k with k | _ <;> rcases o with o | _ <;> (try cases k) <;> (try cases o) <;> decide

/-- Sole candidate (R109). -/
theorem State.candidates_sole {s : State} {d : Port} {c : FrameClass} {o : Origin} (ho : s.isCandidate d c o = true)
    (h : ∀ r, r ≠ o → s.isCandidate d c r = false) : s.candidates d c = [o] :=
  filter_after_sole _ _ _ ho h

/-- No candidate. -/
theorem State.candidates_none {s : State} {d : Port} {c : FrameClass} (h : ∀ r, s.isCandidate d c r = false) :
    s.candidates d c = [] := by
  simp [State.candidates, h]

/-- A rival that has room too. -/
theorem State.candidates_rival {s : State} {d : Port} {c : FrameClass} {o r : Origin} (hr : s.isCandidate d c r = true)
    (h : r ≠ o) : s.candidates d c ≠ [o] := by
  intro e
  have : r ∈ s.candidates d c := by
    refine List.mem_filter.2 ⟨?_, hr⟩
    generalize (s.port d).pointer.get c = k
    rcases k with k | _ <;> rcases r with r | _ <;> (try cases k) <;> (try cases r) <;> decide
  rw [e, List.mem_singleton] at this
  exact h this

theorem State.isCandidate_request (s : State) (d : Port) (o : Origin) :
    s.isCandidate d .request o = (s.wantsRequestLane d o && (s.port d).requestRoom) := by
  cases o <;> rfl

/-- A slot for the router-made answer of the head's refused FETCH (R55, R108). -/
theorem State.isCandidate_answer_self {s : State} {p : Port} (h : s.wantsAnswerSlot p = true)
    (hr : (s.port p).routerMadeRoom = true) : s.isCandidate p .answer (.link p) = true := by
  simp [State.isCandidate, h, hr]

/-- A head of another port stands for the answer lane of `d` only with an answer to forward (R82, R108). -/
theorem State.isCandidate_answer_other {s : State} {p d : Port} (h : p ≠ d) :
    s.isCandidate d .answer (.link p) = (s.wantsForward p d && (s.port d).forwardedRoom) := by
  simp [State.isCandidate, h]

/-- A full answer lane has no candidate with room. -/
theorem State.isCandidate_answer_full {s : State} {d : Port} (h : (s.port d).routerMadeRoom = false) (o : Origin) :
    s.isCandidate d .answer o = false := by
  cases o <;> simp [State.isCandidate, PortState.forwardedRoom, h]

/-! ## Heads that leave their class (R43, R102) -/

theorem PortState.popRequest_eq (x : PortState) :
    x.popRequest
      = { x with
          requests := x.requests.tail
          requestWait := none
          owed := if x.link.isUp then x.owed.set .request (x.owed.request + 1) else x.owed } := by
  unfold PortState.popRequest PortState.oweCredit
  cases h : x.link.isUp <;> simp only [Bool.false_eq_true, if_false, if_true, PerClass.get]

/-- A request head dropped: it leaves its class, counts, and its credit is owed while the link is UP. -/
theorem State.dropRequest_eq (p : Port) (s : State) :
    s.dropRequest p
      = s.modPort p fun x =>
        { x with
          requests := x.requests.tail
          requestWait := none
          owed := if s.isUp p then x.owed.set .request (x.owed.request + 1) else x.owed
          counters := x.counters.addDropped } := by
  simp only [State.dropRequest, State.modPort, PortState.count, PortState.popRequest_eq]
  rfl

theorem PortState.popAnswer_eq (x : PortState) :
    x.popAnswer
      = { x with
          answers := x.answers.tail
          answerWait := none
          owed := if x.link.isUp then x.owed.set .answer (x.owed.answer + 1) else x.owed } := by
  unfold PortState.popAnswer PortState.oweCredit
  cases h : x.link.isUp <;> simp only [Bool.false_eq_true, if_false, if_true, PerClass.get]

/-- An answer head discarded, alike. -/
theorem State.dropAnswer_eq (p : Port) (s : State) :
    s.dropAnswer p
      = s.modPort p fun x =>
        { x with
          answers := x.answers.tail
          answerWait := none
          owed := if s.isUp p then x.owed.set .answer (x.owed.answer + 1) else x.owed
          counters := x.counters.addDropped } := by
  simp only [State.dropAnswer, State.modPort, PortState.count, PortState.popAnswer_eq]
  rfl

/-- A tag below 64 names its entry (R78). -/
theorem State.lookup_of_val {s : State} {tag : Byte} {i : RouterTag} (h : i.val = tag.toNat) : s.lookup tag = some (i, s.entry i) := by
  have hlt : tag.toNat < 64 := h ▸ i.isLt
  have e : (⟨tag.toNat, hlt⟩ : RouterTag) = i := Fin.ext h.symm
  simp [State.lookup, hlt, e]

/-! ## Decisions -/

/-- What a decision reads: router state, route tables, link states. -/
structure SameRouting (s t : State) : Prop where
  loader : t.loader.state = s.loader.state
  routes : t.routes = s.routes
  links : ∀ p, (t.port p).link = (s.port p).link

theorem SameRouting.isForwarding {s t : State} (h : SameRouting s t) : t.isForwarding = s.isForwarding := by
  simp only [State.isForwarding, h.loader]

theorem SameRouting.isUp {s t : State} (h : SameRouting s t) (p : Port) : t.isUp p = s.isUp p := by
  simp only [State.isUp, h.links]

theorem SameRouting.routeRequest {s t : State} (h : SameRouting s t) (i : Origin) (a : Word32) (n : Nat) :
    t.routeRequest i a n = s.routeRequest i a n := by
  simp only [State.routeRequest, h.isForwarding, h.routes, h.isUp]

theorem SameRouting.routeNotice {s t : State} (h : SameRouting s t) (i : Origin) (st : Byte) :
    t.routeNotice i st = s.routeNotice i st := by
  simp only [State.routeNotice, State.forOwnStation, State.inStart, h.loader, h.isForwarding, h.routes, h.isUp]

theorem SameRouting.decideHead {s t : State} (h : SameRouting s t) {τ : Type} (i : Origin) (r : Request τ) :
    t.decideHead i r = s.decideHead i r := by
  cases r <;> simp only [State.decideHead, State.storeVerdict, h.routeRequest, h.routeNotice, h.isUp, h.links, h.routes]

theorem SameRouting.refl (s : State) : SameRouting s s := ⟨rfl, rfl, fun _ => rfl⟩

theorem SameRouting.trans {s t u : State} (h : SameRouting s t) (k : SameRouting t u) : SameRouting s u :=
  ⟨k.loader.trans h.loader, k.routes.trans h.routes, fun p => (k.links p).trans (h.links p)⟩

theorem SameRouting.detect (o : Origin) (c : Condition) (x : Subject) (s : State) : SameRouting s (s.detect o c x) :=
  ⟨by simp, by simp, fun p => by simp⟩

theorem SameRouting.modPort (p : Port) (f : PortState → PortState) (s : State) (h : (f (s.port p)).link = (s.port p).link) :
    SameRouting s (s.modPort p f) := by
  refine ⟨rfl, rfl, fun q => ?_⟩
  rw [State.port_modPort]
  split
  · rename_i e; rw [h, e]
  · rfl

/-- A request decided PLACE goes to a port that is UP. -/
theorem State.isUp_of_place {s : State} {i : Origin} {a : Word32} {n : Nat} {p : Port}
    (h : (s.routeRequest i a n).verdict = .place p) : s.isUp p = true := by
  unfold State.routeRequest at h
  dsimp only at h
  split at h
  · simp at h
  · cases ht : s.routes.targetOf i (s.routes.claimOf a) with
    | none => simp [ht] at h
    | some q =>
      simp only [ht] at h
      repeat' split at h
      all_goals simp_all

/-- A notice decided PLACE goes to a port that is UP. -/
theorem State.isUp_of_place_notice {s : State} {i : Origin} {st : Byte} {p : Port}
    (h : (s.routeNotice i st).verdict = .place p) : s.isUp p = true := by
  unfold State.routeNotice at h
  dsimp only at h
  split at h
  · simp at h
  · split at h
    · simp at h
    · cases ht : s.routes.targetOf i (s.routes.stationClaim st) with
      | none => simp [ht] at h
      | some q =>
        simp only [ht] at h
        repeat' split at h
        all_goals simp_all

/-- Any request decided PLACE goes to a port that is UP. -/
theorem State.isUp_of_decide_place {τ : Type} {s : State} {i : Origin} {r : Request τ} {p : Port}
    (h : s.decideHead i r = .place p) : s.isUp p = true := by
  cases r with
  | store a d sp =>
    simp only [State.decideHead] at h
    cases hv : (s.routeRequest i a d.length).verdict with
    | place q =>
      have hu := State.isUp_of_place hv
      simp only [hv, State.storeVerdict] at h
      split at h
      · simp at h
      · split at h
        · simp at h
        · simp only [Verdict.place.injEq] at h; rw [← h]; exact hu
    | inbox => simp [hv] at h
    | refuse st c => simp [hv] at h
    | drop c => simp [hv] at h
  | fetch a n t sp => exact State.isUp_of_place h
  | notice st f c b sp => exact State.isUp_of_place_notice h

end Sys2Proof.Machine
end

