-- ==== Sys2Proof/Laws/Traffic.lean ====
section
/-! SUPPORT. What traffic never touches. The operations over frames, lanes, entries, links and conditions keep every setting, the router
state, the receive queue and the streams, whatever else they do: one lemma for each operation, which a proof cites instead of unfolding
it. -/

namespace Sys2Proof.Machine

/-- What traffic keeps: the queue of commands, the pins, every setting, the loader, the receive queue, the streams. -/
structure Kept (s t : State) : Prop where
  pending : t.pending = s.pending
  pins : t.pins = s.pins
  routes : t.routes = s.routes
  quotas : t.exchange.quotas = s.exchange.quotas
  timers : t.exchange.timers = s.exchange.timers
  settings : ∀ p, (t.port p).settings = (s.port p).settings
  stallLimit : t.stallLimit = s.stallLimit
  reporting : t.conditions.reporting = s.conditions.reporting
  streams : t.notification.streams = s.notification.streams
  countFixed : t.notification.countFixed = s.notification.countFixed
  loader : t.loader = s.loader
  receiveQueue : t.management.receiveQueue = s.management.receiveQueue

theorem Kept.refl (s : State) : Kept s s := ⟨rfl, rfl, rfl, rfl, rfl, fun _ => rfl, rfl, rfl, rfl, rfl, rfl, rfl⟩

theorem Kept.trans {s t u : State} (h : Kept s t) (k : Kept t u) : Kept s u :=
  ⟨k.pending.trans h.pending, k.pins.trans h.pins, k.routes.trans h.routes, k.quotas.trans h.quotas, k.timers.trans h.timers,
    fun p => (k.settings p).trans (h.settings p), k.stallLimit.trans h.stallLimit, k.reporting.trans h.reporting,
    k.streams.trans h.streams, k.countFixed.trans h.countFixed, k.loader.trans h.loader, k.receiveQueue.trans h.receiveQueue⟩

/-! ## Small operations -/

theorem Kept.modPort (p : Port) (f : PortState → PortState) (s : State) (h : (f (s.port p)).settings = (s.port p).settings) :
    Kept s (s.modPort p f) := by
  refine ⟨rfl, rfl, rfl, rfl, rfl, fun q => ?_, rfl, rfl, rfl, rfl, rfl, rfl⟩
  rw [State.port_modPort]
  split
  · rename_i e; rw [h, e]
  · rfl

theorem Kept.setEntry (i : RouterTag) (e : Entry) (s : State) : Kept s (s.setEntry i e) :=
  ⟨rfl, rfl, rfl, rfl, rfl, fun _ => rfl, rfl, rfl, rfl, rfl, rfl, rfl⟩

theorem Kept.emit (e : Emission) (s : State) : Kept s (s.emit e) :=
  ⟨rfl, rfl, rfl, rfl, rfl, fun _ => rfl, rfl, rfl, rfl, rfl, rfl, rfl⟩

theorem Kept.latch (i : SetId) (c : Condition) (s : State) : Kept s (s.latch i c) := by
  refine ⟨?_, ?_, ?_, ?_, ?_, fun q => ?_, ?_, ?_, ?_, ?_, ?_, ?_⟩ <;> simp

theorem Kept.detect (o : Origin) (c : Condition) (x : Subject) (s : State) : Kept s (s.detect o c x) := by
  refine (Kept.latch (.origin o) c s).trans ?_
  unfold State.detect State.fillCapture
  split <;> exact ⟨rfl, rfl, rfl, rfl, rfl, fun _ => rfl, rfl, rfl, rfl, rfl, rfl, rfl⟩

theorem Kept.countRouter (f : RouterCounters → RouterCounters) (s : State) : Kept s (s.countRouter f) :=
  ⟨rfl, rfl, rfl, rfl, rfl, fun _ => rfl, rfl, rfl, rfl, rfl, rfl, rfl⟩

theorem Kept.withInbox (l : List NoticeRecord) (s : State) : Kept s { s with inbox := l } :=
  ⟨rfl, rfl, rfl, rfl, rfl, fun _ => rfl, rfl, rfl, rfl, rfl, rfl, rfl⟩

theorem Kept.withHostFetch (h : HostFetch) (s : State) : Kept s { s with hostFetch := h } :=
  ⟨rfl, rfl, rfl, rfl, rfl, fun _ => rfl, rfl, rfl, rfl, rfl, rfl, rfl⟩

theorem Kept.elapse (n : Nat) (s : State) : Kept s (s.elapse n) := by
  refine ⟨rfl, rfl, rfl, rfl, rfl, fun q => ?_, rfl, rfl, rfl, rfl, rfl, rfl⟩
  cases q <;> rfl

theorem Kept.setPointer (p : Port) (c : FrameClass) (o : Origin) (s : State) : Kept s (s.setPointer p c o) :=
  .modPort _ _ _ rfl

@[simp] theorem PortState.settings_oweCredit (c : FrameClass) (x : PortState) : (x.oweCredit c).settings = x.settings := by
  unfold PortState.oweCredit; split <;> rfl

@[simp] theorem PortState.settings_popRequest (x : PortState) : x.popRequest.settings = x.settings := by
  simp [PortState.popRequest]

@[simp] theorem PortState.settings_popAnswer (x : PortState) : x.popAnswer.settings = x.settings := by
  simp [PortState.popAnswer]

theorem Kept.popRequest (p : Port) (s : State) : Kept s (s.modPort p PortState.popRequest) := .modPort _ _ _ (by simp)

theorem Kept.popAnswer (p : Port) (s : State) : Kept s (s.modPort p PortState.popAnswer) := .modPort _ _ _ (by simp)

theorem Kept.dropRequest (p : Port) (s : State) : Kept s (s.dropRequest p) :=
  .modPort _ _ _ (by simp [PortState.count])

theorem Kept.dropAnswer (p : Port) (s : State) : Kept s (s.dropAnswer p) :=
  .modPort _ _ _ (by simp [PortState.count])

/-! ## The exchange table -/

theorem Kept.withdraw (i : RouterTag) (d : Port) (s : State) : Kept s (s.withdraw i d) :=
  .modPort _ _ _ (by rw [PortState.withdrawFetch_eq])

theorem Kept.withdrawQueued (i : RouterTag) (x : Exchange) (issue : Issue) (s : State) : Kept s (s.withdrawQueued i x issue) := by
  cases issue
  · exact .withdraw i x.dest s
  · exact .refl s

theorem Kept.tellEnd (cause : EndCause) (o : Requester) (s : State) : Kept s (s.tellEnd cause o) := by
  unfold State.tellEnd
  split
  · split
    · exact .modPort _ _ _ rfl
    · exact .refl s
  · exact .withHostFetch _ s

theorem Kept.endEntry (i : RouterTag) (cause : EndCause) (w : Bool) (s : State) : Kept s (s.endEntry i cause w) := by
  unfold State.endEntry State.toQuarantine
  split
  · rename_i x issue d _
    refine (Kept.tellEnd cause x.origin s).trans ?_
    cases w
    · exact .setEntry _ _ _
    · exact (Kept.withdrawQueued _ _ _ _).trans (.setEntry _ _ _)
  · cases w
    · exact .setEntry _ _ _
    · exact (Kept.withdrawQueued _ _ _ _).trans (.setEntry _ _ _)
  · exact .refl s
  · exact .refl s

theorem Kept.freeEntry (i : RouterTag) (x : Exchange) (issue : Issue) (s : State) : Kept s (s.freeEntry i x issue) :=
  (Kept.withdrawQueued _ _ _ _).trans (.setEntry _ _ _)

theorem Kept.noteForwarded (i : RouterTag) (x : Exchange) (issue : Issue) (d : Nat) (a : Answer) (s : State) :
    Kept s (s.noteForwarded i x issue d a) := by
  unfold State.noteForwarded
  split
  · exact .freeEntry _ _ _ _
  · exact .setEntry _ _ _

theorem Kept.openEntry (i : RouterTag) (o : Requester) (d : Port) (a : Word32) (n : Nat) (s : State) :
    Kept s (s.openEntry i o d a n) := .setEntry _ _ _

/-! ## Host requests -/

theorem Kept.offerResponse (c : Message) (r : OutMessage) (s : State) : Kept s (s.offerResponse c r) := by
  unfold State.offerResponse
  split <;> exact ⟨rfl, rfl, rfl, rfl, rfl, fun _ => rfl, rfl, rfl, rfl, rfl, rfl, rfl⟩

theorem Kept.conclude (st : Status) (v : Values) (s : State) : Kept s (s.conclude st v) := by
  unfold State.conclude
  split
  · exact .offerResponse _ _ _
  · exact .refl s

/-! ## Grants -/

theorem Kept.grantSlot (p : Port) (s : State) : Kept s (s.grantSlot p) := by
  unfold State.grantSlot
  split
  · exact ((Kept.modPort _ _ _ rfl).trans (.dropRequest _ _)).trans (.setPointer _ _ _ _)
  · exact .refl s

theorem Kept.grantForward (p o : Port) (s : State) : Kept s (s.grantForward p o) := by
  unfold State.grantForward
  split
  · split
    · split
      · exact (((Kept.modPort _ _ _ rfl).trans (.noteForwarded _ _ _ _ _ _)).trans (.popAnswer _ _)).trans (.setPointer _ _ _ _)
      · exact .refl s
    · exact .refl s
  · exact .refl s

theorem Kept.grantAnswerLane (d : Port) (o : Origin) (s : State) : Kept s (s.grantAnswerLane d o) := by
  unfold State.grantAnswerLane
  split
  · split
    · exact .grantSlot _ _
    · exact .grantForward _ _ _
  · exact .refl s

theorem Kept.offerAnswerLane (d : Port) (o : Origin) (s : State) : Kept s (s.offerAnswerLane d o) := by
  unfold State.offerAnswerLane
  split
  · exact .grantAnswerLane _ _ _
  · exact .refl s

theorem Kept.refuseHead (p : Port) (r : Request Byte) (st : AnsStatus) (l : Nat) (s : State) :
    Kept s (s.refuseHead p r st l) := by
  cases r
  · exact .dropRequest _ _
  · exact (Kept.modPort _ _ _ rfl).trans (.offerAnswerLane _ _ _)
  · exact .dropRequest _ _

theorem Kept.placeRequest (d : Port) (o : Origin) (r : Request RouterTag) (s : State) : Kept s (s.placeRequest d o r) :=
  (Kept.modPort _ _ _ rfl).trans (.setPointer _ _ _ _)

theorem Kept.grantLink (d p : Port) (s : State) : Kept s (s.grantLink d p) := by
  unfold State.grantLink
  split
  · split
    · split
      · exact ((Kept.openEntry _ _ _ _ _ _).trans (.placeRequest _ _ _ _)).trans (.popRequest _ _)
      · exact ((Kept.setPointer _ _ _ _).trans (.detect _ _ _ _)).trans (.refuseHead _ _ _ _ _)
    · exact (Kept.placeRequest _ _ _ _).trans (.popRequest _ _)
    · exact (Kept.placeRequest _ _ _ _).trans (.popRequest _ _)
  · exact .refl s

theorem Kept.grantHost (d : Port) (s : State) : Kept s (s.grantHost d) := by
  unfold State.grantHost
  split
  · split
    · exact (((Kept.openEntry _ _ _ _ _ _).trans (.placeRequest _ _ _ _)).trans (.withHostFetch _ _)).trans (.conclude _ _ _)
    · exact ((Kept.setPointer _ _ _ _).trans (.detect _ _ _ _)).trans (.conclude _ _ _)
  · exact (Kept.placeRequest _ _ _ _).trans (.conclude _ _ _)
  · exact (Kept.placeRequest _ _ _ _).trans (.conclude _ _ _)
  · exact .refl s

theorem Kept.grantRequestLane (d : Port) (o : Origin) (s : State) : Kept s (s.grantRequestLane d o) := by
  cases o
  · exact .grantLink _ _ _
  · exact .grantHost _ _

theorem Kept.offerRequestLane (d : Port) (o : Origin) (s : State) : Kept s (s.offerRequestLane d o) := by
  unfold State.offerRequestLane
  split
  · exact .grantRequestLane _ _ _
  · exact .refl s

/-! ## Heads -/

theorem Kept.appendInbox (r : NoticeRecord) (s : State) : Kept s (s.appendInbox r) := by
  unfold State.appendInbox
  split
  · exact (Kept.latch _ _ _).trans (.countRouter _ _)
  · exact (Kept.withInbox _ _).trans (.latch _ _ _)

theorem Kept.inboxHead (p : Port) (r : Request Byte) (s : State) : Kept s (s.inboxHead p r) := by
  unfold State.inboxHead
  split
  · split
    · exact (Kept.appendInbox _ _).trans (.dropRequest _ _)
    · exact (Kept.appendInbox _ _).trans (.popRequest _ _)
  · exact .refl s

theorem Kept.takeUpRequest (p : Port) (r : Request Byte) (s : State) : Kept s (s.takeUpRequest p r) := by
  have h : Kept s (if r.spoiled then s.detect (.link p) .spoiled r.subject else s) := by
    split
    · exact .detect _ _ _ _
    · exact .refl s
  unfold State.takeUpRequest
  generalize (if r.spoiled then s.detect (.link p) .spoiled r.subject else s) = t at h
  refine h.trans ?_
  dsimp only
  split
  · exact (Kept.modPort _ _ _ rfl).trans (.offerRequestLane _ _ _)
  · exact .inboxHead _ _ _
  · exact (Kept.detect _ _ _ _).trans (.refuseHead _ _ _ _ _)
  · exact .dropRequest _ _
  · exact (Kept.detect _ _ _ _).trans (.dropRequest _ _)

theorem Kept.serveRequestsUpTo (n : Nat) (p : Port) (s : State) : Kept s (s.serveRequestsUpTo n p) := by
  induction n generalizing s with
  | zero => exact .refl s
  | succ n ih =>
    unfold State.serveRequestsUpTo
    split
    · exact (Kept.takeUpRequest _ _ _).trans (ih _)
    · exact .refl s

theorem Kept.serveRequests (p : Port) (s : State) : Kept s (s.serveRequests p) := .serveRequestsUpTo _ _ _

theorem Kept.matchOpen (p : Port) (a : Answer) (i : RouterTag) (x : Exchange) (issue : Issue) (d : Nat) (s : State) :
    Kept s (s.matchOpen p a i x issue d) := by
  unfold State.matchOpen
  dsimp only
  split
  · exact ((Kept.detect _ _ _ _).trans (.dropAnswer _ _)).trans (.endEntry _ _ _ _)
  · split
    · exact ((Kept.noteForwarded _ _ _ _ _ _).trans (.withHostFetch _ _)).trans (.popAnswer _ _)
    · split
      · exact ((Kept.detect _ _ _ _).trans (.dropAnswer _ _)).trans (.endEntry _ _ _ _)
      · exact (Kept.modPort _ _ _ rfl).trans (.offerAnswerLane _ _ _)

theorem Kept.matchAnswer (p : Port) (a : Answer) (s : State) : Kept s (s.matchAnswer p a) := by
  have stray : Kept s ((s.detect (.link p) .strayAnswer (s.answerSubject a)).dropAnswer p) :=
    (Kept.detect _ _ _ _).trans (.dropAnswer _ _)
  unfold State.matchAnswer
  dsimp only
  split
  · exact stray
  · exact stray
  · split
    · exact .matchOpen _ _ _ _ _ _ _
    · exact stray
  · split
    · split
      · exact (Kept.dropAnswer _ _).trans (.freeEntry _ _ _ _)
      · exact .dropAnswer _ _
    · exact stray
  · split
    · exact (Kept.detect _ _ _ _).trans (.dropAnswer _ _)
    · exact stray

theorem Kept.takeUpAnswer (p : Port) (a : Answer) (s : State) : Kept s (s.takeUpAnswer p a) := by
  unfold State.takeUpAnswer
  split
  · exact (Kept.detect _ _ _ _).trans (.matchAnswer _ _ _)
  · exact .matchAnswer _ _ _

theorem Kept.serveAnswersUpTo (n : Nat) (p : Port) (s : State) : Kept s (s.serveAnswersUpTo n p) := by
  induction n generalizing s with
  | zero => exact .refl s
  | succ n ih =>
    unfold State.serveAnswersUpTo
    split
    · exact (Kept.takeUpAnswer _ _ _).trans (ih _)
    · exact .refl s

theorem Kept.serveAnswers (p : Port) (s : State) : Kept s (s.serveAnswers p) := .serveAnswersUpTo _ _ _

theorem Kept.rematch (p : Port) (s : State) : Kept s (s.rematch p) := by
  unfold State.rematch
  split
  · split
    · exact .refl s
    · exact (Kept.matchAnswer _ _ _).trans (.serveAnswers _ _)
  · exact .refl s

theorem Kept.endAndRematch (i : RouterTag) (cause : EndCause) (s : State) : Kept s (s.endAndRematch i cause) := by
  unfold State.endAndRematch
  split
  · exact (Kept.endEntry _ _ _ _).trans (.rematch _ _)
  · exact .refl s

theorem Kept.redecideLink (p : Port) (st : AnsStatus) (c : Condition) (s : State) : Kept s (s.redecideLink p st c) := by
  unfold State.redecideLink
  split
  · exact ((Kept.detect _ _ _ _).trans (.refuseHead _ _ _ _ _)).trans (.serveRequests _ _)
  · exact .refl s

theorem Kept.redecideHost (s : State) : Kept s s.redecideHost := by
  unfold State.redecideHost
  split
  · exact (Kept.detect _ _ _ _).trans (.conclude _ _ _)
  · exact .refl s

/-- A fold of steps each of which traffic may take. -/
theorem Kept.foldl {α : Type} (l : List α) (f : State → α → State) (h : ∀ s a, Kept s (f s a)) (s : State) :
    Kept s (l.foldl f s) := by
  induction l generalizing s with
  | nil => exact .refl s
  | cons a l ih => exact (h s a).trans (ih _)

theorem Kept.redecideAll (s : State) : Kept s s.redecideAll := .foldl _ _ (fun _ _ => .redecideLink _ _ _ _) s

theorem Kept.redecideFor (d : Port) (s : State) : Kept s (s.redecideFor d) := by
  have h : Kept s (Port.all.foldl
      (fun s p => if s.wantsRequestLane d (.link p) then s.redecideLink p .portDown .noRoute else s) s) := by
    refine .foldl _ _ (fun s p => ?_) s
    split
    · exact .redecideLink _ _ _ _
    · exact .refl s
  unfold State.redecideFor
  refine h.trans ?_
  dsimp only
  split
  · exact .redecideHost _
  · exact .refl _

theorem Kept.serveOrigin (c : FrameClass) (o : Origin) (s : State) : Kept s (s.serveOrigin c o) := by
  unfold State.serveOrigin
  split
  · exact .serveRequests _ _
  · exact (Kept.serveAnswers _ _).trans (.serveRequests _ _)
  · exact .refl s

theorem Kept.grantDown (d : Port) (l : List Origin) (s : State) : Kept s (s.grantDown d l) := by
  induction l generalizing s with
  | nil => exact .refl s
  | cons o l ih =>
    unfold State.grantDown
    split
    · dsimp only
      split
      · exact ((Kept.grantRequestLane _ _ _).trans (.serveOrigin _ _ _)).trans (ih _)
      · exact (Kept.grantRequestLane _ _ _).trans (.serveOrigin _ _ _)
    · exact ih s

theorem Kept.grantLane (d : Port) (c : FrameClass) (s : State) : Kept s (s.grantLane d c) := by
  unfold State.grantLane
  split
  · exact .grantDown _ _ _
  · split
    · exact (Kept.grantAnswerLane _ _ _).trans (.serveOrigin _ _ _)
    · exact .refl s

/-! ## Links -/

theorem Kept.endLinkLost (p : Port) (s : State) : Kept s (s.endLinkLost p) := by
  refine .foldl _ _ (fun s i => ?_) s
  split
  · exact .endEntry _ _ _ _
  · exact .refl s

theorem Kept.orphan (p : Port) (s : State) : Kept s (s.orphan p) :=
  ⟨rfl, rfl, rfl, rfl, rfl, fun _ => rfl, rfl, rfl, rfl, rfl, rfl, rfl⟩

theorem Kept.leaveUp (p : Port) (l : Link) (cause : DownCause) (s : State) : Kept s (s.leaveUp p l cause) := by
  unfold State.leaveUp
  exact
    (((((Kept.latch _ _ _).trans (.modPort _ _ _ rfl)).trans (.endLinkLost _ _)).trans (.orphan _ _)).trans
      (.redecideFor _ _)).trans (.foldl _ _ (fun _ _ => .rematch _ _) _)

theorem Kept.damaged (p : Port) (s : State) : Kept s (s.damaged p) := by
  have h : Kept s (s.modPort p (PortState.count Counters.addDamaged)) := .modPort _ _ _ rfl
  unfold State.damaged
  refine h.trans ?_
  dsimp only
  split
  · split
    · exact .leaveUp _ _ _ _
    · exact .modPort _ _ _ rfl
  · exact .refl _

theorem Kept.startTraining (p : Port) (s : State) : Kept s (s.startTraining p) := (Kept.modPort _ _ _ rfl).trans (.emit _ _)

theorem Kept.comeUp (p : Port) (g : Greeting) (s : State) : Kept s (s.comeUp p g) := (Kept.modPort _ _ _ rfl).trans (.latch _ _ _)

theorem Kept.failAttempt (p : Port) (cause : FailCause) (s : State) : Kept s (s.failAttempt p cause) := by
  unfold State.failAttempt
  dsimp only
  split
  · exact (Kept.modPort _ _ _ rfl).trans (.modPort _ _ _ rfl)
  · exact ((Kept.modPort _ _ _ rfl).trans (.modPort _ _ _ rfl)).trans (.latch _ _ _)

/-! ## Arrivals, sending, run-outs -/

theorem Kept.malformed (p : Port) (s : State) : Kept s (s.malformed p) := (Kept.latch _ _ _).trans (.modPort _ _ _ rfl)

theorem Kept.frameArrives (p : Port) (c : FrameClass) (bytes : List Byte) (s : State) : Kept s (s.frameArrives p c bytes) := by
  unfold State.frameArrives
  split
  · split
    · exact .malformed _ _
    · refine (Kept.modPort p (PortState.useGranted c) s rfl).trans ?_
      unfold State.frameInCredit
      dsimp only
      split
      · exact (Kept.modPort _ _ _ (by simp)).trans (.damaged _ _)
      · split
        · exact (Kept.malformed _ _).trans (.modPort _ _ _ (by simp))
        · rename_i f _
          refine (Kept.modPort p (PortState.accept f) _ (by cases f <;> rfl)).trans ?_
          cases f
          · exact .serveRequests _ _
          · exact .serveAnswers _ _
  · split
    · exact .modPort _ _ _ rfl
    · exact .damaged _ _

theorem Kept.transmit (p : Port) (s : State) : Kept s (s.transmit p) := by
  have answer : ∀ a rest, Kept s (s.sendAnswer p a rest) := fun a rest => by
    refine .modPort _ _ _ ?_
    dsimp only
    split <;> rfl
  have request : ∀ r rest, Kept s (s.sendRequest p r rest) := fun r rest => by
    have h : Kept s (s.modPort p fun x =>
        (PortState.count Counters.addSent { x with requestLane := rest, sending := some (.request r.request) }).usePartner .request) :=
      .modPort _ _ _ rfl
    unfold State.sendRequest
    dsimp only
    split
    · exact h.trans (.setEntry _ _ _)
    · exact h
    · exact h
  unfold State.transmit
  dsimp only
  split
  · split
    · split
      · exact answer _ _
      · split
        · split
          · exact request _ _
          · exact .refl s
        · exact .refl s
    · split
      · exact request _ _
      · exact .refl s
    · exact .refl s
  · exact .refl s

theorem Kept.stall (t : StallTimer) (s : State) : Kept s (s.stall t) := by
  unfold State.stall
  split
  · unfold State.stallRequest
    split
    · exact (((Kept.elapse _ _).trans (.detect _ _ _ _)).trans (.dropRequest _ _)).trans (.serveRequests _ _)
    · exact .refl s
  · unfold State.stallAnswer
    split
    · dsimp only
      refine Kept.trans (t := (_ : State)) ?_ (.serveAnswers _ _)
      split
      · exact (((Kept.elapse _ _).trans (.detect _ _ _ _)).trans (.dropAnswer _ _)).trans (.endEntry _ _ _ _)
      · exact ((Kept.elapse _ _).trans (.detect _ _ _ _)).trans (.dropAnswer _ _)
    · exact .refl s
  · unfold State.stallHost
    split
    · exact ((Kept.elapse _ _).trans (.detect _ _ _ _)).trans (.conclude _ _ _)
    · exact .refl s

theorem Kept.deadlineEnds (i : RouterTag) (s : State) : Kept s (s.deadlineEnds i) := by
  unfold State.deadlineEnds
  split
  · exact ((Kept.elapse _ _).trans (.detect _ _ _ _)).trans (.endAndRematch _ _ _)
  · exact (Kept.elapse _ _).trans (.endAndRematch _ _ _)
  · exact .refl s
  · exact .refl s

/-- Noting what waits changes nothing but which messages wait. -/
theorem Kept.noteWaiting (s : State) : Kept s s.noteWaiting :=
  ⟨rfl, rfl, rfl, rfl, rfl, fun _ => rfl, rfl, rfl, rfl, rfl, rfl, rfl⟩

/-- An event of traffic keeps what traffic keeps. -/
theorem Kept.event {f : State → State} {s t : State} (h : ∀ u, Kept u (f u)) (he : Machine.event f s = .next t) : Kept s t := by
  unfold Machine.event at he
  split at he
  · cases he; exact (h s).trans (.noteWaiting _)
  · cases he; exact .refl s

end Sys2Proof.Machine
end

