-- ==== Sys2Proof/Laws/Buffers.lean ====
section
/-! SUPPORT. The bounds of buffers, lanes and credits (BufferLaw): what each update of a port asks to keep them, and that each shared
operation of traffic keeps them. -/

namespace Sys2Proof.Machine

/-! ## One port -/

theorem PortLaw.count {x : PortState} (f : Counters → Counters) (h : PortLaw x) : PortLaw (x.count f) :=
  ⟨h.credit, h.requestLane, h.answerLane, h.window, h.partner, h.down, h.waits⟩

theorem PortLaw.withPointer {x : PortState} (v : PerClass Origin) (h : PortLaw x) : PortLaw { x with pointer := v } :=
  ⟨h.credit, h.requestLane, h.answerLane, h.window, h.partner, h.down, h.waits⟩

theorem PortLaw.withSettings {x : PortState} (v : Setting LinkSettings) (h : PortLaw x) : PortLaw { x with settings := v } :=
  ⟨h.credit, h.requestLane, h.answerLane, h.window, h.partner, h.down, h.waits⟩

/-- A port that is not UP keeps its bounds whatever its link state becomes, short of UP. -/
theorem PortLaw.withLink {x : PortState} {l : Link} (h : PortLaw x) (hx : x.link.isUp = false) (hl : l.isUp = false) :
    PortLaw { x with link := l } :=
  ⟨h.credit, h.requestLane, h.answerLane, h.window, fun e => absurd e (by simp [hl]), fun _ => h.down hx, h.waits⟩

/-- There is a slot of the class that no frame, no credit and no return owed stands for. -/
def PortState.Spare (x : PortState) (c : FrameClass) : Prop := x.granted.get c + x.owed.get c + x.held c < 4

/-- A credit return is owed for a spare slot. -/
theorem PortLaw.oweCredit {x : PortState} {c : FrameClass} (h : PortLaw x) (hs : x.Spare c) : PortLaw (x.oweCredit c) := by
  unfold PortState.oweCredit
  split
  · rename_i up
    refine ⟨fun d => ?_, h.requestLane, h.answerLane, h.window, h.partner, fun e => absurd up (by simpa using e), h.waits⟩
    have hd := h.credit d
    unfold PortState.Spare at hs
    cases c <;> cases d <;> simp only [PerClass.get, PerClass.set, PortState.held] at * <;> omega
  · exact h

theorem PortLaw.leaveRequests {x : PortState} (h : PortLaw x) :
    PortLaw { x with requests := x.requests.tail, requestWait := none } := by
  refine ⟨fun c => ?_, h.requestLane, h.answerLane, h.window, h.partner, fun e => ?_, fun e => absurd rfl e, h.waits.2⟩
  · have := h.credit c
    cases c <;> simp only [PortState.held, List.length_tail] at * <;> omega
  · have := h.down e
    simp_all

theorem PortLaw.leaveAnswers {x : PortState} (h : PortLaw x) :
    PortLaw { x with answers := x.answers.tail, answerWait := none } := by
  refine ⟨fun c => ?_, h.requestLane, h.answerLane, h.window, h.partner, fun e => ?_, h.waits.1, fun e => absurd rfl e⟩
  · have := h.credit c
    cases c <;> simp only [PortState.held, List.length_tail] at * <;> omega
  · have := h.down e
    simp_all

theorem PortLaw.popRequest {x : PortState} (h : PortLaw x) (hr : x.requests ≠ []) : PortLaw x.popRequest := by
  refine h.leaveRequests.oweCredit ?_
  have := h.credit .request
  have := List.length_pos_of_ne_nil hr
  simp only [PortState.Spare, PortState.held, List.length_tail] at *
  omega

theorem PortLaw.popAnswer {x : PortState} (h : PortLaw x) (hr : x.answers ≠ []) : PortLaw x.popAnswer := by
  refine h.leaveAnswers.oweCredit ?_
  have := h.credit .answer
  have := List.length_pos_of_ne_nil hr
  simp only [PortState.Spare, PortState.held, List.length_tail] at *
  omega

/-- A waiting state goes to a class that holds a head. -/
theorem PortLaw.waitRequest {x : PortState} (w : Option RequestWait) (h : PortLaw x) (hr : x.requests ≠ []) :
    PortLaw { x with requestWait := w } :=
  ⟨h.credit, h.requestLane, h.answerLane, h.window, h.partner, h.down, fun _ => hr, h.waits.2⟩

theorem PortLaw.waitAnswer {x : PortState} (w : Option Nat) (h : PortLaw x) (hr : x.answers ≠ []) :
    PortLaw { x with answerWait := w } :=
  ⟨h.credit, h.requestLane, h.answerLane, h.window, h.partner, h.down, h.waits.1, fun _ => hr⟩

theorem PortLaw.pushRequest {x : PortState} (r : LaneRequest) (h : PortLaw x) (hr : x.requestRoom = true) :
    PortLaw (x.pushRequest r) := by
  simp only [PortState.requestRoom, Bool.and_eq_true, decide_eq_true_eq] at hr
  have size : Config.requestLaneSize = 12 := rfl
  refine ⟨h.credit, ?_, h.answerLane, h.window, h.partner, fun e => absurd hr.1 (by simpa [PortState.pushRequest] using e),
    h.waits⟩
  simp only [PortState.pushRequest, List.length_append, List.length_singleton]
  omega

theorem forwardedCount_append (l : List LaneAnswer) (a : LaneAnswer) :
    forwardedCount (l ++ [a]) = forwardedCount l + if a.routerMade then 0 else 1 := by
  cases h : a.routerMade <;> simp [forwardedCount, h]

theorem PortLaw.pushAnswer {x : PortState} (a : LaneAnswer) (h : PortLaw x) (hr : x.routerMadeRoom = true)
    (hf : a.routerMade = true ∨ x.forwardedRoom = true) : PortLaw (x.pushAnswer a) := by
  simp only [PortState.forwardedRoom, Bool.and_eq_true, decide_eq_true_eq] at hf
  simp only [PortState.routerMadeRoom, Bool.and_eq_true, decide_eq_true_eq] at hr
  have size : Config.answerLaneSize = 8 ∧ Config.forwardedMax = 6 := ⟨rfl, rfl⟩
  have hl := h.answerLane
  refine ⟨h.credit, h.requestLane, ⟨?_, ?_⟩, h.window, h.partner,
    fun e => absurd hr.1 (by simpa [PortState.pushAnswer] using e), h.waits⟩
  · simp only [PortState.pushAnswer, List.length_append, List.length_singleton]
    omega
  · simp only [PortState.pushAnswer, forwardedCount_append]
    rcases hf with hf | hf
    · simp [hf, hl.2]
    · split <;> omega

theorem PortLaw.withdrawFetch {x : PortState} (i : RouterTag) (h : PortLaw x) : PortLaw (x.withdrawFetch i) := by
  rw [PortState.withdrawFetch_eq]
  refine ⟨h.credit, ?_, h.answerLane, h.window, h.partner, fun e => ?_, h.waits⟩
  · exact (List.length_eraseP_le ..).trans h.requestLane
  · have := h.down e
    simp_all

theorem PortLaw.elapse {x : PortState} (n : Nat) (h : PortLaw x) : PortLaw (x.elapse n) := by
  have hu : (x.link.elapse n).isUp = x.link.isUp := by cases x.link <;> rfl
  refine ⟨h.credit, h.requestLane, h.answerLane, ?_, ?_, ?_, ?_⟩
  · simpa [PortState.elapse] using h.window
  · intro e; exact h.partner (by simpa [PortState.elapse, hu] using e)
  · intro e
    have := h.down (by simpa [PortState.elapse, hu] using e)
    simp_all [PortState.elapse]
  · have := h.waits
    simp_all [PortState.elapse]

theorem PortLaw.useGranted {x : PortState} (c : FrameClass) (h : PortLaw x) : PortLaw (x.useGranted c) := by
  refine ⟨fun d => ?_, h.requestLane, h.answerLane, h.window, h.partner, fun e => ?_, h.waits⟩
  · have := h.credit d
    cases c <;> cases d <;> simp only [PortState.useGranted, PerClass.get, PerClass.set, PortState.held] at * <;> omega
  · have := h.down e
    cases c <;> simp_all [PortState.useGranted, PerClass.get, PerClass.set]

theorem PortLaw.spare_useGranted {x : PortState} {c : FrameClass} (h : PortLaw x) (hg : 0 < x.granted.get c) :
    (x.useGranted c).Spare c := by
  have := h.credit c
  cases c <;> simp only [PortState.useGranted, PerClass.get, PerClass.set, PortState.held, PortState.Spare] at * <;> omega

/-- The class a frame belongs to (R5). -/
def Frame.frameClass : Frame → FrameClass
  | .request _ => .request
  | .answer _ => .answer

theorem PortLaw.accept {x : PortState} {f : Frame} (h : PortLaw x) (hu : x.link.isUp = true)
    (hs : x.Spare f.frameClass) : PortLaw (x.accept f) := by
  cases f <;>
  · refine ⟨fun d => ?_, h.requestLane, h.answerLane, h.window, h.partner,
      fun e => absurd hu (by simpa [PortState.accept, PortState.count] using e), ?_, ?_⟩
    · have := h.credit d
      cases d <;>
        simp only [PortState.accept, PortState.count, PortState.held, PortState.Spare, Frame.frameClass, PerClass.get,
          List.length_append, List.length_singleton] at * <;> omega
    · have := h.waits
      simp_all [PortState.accept, PortState.count]
    · have := h.waits
      simp_all [PortState.accept, PortState.count]

theorem PortLaw.usePartner {x : PortState} (c : FrameClass) (h : PortLaw x) : PortLaw (x.usePartner c) := by
  refine ⟨h.credit, h.requestLane, h.answerLane, h.window, fun e => ?_, fun e => ?_, h.waits⟩
  · obtain ⟨g, hg, hc⟩ := h.partner e
    refine ⟨g, hg, fun d => ?_⟩
    have := hc d
    cases c <;> cases d <;> simp only [PortState.usePartner, PerClass.get, PerClass.set] at * <;> omega
  · have := h.down e
    cases c <;> simp_all [PortState.usePartner, PerClass.get, PerClass.set]

theorem PortLaw.leaveUp {x : PortState} {l : Link} (cause : DownCause) (hl : l.isUp = false) : PortLaw (x.leaveUp l cause) := by
  refine ⟨fun c => by cases c <;> exact Nat.zero_le _, by simp [PortState.leaveUp], by simp [PortState.leaveUp, forwardedCount],
    by simp [PortState.leaveUp], fun e => absurd e (by simp [PortState.leaveUp, hl]), fun _ => by simp [PortState.leaveUp],
    by simp [PortState.leaveUp]⟩

theorem PortLaw.reset : PortLaw PortState.reset :=
  ⟨fun c => by cases c <;> decide, by decide, by decide, by decide, fun e => absurd e (by decide),
    fun _ => by decide, by decide⟩

/-! ## All ports -/

theorem BufferLaw.of_ports {s t : State} (h : BufferLaw s) (e : t.ports = s.ports) : BufferLaw t := by
  intro p
  have := h p
  unfold State.port at *
  rwa [e]

theorem BufferLaw.modPort {s : State} {p : Port} {f : PortState → PortState} (h : BufferLaw s)
    (hp : PortLaw (s.port p) → PortLaw (f (s.port p))) : BufferLaw (s.modPort p f) := by
  intro q
  rw [State.port_modPort]
  split
  · rename_i e; exact e ▸ hp (h p)
  · exact h q

theorem BufferLaw.latch {s : State} (h : BufferLaw s) (i : SetId) (c : Condition) : BufferLaw (s.latch i c) :=
  h.of_ports (by simp)

theorem BufferLaw.detect {s : State} (h : BufferLaw s) (o : Origin) (c : Condition) (x : Subject) : BufferLaw (s.detect o c x) :=
  h.of_ports (by simp)

theorem BufferLaw.setEntry {s : State} (h : BufferLaw s) (i : RouterTag) (e : Entry) : BufferLaw (s.setEntry i e) := h

theorem BufferLaw.setPointer {s : State} (h : BufferLaw s) (p : Port) (c : FrameClass) (o : Origin) :
    BufferLaw (s.setPointer p c o) :=
  h.modPort fun k => k.withPointer _

theorem BufferLaw.elapse {s : State} (h : BufferLaw s) (n : Nat) : BufferLaw (s.elapse n) := by
  intro p
  have : (s.elapse n).port p = (s.port p).elapse n := PerPort.get_map ..
  rw [this]
  exact (h p).elapse n

theorem BufferLaw.dropRequest {s : State} {p : Port} (h : BufferLaw s) (hr : (s.port p).requests ≠ []) :
    BufferLaw (s.dropRequest p) :=
  h.modPort fun k => (k.popRequest hr).count _

theorem BufferLaw.dropAnswer {s : State} {p : Port} (h : BufferLaw s) (hr : (s.port p).answers ≠ []) :
    BufferLaw (s.dropAnswer p) :=
  h.modPort fun k => (k.popAnswer hr).count _

/-! ## The exchange table -/

theorem BufferLaw.withdrawQueued {s : State} (h : BufferLaw s) (i : RouterTag) (x : Exchange) (issue : Issue) :
    BufferLaw (s.withdrawQueued i x issue) := by
  cases issue
  · exact BufferLaw.modPort h fun k => k.withdrawFetch i
  · exact h

theorem BufferLaw.tellEnd {s : State} (h : BufferLaw s) (cause : EndCause) (o : Requester) : BufferLaw (s.tellEnd cause o) := by
  unfold State.tellEnd
  split
  · split
    · rename_i room
      exact h.modPort fun k => k.pushAnswer _ room (.inl rfl)
    · exact h
  · exact h

theorem BufferLaw.endEntry {s : State} (h : BufferLaw s) (i : RouterTag) (cause : EndCause) (w : Bool) :
    BufferLaw (s.endEntry i cause w) := by
  unfold State.endEntry State.toQuarantine
  split
  · rename_i x issue d _
    cases w
    · exact (h.tellEnd cause x.origin).setEntry _ _
    · exact ((h.tellEnd cause x.origin).withdrawQueued _ _ _).setEntry _ _
  · cases w
    · exact h.setEntry _ _
    · exact (h.withdrawQueued _ _ _).setEntry _ _
  · exact h
  · exact h

theorem BufferLaw.noteForwarded {s : State} (h : BufferLaw s) (i : RouterTag) (x : Exchange) (issue : Issue) (d : Nat)
    (a : Answer) : BufferLaw (s.noteForwarded i x issue d a) := by
  unfold State.noteForwarded State.freeEntry
  split
  · exact (h.withdrawQueued _ _ _).setEntry _ _
  · exact h.setEntry _ _

theorem BufferLaw.conclude {s : State} (h : BufferLaw s) (st : Status) (v : Values) : BufferLaw (s.conclude st v) := by
  refine h.of_ports ?_
  unfold State.conclude State.offerResponse
  split
  · split <;> rfl
  · rfl

/-! ## What an update leaves in the classes -/

/-- The operation leaves both ingress classes of every port as they are. -/
def SameClasses (s t : State) : Prop := ∀ p, (t.port p).requests = (s.port p).requests ∧ (t.port p).answers = (s.port p).answers

theorem SameClasses.refl (s : State) : SameClasses s s := fun _ => ⟨rfl, rfl⟩

theorem SameClasses.trans {s t u : State} (h : SameClasses s t) (k : SameClasses t u) : SameClasses s u :=
  fun p => ⟨(k p).1.trans (h p).1, (k p).2.trans (h p).2⟩

theorem SameClasses.of_ports {s t : State} (e : t.ports = s.ports) : SameClasses s t := fun p => by
  unfold State.port; rw [e]; exact ⟨rfl, rfl⟩

theorem SameClasses.modPort {s : State} {p : Port} {f : PortState → PortState}
    (h : (f (s.port p)).requests = (s.port p).requests ∧ (f (s.port p)).answers = (s.port p).answers) :
    SameClasses s (s.modPort p f) := by
  intro q
  rw [State.port_modPort]
  split
  · rename_i e; rw [e]; exact h
  · exact ⟨rfl, rfl⟩

theorem SameClasses.detect (o : Origin) (c : Condition) (x : Subject) (s : State) : SameClasses s (s.detect o c x) :=
  .of_ports (by simp)

theorem SameClasses.setPointer (p : Port) (c : FrameClass) (o : Origin) (s : State) : SameClasses s (s.setPointer p c o) :=
  .modPort ⟨rfl, rfl⟩

theorem SameClasses.placeRequest (d : Port) (o : Origin) (r : Request RouterTag) (s : State) :
    SameClasses s (s.placeRequest d o r) :=
  (SameClasses.modPort ⟨rfl, rfl⟩).trans (.setPointer _ _ _ _)

theorem SameClasses.withdrawQueued (i : RouterTag) (x : Exchange) (issue : Issue) (s : State) :
    SameClasses s (s.withdrawQueued i x issue) := by
  cases issue
  · exact SameClasses.modPort (by rw [PortState.withdrawFetch_eq]; exact ⟨rfl, rfl⟩)
  · exact .refl s

theorem SameClasses.noteForwarded (i : RouterTag) (x : Exchange) (issue : Issue) (d : Nat) (a : Answer) (s : State) :
    SameClasses s (s.noteForwarded i x issue d a) := by
  unfold State.noteForwarded State.freeEntry
  split
  · exact (SameClasses.withdrawQueued i x issue s).trans (.of_ports rfl)
  · exact .of_ports rfl

/-! ## Grants -/

theorem BufferLaw.placeRequest {s : State} {d : Port} (h : BufferLaw s) (hr : (s.port d).requestRoom = true) (o : Origin)
    (r : Request RouterTag) : BufferLaw (s.placeRequest d o r) :=
  (h.modPort fun k => k.pushRequest ⟨r, o⟩ hr).setPointer _ _ _

theorem BufferLaw.grantSlot {s : State} {p : Port} (h : BufferLaw s) (hr : (s.port p).routerMadeRoom = true) :
    BufferLaw (s.grantSlot p) := by
  unfold State.grantSlot
  split
  · rename_i st l a n tag sp rest hw hq
    refine BufferLaw.setPointer (BufferLaw.dropRequest (h.modPort fun k => k.pushAnswer _ hr (.inl rfl)) ?_) _ _ _
    simp [PortState.pushAnswer, hq]
  · exact h

theorem BufferLaw.grantForward {s : State} {p o : Port} (h : BufferLaw s) (hr : (s.port o).forwardedRoom = true) :
    BufferLaw (s.grantForward p o) := by
  have room : (s.port o).routerMadeRoom = true := by
    unfold PortState.forwardedRoom at hr
    exact (Bool.and_eq_true _ _ ▸ hr).1
  unfold State.grantForward
  split
  · rename_i a i x issue d hm
    have answers : (s.port p).answers ≠ [] := by
      unfold State.awaitedMatch at hm
      intro e
      rw [e] at hm
      split at hm <;> simp_all
    split
    · split
      · refine BufferLaw.setPointer (BufferLaw.modPort
          (BufferLaw.noteForwarded (h.modPort fun k => k.pushAnswer _ room (.inr hr)) _ _ _ _ _) fun k => k.popAnswer ?_) _ _ _
        rw [(SameClasses.noteForwarded i x issue d a _ p).2, ((SameClasses.modPort ⟨rfl, rfl⟩ : SameClasses s _) p).2]
        exact answers
      · exact h
    · exact h
  · exact h

theorem BufferLaw.grantAnswerLane {s : State} {d : Port} {o : Origin} (h : BufferLaw s)
    (hc : s.isCandidate d .answer o = true) : BufferLaw (s.grantAnswerLane d o) := by
  cases o with
  | m => exact h
  | link p =>
    unfold State.grantAnswerLane
    dsimp only
    split
    · rename_i e; exact h.grantSlot e.2.2
    · rename_i e
      refine h.grantForward ?_
      simp only [State.isCandidate, Bool.or_eq_true, Bool.and_eq_true, beq_iff_eq] at hc
      rcases hc with hc | hc
      · exact absurd ⟨hc.1.1, hc.1.2, hc.2⟩ e
      · exact hc.2

theorem isCandidate_of_mem {s : State} {d : Port} {c : FrameClass} {o : Origin} (h : o ∈ s.candidates d c) :
    s.isCandidate d c o = true := (List.mem_filter.1 h).2

theorem BufferLaw.offerAnswerLane {s : State} (h : BufferLaw s) (d : Port) (o : Origin) : BufferLaw (s.offerAnswerLane d o) := by
  unfold State.offerAnswerLane
  split
  · rename_i e
    exact h.grantAnswerLane (isCandidate_of_mem (by simp [e]))
  · exact h

theorem BufferLaw.refuseHead {s : State} {p : Port} (h : BufferLaw s) (hr : (s.port p).requests ≠ []) (r : Request Byte)
    (st : AnsStatus) (l : Nat) : BufferLaw (s.refuseHead p r st l) := by
  cases r
  · exact h.dropRequest hr
  · exact BufferLaw.offerAnswerLane (h.modPort fun k => k.waitRequest _ hr) _ _
  · exact h.dropRequest hr

theorem BufferLaw.grantLink {s : State} {d p : Port} (h : BufferLaw s) (hd : (s.port d).requestRoom = true) :
    BufferLaw (s.grantLink d p) := by
  unfold State.grantLink
  split
  · rename_i _ left r rest hw hq
    have place : ∀ (t : State) (q : Request RouterTag), t.ports = s.ports →
        BufferLaw ((t.placeRequest d (.link p) q).modPort p PortState.popRequest) := fun t q e => by
      have ht : ∀ x, t.port x = s.port x := fun x => by unfold State.port; rw [e]
      refine BufferLaw.modPort (BufferLaw.placeRequest (h.of_ports e) (by rw [ht]; exact hd) _ _) fun k => k.popRequest ?_
      rw [(SameClasses.placeRequest d (.link p) q t p).1, ht, hq]
      simp
    split
    · split
      · exact place _ _ rfl
      · refine BufferLaw.refuseHead ((h.setPointer _ _ _).detect _ _ _) ?_ _ _ _
        rw [((SameClasses.setPointer d .request (.link p) s).trans (.detect _ _ _ _) p).1, hq]
        simp
    · exact place _ _ rfl
    · exact place _ _ rfl
  · exact h

theorem BufferLaw.grantHost {s : State} {d : Port} (h : BufferLaw s) (hd : (s.port d).requestRoom = true) :
    BufferLaw (s.grantHost d) := by
  unfold State.grantHost
  split
  · split
    · refine BufferLaw.conclude ?_ _ _
      exact BufferLaw.placeRequest (s := s.openEntry _ _ _ _ _) h hd _ _
    · exact ((h.setPointer _ _ _).detect _ _ _).conclude _ _
  · exact (h.placeRequest hd _ _).conclude _ _
  · exact (h.placeRequest hd _ _).conclude _ _
  · exact h

theorem BufferLaw.grantRequestLane {s : State} {d : Port} (h : BufferLaw s) (hd : (s.port d).requestRoom = true) (o : Origin) :
    BufferLaw (s.grantRequestLane d o) := by
  cases o
  · exact h.grantLink hd
  · exact h.grantHost hd

theorem requestRoom_of_candidate {s : State} {d : Port} {o : Origin} (h : s.isCandidate d .request o = true) :
    (s.port d).requestRoom = true := by
  rw [State.isCandidate_request, Bool.and_eq_true] at h
  exact h.2

theorem BufferLaw.offerRequestLane {s : State} (h : BufferLaw s) (d : Port) (o : Origin) : BufferLaw (s.offerRequestLane d o) := by
  unfold State.offerRequestLane
  split
  · rename_i e
    exact h.grantRequestLane (requestRoom_of_candidate (isCandidate_of_mem (o := o) (by simp [e]))) _
  · exact h

/-! ## Heads -/

theorem ports_appendInbox (r : NoticeRecord) (s : State) : (s.appendInbox r).ports = s.ports := by
  unfold State.appendInbox
  split
  · simp [State.countRouter]
  · simp

theorem BufferLaw.inboxHead {s : State} {p : Port} (h : BufferLaw s) (hr : (s.port p).requests ≠ []) (r : Request Byte) :
    BufferLaw (s.inboxHead p r) := by
  unfold State.inboxHead
  split
  · rename_i x _
    have e := ports_appendInbox x s
    have hr' : ((s.appendInbox x).port p).requests ≠ [] := by rw [(SameClasses.of_ports e p).1]; exact hr
    split
    · exact (h.of_ports e).dropRequest hr'
    · exact (h.of_ports e).modPort fun k => k.popRequest hr'
  · exact h

theorem BufferLaw.takeUpRequest {s : State} {p : Port} (h : BufferLaw s) (hr : (s.port p).requests ≠ []) (r : Request Byte) :
    BufferLaw (s.takeUpRequest p r) := by
  have ht : BufferLaw (if r.spoiled then s.detect (.link p) .spoiled r.subject else s)
      ∧ ((if r.spoiled then s.detect (.link p) .spoiled r.subject else s).port p).requests ≠ [] := by
    split
    · exact ⟨h.detect _ _ _, by simpa using hr⟩
    · exact ⟨h, hr⟩
  unfold State.takeUpRequest
  generalize (if r.spoiled then s.detect (.link p) .spoiled r.subject else s) = t at ht
  obtain ⟨ht, hr⟩ := ht
  dsimp only
  split
  · exact BufferLaw.offerRequestLane (ht.modPort fun k => k.waitRequest _ hr) _ _
  · exact ht.inboxHead hr _
  · exact BufferLaw.refuseHead (ht.detect _ _ _) (by simpa using hr) _ _ _
  · exact ht.dropRequest hr
  · exact BufferLaw.dropRequest (ht.detect _ _ _) (by simpa using hr)

theorem BufferLaw.serveRequestsUpTo {s : State} (h : BufferLaw s) (n : Nat) (p : Port) : BufferLaw (s.serveRequestsUpTo n p) := by
  induction n generalizing s with
  | zero => exact h
  | succ n ih =>
    unfold State.serveRequestsUpTo
    split
    · rename_i hq
      exact ih (h.takeUpRequest (by simp [hq]) _)
    · exact h

theorem BufferLaw.serveRequests {s : State} (h : BufferLaw s) (p : Port) : BufferLaw (s.serveRequests p) :=
  h.serveRequestsUpTo _ _

theorem BufferLaw.matchOpen {s : State} {p : Port} (h : BufferLaw s) (hr : (s.port p).answers ≠ []) (a : Answer) (i : RouterTag)
    (x : Exchange) (issue : Issue) (d : Nat) : BufferLaw (s.matchOpen p a i x issue d) := by
  unfold State.matchOpen
  dsimp only
  split
  · exact (BufferLaw.dropAnswer (h.detect _ _ _) (by simpa using hr)).endEntry _ _ _
  · split
    · refine BufferLaw.modPort (s := { s.noteForwarded i x issue d a with hostFetch := _ }) (h.noteForwarded _ _ _ _ _)
        fun k => k.popAnswer ?_
      have := (SameClasses.noteForwarded i x issue d a s p).2
      exact fun e => hr (this.symm.trans e)
    · split
      · exact (BufferLaw.dropAnswer (h.detect _ _ _) (by simpa using hr)).endEntry _ _ _
      · exact BufferLaw.offerAnswerLane (h.modPort fun k => k.waitAnswer _ hr) _ _

theorem BufferLaw.matchAnswer {s : State} {p : Port} (h : BufferLaw s) (hr : (s.port p).answers ≠ []) (a : Answer) :
    BufferLaw (s.matchAnswer p a) := by
  have drop : ∀ c x, BufferLaw ((s.detect (.link p) c x).dropAnswer p) :=
    fun c x => BufferLaw.dropAnswer (h.detect _ _ _) (by simpa using hr)
  unfold State.matchAnswer State.freeEntry
  dsimp only
  split
  · exact drop _ _
  · exact drop _ _
  · split
    · exact h.matchOpen hr _ _ _ _ _
    · exact drop _ _
  · split
    · split
      · exact ((h.dropAnswer hr).withdrawQueued _ _ _).setEntry _ _
      · exact h.dropAnswer hr
    · exact drop _ _
  · split
    · exact drop _ _
    · exact drop _ _

theorem BufferLaw.takeUpAnswer {s : State} {p : Port} (h : BufferLaw s) (hr : (s.port p).answers ≠ []) (a : Answer) :
    BufferLaw (s.takeUpAnswer p a) := by
  unfold State.takeUpAnswer
  split
  · exact BufferLaw.matchAnswer (h.detect _ _ _) (by simpa using hr) _
  · exact h.matchAnswer hr _

theorem BufferLaw.serveAnswersUpTo {s : State} (h : BufferLaw s) (n : Nat) (p : Port) : BufferLaw (s.serveAnswersUpTo n p) := by
  induction n generalizing s with
  | zero => exact h
  | succ n ih =>
    unfold State.serveAnswersUpTo
    split
    · rename_i hq
      exact ih (h.takeUpAnswer (by simp [hq]) _)
    · exact h

theorem BufferLaw.serveAnswers {s : State} (h : BufferLaw s) (p : Port) : BufferLaw (s.serveAnswers p) := h.serveAnswersUpTo _ _

theorem BufferLaw.rematch {s : State} (h : BufferLaw s) (p : Port) : BufferLaw (s.rematch p) := by
  unfold State.rematch
  split
  · rename_i hq
    split
    · exact h
    · exact (h.matchAnswer (by simp [hq]) _).serveAnswers _
  · exact h

theorem BufferLaw.endAndRematch {s : State} (h : BufferLaw s) (i : RouterTag) (cause : EndCause) :
    BufferLaw (s.endAndRematch i cause) := by
  unfold State.endAndRematch
  split
  · exact (h.endEntry _ _ _).rematch _
  · exact h

theorem BufferLaw.redecideLink {s : State} (h : BufferLaw s) (p : Port) (st : AnsStatus) (c : Condition) :
    BufferLaw (s.redecideLink p st c) := by
  unfold State.redecideLink
  split
  · rename_i hq
    exact (BufferLaw.refuseHead (h.detect _ _ _) (by simp [hq]) _ _ _).serveRequests _
  · exact h

/-- A fold of steps each of which keeps the bounds. -/
theorem BufferLaw.foldl {α : Type} {f : State → α → State} (hf : ∀ s a, BufferLaw s → BufferLaw (f s a)) (l : List α) {s : State}
    (h : BufferLaw s) : BufferLaw (l.foldl f s) := by
  induction l generalizing s with
  | nil => exact h
  | cons a l ih => exact ih (hf s a h)

theorem BufferLaw.redecideAll {s : State} (h : BufferLaw s) : BufferLaw s.redecideAll :=
  .foldl (fun _ _ k => k.redecideLink _ _ _) _ h

theorem BufferLaw.redecideFor {s : State} (h : BufferLaw s) (d : Port) : BufferLaw (s.redecideFor d) := by
  have k : BufferLaw (Port.all.foldl
      (fun s p => if s.wantsRequestLane d (.link p) then s.redecideLink p .portDown .noRoute else s) s) := by
    refine .foldl (fun s p k => ?_) _ h
    split
    · exact k.redecideLink _ _ _
    · exact k
  unfold State.redecideFor State.redecideHost
  dsimp only
  split
  · split
    · exact (k.detect _ _ _).conclude _ _
    · exact k
  · exact k

theorem BufferLaw.serveOrigin {s : State} (h : BufferLaw s) (c : FrameClass) (o : Origin) : BufferLaw (s.serveOrigin c o) := by
  unfold State.serveOrigin
  split
  · exact h.serveRequests _
  · exact (h.serveAnswers _).serveRequests _
  · exact h

theorem BufferLaw.grantDown {s : State} (h : BufferLaw s) (d : Port) (l : List Origin) : BufferLaw (s.grantDown d l) := by
  induction l generalizing s with
  | nil => exact h
  | cons o l ih =>
    unfold State.grantDown
    split
    · rename_i hc
      have k := (h.grantRequestLane (requestRoom_of_candidate hc) o).serveOrigin .request o
      dsimp only
      split
      · exact ih k
      · exact k
    · exact ih h

theorem BufferLaw.grantLane {s : State} (h : BufferLaw s) (d : Port) (c : FrameClass) : BufferLaw (s.grantLane d c) := by
  unfold State.grantLane
  split
  · exact h.grantDown _ _
  · split
    · rename_i e
      exact (h.grantAnswerLane (isCandidate_of_mem (by simp [e]))).serveOrigin _ _
    · exact h

/-! ## Links -/

theorem BufferLaw.endLinkLost {s : State} (h : BufferLaw s) (p : Port) : BufferLaw (s.endLinkLost p) := by
  refine .foldl (fun s i k => ?_) _ h
  split
  · exact k.endEntry _ _ _
  · exact k

theorem BufferLaw.orphan {s : State} (h : BufferLaw s) (p : Port) : BufferLaw (s.orphan p) := h.of_ports rfl

theorem BufferLaw.leaveUp {s : State} (h : BufferLaw s) (p : Port) {l : Link} (hl : l.isUp = false) (cause : DownCause) :
    BufferLaw (s.leaveUp p l cause) := by
  have k : BufferLaw ((s.latch (.origin (.link p)) .linkDown).modPort p (PortState.leaveUp l cause)) :=
    (h.latch _ _).modPort fun _ => .leaveUp _ hl
  exact .foldl (fun _ _ k => k.rematch _) _ (((k.endLinkLost p).orphan p).redecideFor p)

theorem BufferLaw.comeUp {s : State} {p : Port} (h : BufferLaw s) (hp : (s.port p).link.isUp = false) (g : Greeting) :
    BufferLaw (s.comeUp p g) := by
  refine BufferLaw.latch (h.modPort fun k => ?_) _ _
  obtain ⟨hr, ha, hrl, hal, _, _, _, _, hs⟩ := k.down hp
  refine ⟨fun c => ?_, k.requestLane, k.answerLane, by simp, fun _ => ⟨g, rfl, fun c => ?_⟩, fun e => absurd e (by simp [Link.isUp]),
    k.waits⟩
  · cases c <;> simp [PerClass.get, PortState.held, hr, ha, Config.ingressSize]
  · cases c <;> exact le_rfl

theorem BufferLaw.damaged {s : State} (h : BufferLaw s) (p : Port) : BufferLaw (s.damaged p) := by
  have k : BufferLaw (s.modPort p (PortState.count Counters.addDamaged)) := h.modPort fun k => k.count _
  unfold State.damaged
  dsimp only
  split
  · rename_i up
    split
    · exact k.leaveUp _ rfl _
    · rename_i room
      refine k.modPort fun j => ⟨j.credit, j.requestLane, j.answerLane, ?_, j.partner, fun e => ?_, j.waits⟩
      · simp only [Config.damagedBudget, not_le, List.length_append, List.length_singleton] at *
        omega
      · exact absurd up (by simpa [State.isUp] using e)
  · exact k

theorem BufferLaw.failAttempt {s : State} {p : Port} (h : BufferLaw s) (hp : (s.port p).link.isUp = false) (cause : FailCause) :
    BufferLaw (s.failAttempt p cause) := by
  have k : ∀ l : Link, l.isUp = false → BufferLaw ((s.modPort p fun x =>
      { x with attempts := (s.port p).attempts + 1, failCause := some cause }).setLink p l) := fun l hl => by
    refine BufferLaw.modPort (h.modPort fun j => ⟨j.credit, j.requestLane, j.answerLane, j.window, j.partner, j.down, j.waits⟩)
      fun j => j.withLink ?_ hl
    simpa using hp
  unfold State.failAttempt
  dsimp only
  split
  · exact k _ rfl
  · exact (k _ rfl).latch _ _

theorem BufferLaw.startTraining {s : State} {p : Port} (h : BufferLaw s) (hp : (s.port p).link.isUp = false) :
    BufferLaw (s.startTraining p) := by
  have k : BufferLaw (s.modPort p fun x =>
      { x with
        link := .training { left := Config.attemptTime, greeted := true, kept := none, accepted := false }
        offered := some (s.port p).settings.value.max }) :=
    h.modPort fun k =>
      ⟨k.credit, k.requestLane, k.answerLane, k.window, fun e => absurd e (by simp [Link.isUp]), fun _ => k.down hp, k.waits⟩
  exact k

/-! ## Arrivals, sending, run-outs -/

theorem BufferLaw.malformed {s : State} (h : BufferLaw s) (p : Port) : BufferLaw (s.malformed p) :=
  (h.latch _ _).modPort fun k => (k.count _).count _

/-- A frame that decodes belongs to the class its start symbol names (R5, R15). -/
theorem parseFrame_class {c : FrameClass} {most : Nat} {bytes : List Byte} {f : Frame} (h : parseFrame c most bytes = some f) :
    c = f.frameClass := by
  unfold parseFrame at h
  split at h
  · dsimp only at h
    split at h
    · split at h <;> simp_all
      subst h; rfl
    · split at h <;> simp_all
      subst h; rfl
    · split at h
      · split at h <;> simp_all
        subst h; rfl
      · simp at h
    · split at h <;> simp_all
      subst h; rfl
    · simp at h
  · simp at h

theorem BufferLaw.frameArrives {s : State} (h : BufferLaw s) (p : Port) (c : FrameClass) (bytes : List Byte) :
    BufferLaw (s.frameArrives p c bytes) := by
  unfold State.frameArrives
  split
  · rename_i most up
    have hu : (s.port p).link.isUp = true := by
      cases hl : (s.port p).link <;> simp_all [Link.effectiveMax, Link.isUp]
    split
    · exact h.malformed _
    · rename_i hg
      have spare := (h p).spare_useGranted (c := c) (by omega)
      have k : BufferLaw (s.modPort p (PortState.useGranted c)) := h.modPort fun k => k.useGranted _
      unfold State.frameInCredit
      dsimp only
      split
      · exact (k.modPort fun j => j.oweCredit (by simpa using spare)).damaged _
      · split
        · refine (k.malformed p).modPort fun j => j.oweCredit ?_
          simpa [State.malformed, PortState.Spare, PortState.count, PortState.held] using spare
        · rename_i f hf
          have kind := parseFrame_class hf
          have t : BufferLaw ((s.modPort p (PortState.useGranted c)).modPort p (PortState.accept f)) :=
            k.modPort fun j => j.accept (by simpa [PortState.useGranted] using hu) (by rw [← kind]; simpa using spare)
          cases f
          · exact t.serveRequests _
          · exact t.serveAnswers _
  · split
    · exact h.modPort fun k => (k.count _).count _
    · exact h.damaged _

theorem BufferLaw.transmit {s : State} (h : BufferLaw s) (p : Port) : BufferLaw (s.transmit p) := by
  unfold State.transmit
  dsimp only
  split
  · rename_i free
    have up : (s.port p).link.isUp = true := by
      simp only [PortState.freeToSend, Bool.and_eq_true] at free
      exact free.1.1.1
    have answer : ∀ a rest, (s.port p).answerLane = a :: rest → BufferLaw (s.sendAnswer p a rest) := fun a rest e => by
      refine h.modPort fun k => PortLaw.usePartner _ ?_
      have lane := k.answerLane
      have sent : PortLaw (PortState.count Counters.addSent
          { s.port p with answerLane := rest, sending := some (.answer a.answer) }) := by
        refine PortLaw.count _ ⟨k.credit, k.requestLane, ⟨?_, ?_⟩, k.window, k.partner, fun d => absurd up (by simpa using d),
          k.waits⟩
        · have := lane.1
          simp only [e, List.length_cons] at this
          show rest.length ≤ 8
          omega
        · simp only [e, forwardedCount, List.filter_cons] at lane ⊢
          (split at lane <;> simp_all; omega)
      split
      · exact sent.count _
      · exact sent
    have request : ∀ r rest, (s.port p).requestLane = r :: rest → BufferLaw (s.sendRequest p r rest) := fun r rest e => by
      have sent : BufferLaw (s.modPort p fun x =>
          (PortState.count Counters.addSent { x with requestLane := rest, sending := some (.request r.request) }).usePartner
            .request) := by
        refine h.modPort fun k => PortLaw.usePartner _ (PortLaw.count _ ⟨k.credit, ?_, k.answerLane, k.window, k.partner,
          fun d => absurd up (by simpa using d), k.waits⟩)
        have lane := k.requestLane
        simp only [e, List.length_cons] at lane
        dsimp only
        omega
      unfold State.sendRequest
      dsimp only
      split
      · exact sent.setEntry _ _
      · exact sent
      · exact sent
    split
    · split
      · exact answer _ _ ‹_›
      · split
        · split
          · exact request _ _ ‹_›
          · exact h
        · exact h
    · split
      · exact request _ _ ‹_›
      · exact h
    · exact h
  · exact h

theorem BufferLaw.stall {s : State} (h : BufferLaw s) (t : StallTimer) : BufferLaw (s.stall t) := by
  unfold State.stall
  split
  · unfold State.stallRequest
    split
    · rename_i hq
      refine (BufferLaw.dropRequest ((h.elapse _).detect _ _ _) ?_).serveRequests _
      simp [PortState.elapse, hq]
    · exact h
  · unfold State.stallAnswer
    split
    · rename_i p _ _ l a rest hw hq
      have k : ∀ n c x, BufferLaw (((s.elapse n).detect (.link p) c x).dropAnswer p) := fun n c x =>
        BufferLaw.dropAnswer ((h.elapse _).detect _ _ _) (by simp [PortState.elapse, hq])
      dsimp only
      split
      · exact ((k _ _ _).endEntry _ _ _).serveAnswers _
      · exact (k _ _ _).serveAnswers _
    · exact h
  · unfold State.stallHost
    split
    · exact ((h.elapse _).detect _ _ _).conclude _ _
    · exact h

theorem BufferLaw.deadlineEnds {s : State} (h : BufferLaw s) (i : RouterTag) : BufferLaw (s.deadlineEnds i) := by
  unfold State.deadlineEnds
  split
  · exact ((h.elapse _).detect _ _ _).endAndRematch _ _
  · exact (h.elapse _).endAndRematch _ _
  · exact h
  · exact h

end Sys2Proof.Machine
end

