-- ==== Sys2Proof/Laws/Bytes.lean ====
section
/-! SUPPORT. Bytes and words go both ways, and what writing a configuration item comes to. -/

namespace Sys2Proof

/-- The value of two bytes (R202). -/
theorem word16_toNat (a b : Byte) : (word16 a b).toNat = a.toNat * 256 + b.toNat := by
  have := b.isLt
  rw [word16, BitVec.toNat_append, ← Nat.shiftLeft_add_eq_or_of_lt (by omega), Nat.shiftLeft_eq]

/-- A byte appended on the right. -/
theorem append_byte_toNat {n : Nat} (a : BitVec n) (b : Byte) : (a ++ b).toNat = a.toNat * 256 + b.toNat := by
  have := b.isLt
  rw [BitVec.toNat_append, ← Nat.shiftLeft_add_eq_or_of_lt (by omega), Nat.shiftLeft_eq]

/-- The value of four bytes (R202). -/
theorem word32_toNat (a b c d : Byte) :
    (word32 a b c d).toNat = ((a.toNat * 256 + b.toNat) * 256 + c.toNat) * 256 + d.toNat := by
  show (a ++ b ++ c ++ d).toNat = _
  rw [append_byte_toNat, append_byte_toNat, append_byte_toNat]

/-- The two bytes of a word read back as it (R202). -/
theorem word16_bytes (w : Word16) : word16 (w.extractLsb' 8 8) (w.extractLsb' 0 8) = w := by
  have := w.isLt
  apply BitVec.eq_of_toNat_eq
  rw [word16_toNat]
  simp only [BitVec.extractLsb'_toNat, Nat.shiftRight_eq_div_pow]
  omega

/-- The four bytes of a word read back as it (R202). -/
theorem word32_bytes (w : Word32) :
    word32 (w.extractLsb' 24 8) (w.extractLsb' 16 8) (w.extractLsb' 8 8) (w.extractLsb' 0 8) = w := by
  have := w.isLt
  apply BitVec.eq_of_toNat_eq
  rw [word32_toNat]
  simp only [BitVec.extractLsb'_toNat, Nat.shiftRight_eq_div_pow]
  omega

/-- A number below 65536 survives its two bytes (R195, R202). -/
theorem word16_nat16 (n : Nat) (h : n < 65536) :
    (word16 (BitVec.ofNat 8 (n / 256)) (BitVec.ofNat 8 n)).toNat = n := by
  rw [word16_toNat]
  simp only [BitVec.toNat_ofNat]
  omega

end Sys2Proof

namespace Sys2Proof.Machine

/-- A write to an item that is not fixed, or that changes nothing, is taken; it keeps the fixed mark or sets it (R34). -/
theorem writeItem_taken {α : Type} [DecidableEq α] {x : Setting α} {v : α} {fix : Bool} {s : State} {next : Setting α → Reply}
    (h : x.fixed = true → x.value = v) : writeItem x v fix s next = next ⟨v, x.fixed || fix⟩ := by
  obtain ⟨a, f⟩ := x
  cases f
  · simp [writeItem, Setting.write]
  · have e : a = v := h rfl
    subst e
    simp [writeItem, Setting.write]

/-- A write that would change a fixed item is refused FIXED (R34). -/
theorem writeItem_fixed {α : Type} [DecidableEq α] {x : Setting α} {v : α} {fix : Bool} {s : State} {next : Setting α → Reply}
    (hf : x.fixed = true) (hv : x.value ≠ v) : writeItem x v fix s next = refuse .fixed s := by
  simp [writeItem, Setting.write, hf, hv]

end Sys2Proof.Machine
end

