-- ==== Sys2Proof/Laws/Heads.lean ====
section
/-! SUPPORT. The heads of an ingress class: a head taken up waits or leaves its class, so serving a class takes up one head after another
until one waits or the class is empty (R41 to R43). -/

namespace Sys2Proof.Machine

/-! ## Request heads -/

/-- The request class of a port and its head's waiting state are left as they are. -/
def SameRequests (p : Port) (s t : State) : Prop :=
  (t.port p).requests = (s.port p).requests ∧ (t.port p).requestWait = (s.port p).requestWait

/-- The head of a request class has been dealt with: it holds a waiting state, or has left the class with no head waiting. -/
def RequestHeadDone (p : Port) (s t : State) : Prop :=
  (t.port p).requestWait ≠ none ∨ ((t.port p).requestWait = none ∧ (t.port p).requests = (s.port p).requests.tail)

theorem SameRequests.refl (p : Port) (s : State) : SameRequests p s s := ⟨rfl, rfl⟩

theorem SameRequests.trans {p : Port} {s t u : State} (h : SameRequests p s t) (k : SameRequests p t u) : SameRequests p s u :=
  ⟨k.1.trans h.1, k.2.trans h.2⟩

theorem SameRequests.of_ports {p : Port} {s t : State} (e : t.ports = s.ports) : SameRequests p s t := by
  unfold SameRequests State.port; rw [e]; exact ⟨rfl, rfl⟩

theorem SameRequests.modPort {p q : Port} {s : State} {f : PortState → PortState}
    (h : (f (s.port q)).requests = (s.port q).requests ∧ (f (s.port q)).requestWait = (s.port q).requestWait) :
    SameRequests p s (s.modPort q f) := by
  unfold SameRequests
  rw [State.port_modPort]
  split
  · rename_i e; rw [e]; exact h
  · exact ⟨rfl, rfl⟩

theorem SameRequests.setPointer (p d : Port) (c : FrameClass) (o : Origin) (s : State) : SameRequests p s (s.setPointer d c o) :=
  .modPort ⟨rfl, rfl⟩

theorem SameRequests.detect (p : Port) (o : Origin) (c : Condition) (x : Subject) (s : State) : SameRequests p s (s.detect o c x) :=
  .of_ports (by simp)

theorem SameRequests.placeRequest (p d : Port) (o : Origin) (r : Request RouterTag) (s : State) :
    SameRequests p s (s.placeRequest d o r) :=
  (SameRequests.modPort ⟨rfl, rfl⟩).trans (.setPointer _ _ _ _ _)

theorem RequestHeadDone.of_requests {p : Port} {s t u : State} (h : (t.port p).requests = (s.port p).requests)
    (k : RequestHeadDone p t u) : RequestHeadDone p s u := by
  unfold RequestHeadDone at *
  rw [h] at k
  exact k

theorem RequestHeadDone.of_same {p : Port} {s t u : State} (h : SameRequests p s t) (k : RequestHeadDone p t u) :
    RequestHeadDone p s u := k.of_requests h.1

theorem RequestHeadDone.then_same {p : Port} {s t u : State} (k : RequestHeadDone p s t) (h : SameRequests p t u) :
    RequestHeadDone p s u := by
  unfold RequestHeadDone at *
  rw [h.1, h.2]
  exact k

theorem RequestHeadDone.popRequest (p : Port) (s : State) : RequestHeadDone p s (s.modPort p PortState.popRequest) := by
  refine .inr ?_
  simp [PortState.popRequest_eq]

theorem RequestHeadDone.dropRequest (p : Port) (s : State) : RequestHeadDone p s (s.dropRequest p) := by
  refine .inr ?_
  simp [State.dropRequest_eq]

theorem RequestHeadDone.waits {p : Port} {s t : State} {w : RequestWait} (h : (t.port p).requestWait = some w) :
    RequestHeadDone p s t := .inl (by simp [h])

theorem SameRequests.withdrawQueued (p : Port) (i : RouterTag) (x : Exchange) (issue : Issue) (s : State) :
    SameRequests p s (s.withdrawQueued i x issue) := by
  cases issue
  · exact SameRequests.modPort (by rw [PortState.withdrawFetch_eq]; exact ⟨rfl, rfl⟩)
  · exact .refl p s

theorem SameRequests.noteForwarded (p : Port) (i : RouterTag) (x : Exchange) (issue : Issue) (d : Nat) (a : Answer) (s : State) :
    SameRequests p s (s.noteForwarded i x issue d a) := by
  unfold State.noteForwarded State.freeEntry
  split
  · exact (SameRequests.withdrawQueued p i x issue s).trans (.of_ports rfl)
  · exact .of_ports rfl

/-- A grant of an answer lane leaves a waiting request head waiting, or takes it out of its class. -/
theorem RequestHeadDone.offerAnswerLane {p d : Port} {o : Origin} {s : State} (h : (s.port p).requestWait ≠ none) :
    RequestHeadDone p s (s.offerAnswerLane d o) := by
  have same : ∀ t, SameRequests p s t → RequestHeadDone p s t := fun t k => .inl (by rw [k.2]; exact h)
  unfold State.offerAnswerLane State.grantAnswerLane
  split
  · cases o with
    | m => exact .inl h
    | link q =>
      dsimp only
      split
      · unfold State.grantSlot
        split
        · by_cases e : p = d
          · subst e
            exact RequestHeadDone.of_same (.modPort ⟨rfl, rfl⟩) ((RequestHeadDone.dropRequest _ _).then_same (.modPort ⟨rfl, rfl⟩))
          · have other : ∀ t : State, SameRequests p t (t.dropRequest d) := fun t => by
              unfold SameRequests
              rw [State.dropRequest, State.port_modPort, if_neg e]
              exact ⟨rfl, rfl⟩
            exact same _ (((SameRequests.modPort ⟨rfl, rfl⟩).trans (other _)).trans (.modPort ⟨rfl, rfl⟩))
        · exact .inl h
      · unfold State.grantForward
        split
        · split
          · split
            · refine same _ ((((SameRequests.modPort ⟨rfl, rfl⟩).trans (.noteForwarded _ _ _ _ _ _ _)).trans (.modPort ?_)).trans
                (.modPort ⟨rfl, rfl⟩))
              simp [PortState.popAnswer_eq]
            · exact .inl h
          · exact .inl h
        · exact .inl h
  · exact .inl h

theorem RequestHeadDone.refuseHead {p : Port} {s : State} (r : Request Byte) (st : AnsStatus) (left : Nat) :
    RequestHeadDone p s (s.refuseHead p r st left) := by
  cases r
  · exact .dropRequest _ _
  · refine RequestHeadDone.of_requests (t := s.modPort p fun x => { x with requestWait := some (.answerSlot st left) }) (by simp) ?_
    exact .offerAnswerLane (by simp)
  · exact .dropRequest _ _

theorem RequestHeadDone.grantLink {p d : Port} {s : State} (h : (s.port p).requestWait ≠ none) :
    RequestHeadDone p s (s.grantLink d p) := by
  unfold State.grantLink
  split
  · have place : ∀ (t : State) (q : Request RouterTag), t.ports = s.ports →
        RequestHeadDone p s ((t.placeRequest d (.link p) q).modPort p PortState.popRequest) := fun t q e =>
      RequestHeadDone.of_same ((SameRequests.of_ports e).trans (.placeRequest p d (.link p) q t)) (.popRequest _ _)
    split
    · split
      · exact place _ _ rfl
      · exact RequestHeadDone.of_same ((SameRequests.setPointer _ _ _ _ _).trans (.detect _ _ _ _ _)) (.refuseHead _ _ _)
    · exact place _ _ rfl
    · exact place _ _ rfl
  · exact .inl h

theorem RequestHeadDone.inboxHead {p : Port} {s : State} {r : Request Byte} {x : NoticeRecord} (h : r.record (.link p) = some x) :
    RequestHeadDone p s (s.inboxHead p r) := by
  have same : SameRequests p s (s.appendInbox x) := .of_ports (ports_appendInbox x s)
  unfold State.inboxHead
  simp only [h]
  split
  · exact RequestHeadDone.of_same same (.dropRequest _ _)
  · exact RequestHeadDone.of_same same (.popRequest _ _)

/-- A request decided INBOX is a notice (R59). -/
theorem State.record_of_decide_inbox {s : State} {p : Port} {r : Request Byte} (h : s.decideHead (.link p) r = .inbox) :
    ∃ x, r.record (.link p) = some x := by
  have none : ∀ a n, (s.routeRequest (.link p) a n).verdict ≠ .inbox := fun a n => by
    unfold State.routeRequest
    dsimp only
    repeat' split
    all_goals simp
  cases r with
  | store a d sp =>
    simp only [State.decideHead, State.storeVerdict] at h
    repeat' split at h
    all_goals first | exact absurd h (by simp) | exact absurd h (none _ _)
  | fetch a n t sp => exact absurd h (none a n)
  | notice t f c b sp => exact ⟨_, rfl⟩

/-- A head taken up waits or leaves its class (R41 to R43). -/
theorem RequestHeadDone.takeUpRequest (p : Port) (r : Request Byte) (s : State) : RequestHeadDone p s (s.takeUpRequest p r) := by
  unfold State.takeUpRequest
  have marked : SameRequests p s (if r.spoiled then s.detect (.link p) .spoiled r.subject else s) := by
    split
    · exact .detect _ _ _ _ _
    · exact .refl p s
  generalize (if r.spoiled then s.detect (.link p) .spoiled r.subject else s) = t at marked
  dsimp only
  refine RequestHeadDone.of_same marked ?_
  split
  · rename_i d _
    refine RequestHeadDone.of_requests (t := t.modPort p fun x => { x with requestWait := some (.lane d t.stallLimit.value) })
      (by simp) ?_
    unfold State.offerRequestLane
    split
    · exact .grantLink (by simp)
    · exact .inl (by simp)
  · rename_i h
    obtain ⟨x, hx⟩ := State.record_of_decide_inbox h
    exact .inboxHead hx
  · exact RequestHeadDone.of_same (.detect _ _ _ _ _) (.refuseHead _ _ _)
  · exact .dropRequest _ _
  · exact RequestHeadDone.of_same (.detect _ _ _ _ _) (.dropRequest _ _)

/-- A head that waits keeps those behind it from being taken up. -/
theorem State.serveRequestsUpTo_waits {p : Port} {s : State} (n : Nat) (h : (s.port p).requestWait ≠ none) :
    s.serveRequestsUpTo n p = s := by
  cases n with
  | zero => rfl
  | succ n =>
    unfold State.serveRequestsUpTo
    split
    · rename_i hw _
      exact absurd hw h
    · rfl

/-- Serving a request class takes up its head, and then serves what is left (R41). -/
theorem State.serveRequests_cons {p : Port} {r : Request Byte} {rest : List (Request Byte)} {s : State}
    (hw : (s.port p).requestWait = none) (hq : (s.port p).requests = r :: rest) :
    s.serveRequests p = (s.takeUpRequest p r).serveRequests p := by
  have step : s.serveRequests p = (s.takeUpRequest p r).serveRequestsUpTo rest.length p := by
    simp only [State.serveRequests, hq, List.length_cons, State.serveRequestsUpTo, hw]
  rw [step]
  rcases RequestHeadDone.takeUpRequest p r s with h | ⟨_, h⟩
  · rw [State.serveRequests, State.serveRequestsUpTo_waits _ h, State.serveRequestsUpTo_waits _ h]
  · rw [State.serveRequests, h, hq, List.tail_cons]

/-- A waiting head, or none, and nothing is taken up. -/
theorem State.serveRequests_idle {p : Port} {s : State} (h : (s.port p).requestWait ≠ none ∨ (s.port p).requests = []) :
    s.serveRequests p = s := by
  rcases h with h | h
  · exact State.serveRequestsUpTo_waits _ h
  · rw [State.serveRequests, h]; rfl

/-! ## Answer heads -/

/-- The answer class of a port and its head's waiting state are left as they are. -/
def SameAnswers (p : Port) (s t : State) : Prop :=
  (t.port p).answers = (s.port p).answers ∧ (t.port p).answerWait = (s.port p).answerWait

/-- The head of an answer class has been dealt with: it holds its waiting state, or has left the class with no head waiting. -/
def AnswerHeadDone (p : Port) (s t : State) : Prop :=
  (t.port p).answerWait ≠ none ∨ ((t.port p).answerWait = none ∧ (t.port p).answers = (s.port p).answers.tail)

theorem SameAnswers.refl (p : Port) (s : State) : SameAnswers p s s := ⟨rfl, rfl⟩

theorem SameAnswers.trans {p : Port} {s t u : State} (h : SameAnswers p s t) (k : SameAnswers p t u) : SameAnswers p s u :=
  ⟨k.1.trans h.1, k.2.trans h.2⟩

theorem SameAnswers.of_ports {p : Port} {s t : State} (e : t.ports = s.ports) : SameAnswers p s t := by
  unfold SameAnswers State.port; rw [e]; exact ⟨rfl, rfl⟩

theorem SameAnswers.modPort {p q : Port} {s : State} {f : PortState → PortState}
    (h : (f (s.port q)).answers = (s.port q).answers ∧ (f (s.port q)).answerWait = (s.port q).answerWait) :
    SameAnswers p s (s.modPort q f) := by
  unfold SameAnswers
  rw [State.port_modPort]
  split
  · rename_i e; rw [e]; exact h
  · exact ⟨rfl, rfl⟩

theorem SameAnswers.detect (p : Port) (o : Origin) (c : Condition) (x : Subject) (s : State) : SameAnswers p s (s.detect o c x) :=
  .of_ports (by simp)

theorem SameAnswers.setPointer (p d : Port) (c : FrameClass) (o : Origin) (s : State) : SameAnswers p s (s.setPointer d c o) :=
  .modPort ⟨rfl, rfl⟩

theorem SameAnswers.withdrawQueued (p : Port) (i : RouterTag) (x : Exchange) (issue : Issue) (s : State) :
    SameAnswers p s (s.withdrawQueued i x issue) := by
  cases issue
  · exact SameAnswers.modPort (by rw [PortState.withdrawFetch_eq]; exact ⟨rfl, rfl⟩)
  · exact .refl p s

theorem SameAnswers.noteForwarded (p : Port) (i : RouterTag) (x : Exchange) (issue : Issue) (d : Nat) (a : Answer) (s : State) :
    SameAnswers p s (s.noteForwarded i x issue d a) := by
  unfold State.noteForwarded State.freeEntry
  split
  · exact (SameAnswers.withdrawQueued p i x issue s).trans (.of_ports rfl)
  · exact .of_ports rfl

theorem SameAnswers.tellEnd (p : Port) (cause : EndCause) (o : Requester) (s : State) : SameAnswers p s (s.tellEnd cause o) := by
  unfold State.tellEnd
  split
  · split
    · exact .modPort ⟨rfl, rfl⟩
    · exact .refl p s
  · exact .of_ports rfl

theorem SameAnswers.endEntry (p : Port) (i : RouterTag) (cause : EndCause) (w : Bool) (s : State) :
    SameAnswers p s (s.endEntry i cause w) := by
  unfold State.endEntry State.toQuarantine
  split
  · refine SameAnswers.trans ?_ (.of_ports rfl)
    split
    · exact (SameAnswers.tellEnd _ _ _ _).trans (.withdrawQueued _ _ _ _ _)
    · exact .tellEnd _ _ _ _
  · refine SameAnswers.trans ?_ (.of_ports rfl)
    split
    · exact .withdrawQueued _ _ _ _ _
    · exact .refl p s
  · exact .refl p s
  · exact .refl p s

theorem AnswerHeadDone.of_answers {p : Port} {s t u : State} (h : (t.port p).answers = (s.port p).answers)
    (k : AnswerHeadDone p t u) : AnswerHeadDone p s u := by
  unfold AnswerHeadDone at *
  rw [h] at k
  exact k

theorem AnswerHeadDone.of_same {p : Port} {s t u : State} (h : SameAnswers p s t) (k : AnswerHeadDone p t u) :
    AnswerHeadDone p s u := k.of_answers h.1

theorem AnswerHeadDone.then_same {p : Port} {s t u : State} (k : AnswerHeadDone p s t) (h : SameAnswers p t u) :
    AnswerHeadDone p s u := by
  unfold AnswerHeadDone at *
  rw [h.1, h.2]
  exact k

theorem AnswerHeadDone.popAnswer (p : Port) (s : State) : AnswerHeadDone p s (s.modPort p PortState.popAnswer) := by
  refine .inr ?_
  simp [PortState.popAnswer_eq]

theorem AnswerHeadDone.dropAnswer (p : Port) (s : State) : AnswerHeadDone p s (s.dropAnswer p) := by
  refine .inr ?_
  simp [State.dropAnswer_eq]

/-- A grant of an answer lane leaves this port's waiting answer waiting, or forwards it. -/
theorem AnswerHeadDone.offerAnswerLane {p d : Port} {s : State} (h : (s.port p).answerWait ≠ none) :
    AnswerHeadDone p s (s.offerAnswerLane d (.link p)) := by
  have same : ∀ t, SameAnswers p s t → AnswerHeadDone p s t := fun t k => .inl (by rw [k.2]; exact h)
  unfold State.offerAnswerLane State.grantAnswerLane
  split
  · dsimp only
    split
    · unfold State.grantSlot
      split
      · have dropped : ∀ t : State, SameAnswers p t (t.dropRequest d) := fun t => .modPort (by
          simp [PortState.count, PortState.popRequest_eq])
        exact same _ (((SameAnswers.modPort ⟨rfl, rfl⟩).trans (dropped _)).trans (.setPointer _ _ _ _ _))
      · exact .inl h
    · unfold State.grantForward
      split
      · split
        · split
          · have pushed : ∀ b, SameAnswers p s (s.modPort d (PortState.pushAnswer b)) := fun b => .modPort ⟨rfl, rfl⟩
            exact ((AnswerHeadDone.popAnswer p _).of_same ((pushed _).trans (.noteForwarded _ _ _ _ _ _ _))).then_same
              (.setPointer _ _ _ _ _)
          · exact .inl h
        · exact .inl h
      · exact .inl h
  · exact .inl h

theorem AnswerHeadDone.matchAnswer (p : Port) (a : Answer) (s : State) : AnswerHeadDone p s (s.matchAnswer p a) := by
  have drop : ∀ c x, AnswerHeadDone p s ((s.detect (.link p) c x).dropAnswer p) := fun c x =>
    (AnswerHeadDone.dropAnswer _ _).of_same (.detect _ _ _ _ _)
  have ends : ∀ c x i cause, AnswerHeadDone p s (((s.detect (.link p) c x).dropAnswer p).endEntry i cause true) :=
    fun c x i cause => (drop c x).then_same (.endEntry _ _ _ _ _)
  unfold State.matchAnswer
  dsimp only
  split
  · exact drop _ _
  · exact drop _ _
  · split
    · unfold State.matchOpen
      dsimp only
      split
      · exact ends _ _ _ _
      · split
        · refine (AnswerHeadDone.popAnswer p _).of_same ?_
          exact (SameAnswers.noteForwarded p _ _ _ _ a s).trans (.of_ports rfl)
        · split
          · exact ends _ _ _ _
          · refine AnswerHeadDone.of_answers
              (t := s.modPort p fun y => { y with answerWait := some (y.answerWait.getD s.stallLimit.value) }) (by simp) ?_
            exact .offerAnswerLane (by simp)
    · exact drop _ _
  · split
    · split
      · exact (AnswerHeadDone.dropAnswer p s).then_same
          ((SameAnswers.withdrawQueued _ _ _ _ _).trans (.of_ports rfl))
      · exact .dropAnswer _ _
    · exact drop _ _
  · split
    · exact drop _ _
    · exact drop _ _

/-- A head taken up waits or leaves its class (R41, R43, R82). -/
theorem AnswerHeadDone.takeUpAnswer (p : Port) (a : Answer) (s : State) : AnswerHeadDone p s (s.takeUpAnswer p a) := by
  unfold State.takeUpAnswer
  split
  · exact (AnswerHeadDone.matchAnswer p a _).of_same (.detect _ _ _ _ _)
  · exact .matchAnswer p a s

/-- A head that waits keeps those behind it from being taken up. -/
theorem State.serveAnswersUpTo_waits {p : Port} {s : State} (n : Nat) (h : (s.port p).answerWait ≠ none) :
    s.serveAnswersUpTo n p = s := by
  cases n with
  | zero => rfl
  | succ n =>
    unfold State.serveAnswersUpTo
    split
    · rename_i hw _
      exact absurd hw h
    · rfl

/-- Serving an answer class takes up its head, and then serves what is left (R41). -/
theorem State.serveAnswers_cons {p : Port} {a : Answer} {rest : List Answer} {s : State} (hw : (s.port p).answerWait = none)
    (hq : (s.port p).answers = a :: rest) : s.serveAnswers p = (s.takeUpAnswer p a).serveAnswers p := by
  have step : s.serveAnswers p = (s.takeUpAnswer p a).serveAnswersUpTo rest.length p := by
    simp only [State.serveAnswers, hq, List.length_cons, State.serveAnswersUpTo, hw]
  rw [step]
  rcases AnswerHeadDone.takeUpAnswer p a s with h | ⟨_, h⟩
  · rw [State.serveAnswers, State.serveAnswersUpTo_waits _ h, State.serveAnswersUpTo_waits _ h]
  · rw [State.serveAnswers, h, hq, List.tail_cons]

/-- A waiting head, or none, and nothing is taken up. -/
theorem State.serveAnswers_idle {p : Port} {s : State} (h : (s.port p).answerWait ≠ none ∨ (s.port p).answers = []) :
    s.serveAnswers p = s := by
  rcases h with h | h
  · exact State.serveAnswersUpTo_waits _ h
  · rw [State.serveAnswers, h]; rfl

end Sys2Proof.Machine
end

