-- ==== Sys2Proof/Laws/Image.lean ====
section
/-! SUPPORT. The records of a load image and the area they fill, both ways (R172, R199). -/

namespace Sys2Proof

/-- The two bytes of a word's value are the bytes it was read from (R202). -/
theorem nat16_word16 (a b : Byte) : nat16 (word16 a b).toNat = [a, b] := by
  have ha := a.isLt
  have hb := b.isLt
  rw [word16_toNat]
  simp only [nat16, List.cons.injEq, and_true]
  constructor <;> apply BitVec.eq_of_toNat_eq <;> simp <;> omega

end Sys2Proof

namespace Sys2Proof.Machine

/-- A record as it stands in an image: its flag byte, the length of its body, its body (R199). -/
def LoadRecord.bytes (r : LoadRecord) : List Byte := r.flag :: nat16 r.body.length ++ r.body

/-- A body's length is one a record can have: at least 1, and in two bytes (R172, R199). -/
def LoadRecord.fits (r : LoadRecord) : Prop := 1 ≤ r.body.length ∧ r.body.length < 65536

/-- Records read back from the area they fill (R199). -/
theorem parseRecords_of_area (rs : List LoadRecord) (h : ∀ r ∈ rs, r.fits) :
    parseRecords rs.length (rs.flatMap LoadRecord.bytes) = some rs := by
  induction rs with
  | nil => rfl
  | cons r rs ih =>
    have hr : r.fits := h r (by simp)
    have e : (r :: rs).flatMap LoadRecord.bytes
        = r.flag :: BitVec.ofNat 8 (r.body.length / 256) :: BitVec.ofNat 8 r.body.length
          :: (r.body ++ rs.flatMap LoadRecord.bytes) := by
      simp [LoadRecord.bytes, nat16]
    rw [e, List.length_cons, parseRecords]
    simp only [word16_nat16 r.body.length hr.2]
    rw [if_pos ⟨hr.1, by simp⟩, List.drop_left, List.take_left, ih fun x hx => h x (by simp [hx])]
    rfl

/-- An area that reads as records is the area they fill, and their number is the count (R172). -/
theorem area_of_parseRecords {n : Nat} {l : List Byte} {rs : List LoadRecord} (h : parseRecords n l = some rs) :
    rs.length = n ∧ (∀ r ∈ rs, r.fits) ∧ rs.flatMap LoadRecord.bytes = l := by
  induction n generalizing l rs with
  | zero =>
    cases l <;> simp [parseRecords] at h
    subst h
    simp
  | succ n ih =>
    match l, h with
    | flag :: r1 :: r0 :: rest, h =>
      rw [parseRecords] at h
      split at h
      · rename_i hc
        rw [Option.map_eq_some_iff] at h
        obtain ⟨rs', h', rfl⟩ := h
        obtain ⟨hn, hf, hl⟩ := ih h'
        have hlen : (rest.take (word16 r1 r0).toNat).length = (word16 r1 r0).toNat := by simp [hc.2]
        refine ⟨by simp [hn], ?_, ?_⟩
        · intro r hr
          rcases List.mem_cons.1 hr with rfl | hr
          · exact ⟨le_of_le_of_eq hc.1 hlen.symm, lt_of_eq_of_lt hlen (word16 r1 r0).isLt⟩
          · exact hf r hr
        · rw [List.flatMap_cons, hl, LoadRecord.bytes, hlen, nat16_word16]
          simp
      · cases h

end Sys2Proof.Machine
end

