-- ==== Sys2Proof/Laws/Waiting.lean ====
section
/-! SUPPORT. The messages that wait for a place in the outgoing queue: which are ready, and what noting them comes to (R189). -/

namespace Sys2Proof.Machine

/-! ## What is ready -/

/-- A command's response is ready once it is decided, or while a message waits to be taken and no command is in progress (R186,
R188). -/
theorem ManagementLink.responseReady_iff (m : ManagementLink) :
    m.responseReady = true ↔ (∃ c x, m.running = some ⟨c, .answered x⟩) ∨ (m.running = none ∧ m.receiveQueue ≠ []) := by
  unfold ManagementLink.responseReady
  split <;> rename_i h <;> simp [h]

theorem mem_single_if (b : Bool) (v w : Waiter) : w ∈ (if b = true then [v] else []) ↔ b = true ∧ w = v := by
  cases b <;> simp

@[simp] theorem State.response_mem_ready (s : State) : Waiter.response ∈ s.ready ↔ s.management.responseReady = true := by
  simp [State.ready]

@[simp] theorem State.fetchDone_mem_ready (s : State) : Waiter.fetchDone ∈ s.ready ↔ s.hostFetch.isHolding = true := by
  simp [State.ready]

@[simp] theorem State.notify_mem_ready (s : State) (k : Fin 4) : Waiter.notify k ∈ s.ready ↔ s.notification.ready k.val = true := by
  simp only [State.ready, List.mem_append, mem_single_if, List.mem_map, List.mem_filter, Waiter.notify.injEq, reduceCtorEq, and_false,
    false_or, or_false]
  constructor
  · rintro ⟨a, ⟨_, h⟩, rfl⟩
    exact h
  · intro h
    have all : ∀ k : Fin 4, k ∈ [0, 1, 2, 3] := by decide
    exact ⟨k, ⟨all k, h⟩, rfl⟩

@[simp] theorem State.restarted_mem_ready (s : State) : Waiter.restarted ∈ s.ready ↔ s.loader.state.offersRestarted = true := by
  simp [State.ready]

/-! ## Noting what waits -/

/-- The messages that wait and are still ready. -/
def State.stillWaiting (s : State) : List (List Waiter) :=
  (s.management.waiting.map fun g => g.filter s.ready.contains).filter fun g => !g.isEmpty

/-- The messages that begin to wait together. -/
def State.beginToWait (s : State) : List Waiter :=
  s.ready.filter fun w => !s.stillWaiting.flatten.contains w && !{ s.management with waiting := s.stillWaiting }.mayEnter w

/-- Those that are still ready wait on, and those that begin to wait stand behind them as one group (R189; log 16). -/
theorem State.noteWaiting_waiting (s : State) :
    s.noteWaiting.management.waiting
      = if s.beginToWait = [] then s.stillWaiting else s.stillWaiting ++ [s.beginToWait] := by
  show (if s.beginToWait.isEmpty = true then _ else _) = _
  simp only [List.isEmpty_iff]
  rfl

/-- What begins to wait is ready, does not wait yet, and finds no place. -/
theorem State.mem_beginToWait (s : State) (w : Waiter) :
    w ∈ s.beginToWait
      ↔ w ∈ s.ready ∧ w ∉ s.stillWaiting.flatten ∧ { s.management with waiting := s.stillWaiting }.mayEnter w = false := by
  simp [State.beginToWait]

/-- An event that is taken leaves a state whose waiting messages have been noted. -/
theorem noted_of_event {f : State → State} {s t : State} (hp : s.pins.porn = true) (h : event f s = .next t) :
    t = (t.withWaiting (f s).management.waiting).noteWaiting := by
  rw [event_high _ hp] at h
  cases h
  rfl

end Sys2Proof.Machine
end

