-- ==== Sys2Proof/Laws/Outgoing.lean ====
section
/-! SUPPORT. The management link under traffic: what leaves it as it is, and what may put one response in the outgoing queue (R188,
R189). -/

namespace Sys2Proof.Machine

/-! ## What leaves the management link as it is -/

/-- A fold of steps each of which leaves the management link as it is. -/
theorem State.foldl_management {α : Type} (l : List α) (f : State → α → State) (h : ∀ s a, (f s a).management = s.management)
    (s : State) : (l.foldl f s).management = s.management := by
  induction l generalizing s with
  | nil => rfl
  | cons a l ih => exact (ih _).trans (h s a)

@[simp] theorem State.withdrawQueued_management (i : RouterTag) (x : Exchange) (issue : Issue) (s : State) :
    (s.withdrawQueued i x issue).management = s.management := by
  cases issue <;> rfl

@[simp] theorem State.tellEnd_management (cause : EndCause) (o : Requester) (s : State) :
    (s.tellEnd cause o).management = s.management := by
  unfold State.tellEnd
  split
  · split <;> rfl
  · rfl

@[simp] theorem State.endEntry_management (i : RouterTag) (cause : EndCause) (w : Bool) (s : State) :
    (s.endEntry i cause w).management = s.management := by
  unfold State.endEntry
  split
  · cases w <;> simp
  · cases w <;> simp
  · rfl
  · rfl

@[simp] theorem State.freeEntry_management (i : RouterTag) (x : Exchange) (issue : Issue) (s : State) :
    (s.freeEntry i x issue).management = s.management := by
  simp [State.freeEntry]

@[simp] theorem State.noteForwarded_management (i : RouterTag) (x : Exchange) (issue : Issue) (d : Nat) (a : Answer) (s : State) :
    (s.noteForwarded i x issue d a).management = s.management := by
  unfold State.noteForwarded
  split <;> simp

@[simp] theorem State.grantSlot_management (p : Port) (s : State) : (s.grantSlot p).management = s.management := by
  unfold State.grantSlot
  split <;> simp

@[simp] theorem State.grantForward_management (p o : Port) (s : State) : (s.grantForward p o).management = s.management := by
  unfold State.grantForward
  split
  · split
    · split <;> simp
    · rfl
  · rfl

@[simp] theorem State.offerAnswerLane_management (d : Port) (o : Origin) (s : State) :
    (s.offerAnswerLane d o).management = s.management := by
  unfold State.offerAnswerLane State.grantAnswerLane
  split
  · split
    · split <;> simp
    · rfl
  · rfl

@[simp] theorem State.refuseHead_management (p : Port) (r : Request Byte) (st : AnsStatus) (l : Nat) (s : State) :
    (s.refuseHead p r st l).management = s.management := by
  cases r <;> simp [State.refuseHead]

@[simp] theorem State.grantLink_management (d p : Port) (s : State) : (s.grantLink d p).management = s.management := by
  unfold State.grantLink
  split
  · split
    · split <;> simp
    · simp
    · simp
  · rfl

@[simp] theorem State.appendInbox_management (r : NoticeRecord) (s : State) : (s.appendInbox r).management = s.management := by
  unfold State.appendInbox
  split <;> simp

@[simp] theorem State.inboxHead_management (p : Port) (r : Request Byte) (s : State) :
    (s.inboxHead p r).management = s.management := by
  unfold State.inboxHead
  split
  · split <;> simp
  · rfl

theorem State.offerRequestLane_link_management (d p : Port) (s : State) :
    (s.offerRequestLane d (.link p)).management = s.management := by
  unfold State.offerRequestLane
  split
  · exact State.grantLink_management d p s
  · rfl

@[simp] theorem State.takeUpRequest_management (p : Port) (r : Request Byte) (s : State) :
    (s.takeUpRequest p r).management = s.management := by
  have h : (if r.spoiled then s.detect (.link p) .spoiled r.subject else s).management = s.management := by
    split <;> simp
  unfold State.takeUpRequest
  generalize (if r.spoiled then s.detect (.link p) .spoiled r.subject else s) = t at h
  dsimp only
  split <;> simp [h, State.offerRequestLane_link_management]

@[simp] theorem State.serveRequests_management (p : Port) (s : State) : (s.serveRequests p).management = s.management := by
  suffices h : ∀ (n : Nat) (s : State), (s.serveRequestsUpTo n p).management = s.management from h _ s
  intro n
  induction n with
  | zero => exact fun _ => rfl
  | succ n ih =>
    intro s
    unfold State.serveRequestsUpTo
    split
    · rw [ih, State.takeUpRequest_management]
    · rfl

@[simp] theorem State.matchOpen_management (p : Port) (a : Answer) (i : RouterTag) (x : Exchange) (issue : Issue) (d : Nat)
    (s : State) : (s.matchOpen p a i x issue d).management = s.management := by
  unfold State.matchOpen
  dsimp only
  split
  · simp
  · split
    · simp
    · split <;> simp

@[simp] theorem State.matchAnswer_management (p : Port) (a : Answer) (s : State) :
    (s.matchAnswer p a).management = s.management := by
  unfold State.matchAnswer
  dsimp only
  split
  · simp
  · simp
  · split <;> simp
  · split
    · split <;> simp
    · simp
  · split <;> simp

@[simp] theorem State.takeUpAnswer_management (p : Port) (a : Answer) (s : State) :
    (s.takeUpAnswer p a).management = s.management := by
  unfold State.takeUpAnswer
  split <;> simp

@[simp] theorem State.serveAnswers_management (p : Port) (s : State) : (s.serveAnswers p).management = s.management := by
  suffices h : ∀ (n : Nat) (s : State), (s.serveAnswersUpTo n p).management = s.management from h _ s
  intro n
  induction n with
  | zero => exact fun _ => rfl
  | succ n ih =>
    intro s
    unfold State.serveAnswersUpTo
    split
    · rw [ih, State.takeUpAnswer_management]
    · rfl

@[simp] theorem State.rematch_management (p : Port) (s : State) : (s.rematch p).management = s.management := by
  unfold State.rematch
  split
  · split <;> simp
  · rfl

@[simp] theorem State.endAndRematch_management (i : RouterTag) (cause : EndCause) (s : State) :
    (s.endAndRematch i cause).management = s.management := by
  unfold State.endAndRematch
  split <;> simp

@[simp] theorem State.redecideLink_management (p : Port) (st : AnsStatus) (c : Condition) (s : State) :
    (s.redecideLink p st c).management = s.management := by
  unfold State.redecideLink
  split <;> simp

@[simp] theorem State.redecideAll_management (s : State) : s.redecideAll.management = s.management :=
  State.foldl_management _ _ (fun _ _ => State.redecideLink_management _ _ _ _) s

@[simp] theorem State.serveOrigin_management (c : FrameClass) (o : Origin) (s : State) :
    (s.serveOrigin c o).management = s.management := by
  unfold State.serveOrigin
  split <;> simp

@[simp] theorem State.grantAnswerLane_management (d : Port) (o : Origin) (s : State) :
    (s.grantAnswerLane d o).management = s.management := by
  unfold State.grantAnswerLane
  split
  · split <;> simp
  · rfl

@[simp] theorem State.endLinkLost_management (p : Port) (s : State) : (s.endLinkLost p).management = s.management := by
  refine State.foldl_management _ _ (fun s i => ?_) s
  split <;> simp

@[simp] theorem State.malformed_management (p : Port) (s : State) : (s.malformed p).management = s.management := by
  simp [State.malformed]

@[simp] theorem State.startTraining_management (p : Port) (s : State) : (s.startTraining p).management = s.management := rfl

@[simp] theorem State.tryTraining_management (p : Port) (s : State) : (s.tryTraining p).management = s.management := by
  unfold State.tryTraining
  split
  · split <;> rfl
  · rfl

@[simp] theorem State.comeUp_management (p : Port) (g : Greeting) (s : State) : (s.comeUp p g).management = s.management := by
  simp [State.comeUp]

@[simp] theorem State.progress_management (p : Port) (a : Attempt) (s : State) : (s.progress p a).management = s.management := by
  unfold State.progress
  split
  · split <;> simp
  · simp

@[simp] theorem State.failAttempt_management (p : Port) (cause : FailCause) (s : State) :
    (s.failAttempt p cause).management = s.management := by
  unfold State.failAttempt
  dsimp only
  split <;> simp

@[simp] theorem State.transmit_management (p : Port) (s : State) : (s.transmit p).management = s.management := by
  have request : ∀ r rest, (s.sendRequest p r rest).management = s.management := fun r rest => by
    unfold State.sendRequest
    dsimp only
    split <;> rfl
  unfold State.transmit
  dsimp only
  split
  · split
    · split
      · rfl
      · split
        · split
          · exact request _ _
          · rfl
        · rfl
    · split
      · exact request _ _
      · rfl
    · rfl
  · rfl

@[simp] theorem State.resetBays_management (s : State) : s.resetBays.management = s.management := by
  refine State.foldl_management _ _ (fun s b => ?_) s
  split <;> rfl

/-! ## At most one response enters -/

/-- No message has entered or left the outgoing queue and none has begun or ceased to wait; or one response that could enter has entered
at the tail, and its command is no longer in progress. -/
def Responded (m n : ManagementLink) : Prop :=
  (n.outgoing = m.outgoing ∧ n.waiting = m.waiting)
    ∨ (m.mayEnter .response = true ∧ (∃ x, n.outgoing = m.outgoing ++ [x]) ∧ n.waiting = m.without .response ∧ n.running = none)

theorem Responded.of_eq {m n : ManagementLink} (h : n = m) : Responded m n := by
  subst h; exact Or.inl ⟨rfl, rfl⟩

/-- Whether a message may enter depends on the places, on what waits and on whether a command is in progress. -/
theorem ManagementLink.mayEnter_congr {m n : ManagementLink} (ho : n.outgoing = m.outgoing) (hw : n.waiting = m.waiting)
    (hr : n.running.isSome = m.running.isSome) (w : Waiter) : n.mayEnter w = m.mayEnter w := by
  have hn : n.running.isNone = m.running.isNone := by
    cases h : n.running <;> cases h' : m.running <;> simp_all
  cases w <;> simp [ManagementLink.mayEnter, ManagementLink.restartedWaits, ManagementLink.isNext, ManagementLink.without, ho, hw,
    hr, hn]

/-- What holds from a link with the same queue, the same waiting messages and a command in progress alike. -/
theorem Responded.of_same {m m' n : ManagementLink} (ho : m'.outgoing = m.outgoing) (hw : m'.waiting = m.waiting)
    (hr : m'.running.isSome = m.running.isSome) (h : Responded m' n) : Responded m n := by
  rcases h with ⟨h1, h2⟩ | ⟨h1, ⟨x, h2⟩, h3, h4⟩
  · exact Or.inl ⟨h1.trans ho, h2.trans hw⟩
  · refine Or.inr ⟨?_, ⟨x, by rw [h2, ho]⟩, ?_, h4⟩
    · rwa [ManagementLink.mayEnter_congr ho hw hr] at h1
    · rw [h3]; simp [ManagementLink.without, hw]

theorem State.enterResponse_responded (c : Message) (r : OutMessage) {s : State} (h : s.management.mayEnter .response = true) :
    Responded s.management (s.enterResponse c r).management := Or.inr ⟨h, ⟨r, rfl⟩, rfl, rfl⟩

theorem State.offerResponse_responded (c : Message) (r : OutMessage) (s : State) :
    Responded s.management (s.offerResponse c r).management := by
  unfold State.offerResponse
  split
  · exact State.enterResponse_responded c r ‹_›
  · exact Or.inl ⟨rfl, rfl⟩

theorem State.offerResponse_hostHead (c : Message) (r : OutMessage) (s : State) : (s.offerResponse c r).hostHead = none := by
  unfold State.offerResponse
  split <;> rfl

/-- M's outcome is decided: its response enters or waits, and M has no head any more. -/
theorem State.conclude_responded (st : Status) (v : Values) (s : State) :
    Responded s.management (s.conclude st v).management := by
  unfold State.conclude
  split
  · exact State.offerResponse_responded _ _ _
  · exact .of_eq rfl

theorem State.conclude_hostHead (st : Status) (v : Values) (s : State) : (s.conclude st v).hostHead = none := by
  unfold State.conclude
  split
  · exact State.offerResponse_hostHead _ _ _
  · rename_i h; simp [State.hostHead, h]

/-- What follows a change that leaves the management link as it is. -/
theorem Responded.after {s t u : State} (h : t.management = s.management) (k : Responded t.management u.management) :
    Responded s.management u.management := h ▸ k

/-- M's head leaves with its response, or the management link is as it was. -/
def HostDone (s t : State) : Prop := Responded s.management t.management ∧ (t.management = s.management ∨ t.hostHead = none)

theorem HostDone.of_eq {s t : State} (h : t.management = s.management) : HostDone s t := ⟨.of_eq h, Or.inl h⟩

theorem HostDone.conclude {s t : State} (st : Status) (v : Values) (h : t.management = s.management) :
    HostDone s (t.conclude st v) :=
  ⟨.after h (State.conclude_responded st v t), Or.inr (State.conclude_hostHead st v t)⟩

theorem State.hostHead_congr {s t : State} (h : t.management = s.management) : t.hostHead = s.hostHead := by
  simp [State.hostHead, h]

/-- What follows with the management link as it is. -/
theorem HostDone.then {s t u : State} (h : HostDone s t) (k : u.management = t.management) : HostDone s u := by
  refine ⟨k ▸ h.1, ?_⟩
  rcases h.2 with e | e
  · exact Or.inl (k.trans e)
  · exact Or.inr ((State.hostHead_congr k).trans e)

/-- What follows and leaves the management link as it is where M has no head. -/
theorem HostDone.trans {s t u : State} (h : HostDone s t) (k : HostDone t u) (quiet : t.hostHead = none → u.management = t.management) :
    HostDone s u := by
  rcases h.2 with e | e
  · refine ⟨e ▸ k.1, ?_⟩
    rcases k.2 with e' | e'
    · exact Or.inl (e'.trans e)
    · exact Or.inr e'
  · exact h.then (quiet e)

theorem State.grantHost_done (d : Port) (s : State) : HostDone s (s.grantHost d) := by
  unfold State.grantHost
  split
  · split
    · exact .conclude _ _ (by simp)
    · exact .conclude _ _ (by simp)
  · exact .conclude _ _ (by simp)
  · exact .conclude _ _ (by simp)
  · exact .of_eq rfl

theorem State.grantHost_quiet {d : Port} {s : State} (h : s.hostHead = none) : s.grantHost d = s := by
  simp [State.grantHost, h]

theorem State.grantRequestLane_done (d : Port) (o : Origin) (s : State) : HostDone s (s.grantRequestLane d o) := by
  cases o
  · exact .of_eq (State.grantLink_management _ _ _)
  · exact State.grantHost_done d s

theorem State.grantRequestLane_quiet {d : Port} {o : Origin} {s : State} (h : s.hostHead = none) :
    (s.grantRequestLane d o).management = s.management := by
  cases o
  · exact State.grantLink_management _ _ _
  · simp [State.grantRequestLane, State.grantHost_quiet h]

theorem State.grantDown_quiet {d : Port} {l : List Origin} {s : State} (h : s.hostHead = none) :
    (s.grantDown d l).management = s.management := by
  induction l generalizing s with
  | nil => rfl
  | cons o l ih =>
    have step : ((s.grantRequestLane d o).serveOrigin .request o).management = s.management := by
      rw [State.serveOrigin_management, State.grantRequestLane_quiet h]
    unfold State.grantDown
    split
    · dsimp only
      split
      · exact (ih ((State.hostHead_congr step).trans h)).trans step
      · exact step
    · exact ih h

theorem State.grantDown_done (d : Port) (l : List Origin) (s : State) : HostDone s (s.grantDown d l) := by
  induction l generalizing s with
  | nil => exact .of_eq rfl
  | cons o l ih =>
    have step : HostDone s ((s.grantRequestLane d o).serveOrigin .request o) :=
      (State.grantRequestLane_done d o s).then (State.serveOrigin_management _ _ _)
    unfold State.grantDown
    split
    · dsimp only
      split
      · exact step.trans (ih _) fun h => State.grantDown_quiet h
      · exact step
    · exact ih s

theorem State.grantLane_done (d : Port) (c : FrameClass) (s : State) : HostDone s (s.grantLane d c) := by
  unfold State.grantLane
  split
  · exact State.grantDown_done _ _ _
  · split
    · exact .of_eq (by simp)
    · exact .of_eq rfl

theorem State.redecideHost_done (s : State) : HostDone s s.redecideHost := by
  unfold State.redecideHost
  split
  · exact .conclude _ _ (by simp)
  · exact .of_eq rfl

theorem State.redecideHost_quiet {s : State} (h : s.hostHead = none) : s.redecideHost = s := by
  simp [State.redecideHost, h]

/-- The heads of the link ports that wait for a lane are decided again with the management link as it is. -/
theorem State.redecideLinks_management (d : Port) (s : State) :
    (Port.all.foldl (fun s p => if s.wantsRequestLane d (.link p) then s.redecideLink p .portDown .noRoute else s) s).management
      = s.management := by
  refine State.foldl_management _ _ (fun s p => ?_) s
  split <;> simp

theorem State.redecideFor_done (d : Port) (s : State) : HostDone s (s.redecideFor d) := by
  have links := HostDone.of_eq (State.redecideLinks_management d s)
  unfold State.redecideFor
  dsimp only
  split
  · exact links.trans (State.redecideHost_done _) fun h => by rw [State.redecideHost_quiet h]
  · exact links

theorem State.redecideFor_quiet {d : Port} {s : State} (h : s.hostHead = none) : (s.redecideFor d).management = s.management := by
  have links := State.redecideLinks_management d s
  unfold State.redecideFor
  dsimp only
  split
  · rw [State.redecideHost_quiet ((State.hostHead_congr links).trans h), links]
  · exact links

theorem State.leaveUp_done (p : Port) (l : Link) (cause : DownCause) (s : State) : HostDone s (s.leaveUp p l cause) := by
  unfold State.leaveUp
  exact ((HostDone.of_eq (by simp)).trans (State.redecideFor_done p _) State.redecideFor_quiet).then
    (State.foldl_management _ _ (fun _ _ => State.rematch_management _ _) _)

theorem State.leaveUp_quiet {p : Port} {l : Link} {cause : DownCause} {s : State} (h : s.hostHead = none) :
    (s.leaveUp p l cause).management = s.management := by
  have kept : ∀ t : State, t.management = s.management → (t.redecideFor p).management = s.management := fun t ht => by
    rw [State.redecideFor_quiet ((State.hostHead_congr ht).trans h), ht]
  unfold State.leaveUp
  rw [State.foldl_management _ _ (fun _ _ => State.rematch_management _ _) _]
  exact kept _ (by simp)

theorem State.damaged_done (p : Port) (s : State) : HostDone s (s.damaged p) := by
  unfold State.damaged
  dsimp only
  split
  · split
    · exact State.leaveUp_done p Link.freshDown .budget (s.modPort p (PortState.count Counters.addDamaged))
    · exact .of_eq rfl
  · exact .of_eq rfl

theorem State.frameArrives_done (p : Port) (c : FrameClass) (bytes : List Byte) (s : State) :
    HostDone s (s.frameArrives p c bytes) := by
  unfold State.frameArrives
  split
  · split
    · exact .of_eq (by simp)
    · unfold State.frameInCredit
      dsimp only
      split
      · exact State.damaged_done p ((s.modPort p (PortState.useGranted c)).modPort p (PortState.oweCredit c))
      · split
        · exact .of_eq (by simp)
        · refine .of_eq ?_
          unfold State.serveFor
          split <;> simp
  · split
    · exact .of_eq rfl
    · exact State.damaged_done p s

/-- A stall timer's run-out: at most M's response enters. -/
theorem State.stall_responded (t : StallTimer) (s : State) : Responded s.management (s.stall t).management := by
  unfold State.stall
  split
  · unfold State.stallRequest
    split
    · exact Or.inl (by simp)
    · exact .of_eq rfl
  · unfold State.stallAnswer
    split
    · refine Or.inl ?_
      dsimp only
      rw [State.serveAnswers_management]
      split <;> simp
    · exact .of_eq rfl
  · unfold State.stallHost
    split
    · rename_i h _ l _
      refine .of_same (m' := (s.elapse l).management) rfl rfl ?_
        (.after (t := (s.elapse l).detect .m .stallDrop h.hostSubject) (by simp) (State.conclude_responded _ _ _))
      show (s.management.elapse l).running.isSome = _
      cases k : s.management.running <;> simp [ManagementLink.elapse, k]
    · exact .of_eq rfl

theorem State.trunkReset_done (s : State) : HostDone s s.trunkReset := by
  unfold State.trunkReset
  refine HostDone.then (t := s.resetBays.endHostHead) ?_ (State.resetBlocks_management _ _)
  unfold State.endHostHead
  split
  · exact .conclude _ _ (by simp)
  · exact .of_eq (by simp)

/-! ## Commands taken (R186, R188) -/

/-- A command answered in one act, after what leaves the management link as it is. -/
theorem State.respond_responded {s t : State} (c : Message) (st : Status) (v : Values) (h : t.management = s.management)
    (may : s.management.mayEnter .response = true) : Responded s.management (t.respond c st v).management :=
  .after h (State.enterResponse_responded _ _ (h ▸ may))

/-- What a command does to the queue is what follows its tests does, from a link in which nothing runs and a response may enter. -/
theorem State.take_responded {s : State} {c : Message} {inStart : Bool} {run : State → State}
    (h : ∀ t : State, t.management.running = none → t.management.mayEnter .response = true →
      Responded t.management (run t).management) : Responded s.management (s.take c inStart run).management := by
  unfold State.take
  split
  · exact .of_eq rfl
  · rename_i t ht
    obtain ⟨idle, may, out, wait, was⟩ : t.management.running = none ∧ t.management.mayEnter .response = true
        ∧ t.management.outgoing = s.management.outgoing ∧ t.management.waiting = s.management.waiting
        ∧ s.management.running = none := by
      unfold State.takeHead at ht
      dsimp only at ht
      split at ht
      · rename_i hg
        simp only [Bool.and_eq_true, Option.isNone_iff_eq_none] at hg
        split at ht <;> split at ht <;> cases ht <;> exact ⟨hg.1, hg.2, rfl, rfl, hg.1⟩
      · cases ht
    refine .of_same out wait (by rw [idle, was]) ?_
    split
    · exact Or.inr ⟨may, ⟨_, rfl⟩, rfl, idle⟩
    · split
      · exact State.enterResponse_responded _ _ may
      · exact h t idle may

/-- A host request, once taken, puts at most its own response in the queue. -/
theorem State.issueHost_responded {s : State} (c : Message) (r : Request Unit) (may : s.management.mayEnter .response = true) :
    Responded s.management (s.issueHost c r).management := by
  have h : (if r.spoiled then s.detect .m .spoiled r.hostSubject else s).management = s.management := by
    split <;> simp
  unfold State.issueHost
  generalize (if r.spoiled then s.detect .m .spoiled r.hostSubject else s) = t at h
  dsimp only
  split
  · rename_i d _
    unfold State.awaitHost State.offerRequestLane
    split
    · rcases (State.grantHost_done d { t with management :=
          { t.management with running := some ⟨c, .awaitLane r d t.stallLimit.value⟩ } }).1 with ⟨out, wait⟩ | ⟨_, out, wait, idle⟩
      · exact Or.inl (h ▸ ⟨out, wait⟩)
      · exact Or.inr ⟨may, h ▸ out, h ▸ wait, idle⟩
    · exact Or.inl (h ▸ ⟨rfl, rfl⟩)
  · unfold State.hostInbox
    split
    · split <;> exact State.respond_responded _ _ _ (by simp [h]) may
    · exact .of_eq h
  · exact State.respond_responded _ _ _ (by simp [h]) may
  · exact State.respond_responded _ _ _ (by simp [h]) may

/-- A NOTIFY enters only when it may, and then the management link has it at the tail and counts it. -/
theorem State.sendNotify_management (k : Fin 4) (s : State) :
    (s.sendNotify k).management = s.management
      ∨ (s.management.mayEnter (.notify k) = true
        ∧ ∃ n cats, (s.sendNotify k).management
            = { s.management.enter (.notify k) ⟨0xFA, s.management.unsolicited, .notify n k cats⟩ with
                unsolicited := s.management.unsolicited + 1 }) := by
  unfold State.sendNotify
  dsimp only
  split
  · rename_i h
    simp only [Bool.and_eq_true] at h
    exact Or.inr ⟨h.2, _, _, rfl⟩
  · exact Or.inl rfl

end Sys2Proof.Machine
end

