-- ==== Sys2Proof/Laws/PerInstr.lean ====
section
/-! SUPPORT. One law of every command as syntax: a well-formed command that carries a message carries a good one (R183), of a command
kind (R196) unless the command is the one for a bad kind (R186). -/

namespace Sys2Proof.Laws.CarriesGoodMessage

/-- A well-formed command's message is good for its kind, and its kind is a command kind exactly when the command is not BAD KIND
MESSAGE. -/
def Statement (i : Instr) : Prop :=
  ∀ kind m, i.message = some (kind, m) → i.wellFormed = true →
    m.good kind = true ∧ (isCommandKind kind = true ↔ ∀ k n, i ≠ .badKindMessage k n)

/-- A command of a fixed command kind. -/
theorem of_kind {i : Instr} {kind : Byte} {m : HostMsg} (hm : i.message = some (kind, m)) (hw : i.wellFormed = m.good kind)
    (hk : isCommandKind kind = true) (hb : ∀ k n, i ≠ .badKindMessage k n) : Statement i := by
  intro k n h w
  rw [hm] at h
  obtain ⟨rfl, rfl⟩ := Prod.mk.inj (Option.some.inj h)
  exact ⟨hw ▸ w, iff_of_true hk hb⟩

/-- A command without a message. -/
theorem of_none {i : Instr} (h : i.message = none) : Statement i := by
  intro k n h'
  rw [h] at h'
  exact absurd h' (by simp)

theorem setStation (m : HostMsg) : Statement (.setStation m) := of_kind rfl rfl rfl (by simp)

theorem setBayRange (m : HostMsg) : Statement (.setBayRange m) := of_kind rfl rfl rfl (by simp)

theorem setWindow (m : HostMsg) : Statement (.setWindow m) := of_kind rfl rfl rfl (by simp)

theorem setDirected (m : HostMsg) : Statement (.setDirected m) := of_kind rfl rfl rfl (by simp)

theorem setPermits (m : HostMsg) : Statement (.setPermits m) := of_kind rfl rfl rfl (by simp)

theorem setSpoiled (m : HostMsg) : Statement (.setSpoiled m) := of_kind rfl rfl rfl (by simp)

theorem readRoutes (m : HostMsg) : Statement (.readRoutes m) := of_kind rfl rfl rfl (by simp)

theorem probeRoute (m : HostMsg) : Statement (.probeRoute m) := of_kind rfl rfl rfl (by simp)

theorem readInbox (m : HostMsg) : Statement (.readInbox m) := of_kind rfl rfl rfl (by simp)

theorem issueStore (m : HostMsg) : Statement (.issueStore m) := of_kind rfl rfl rfl (by simp)

theorem sendNotice (m : HostMsg) : Statement (.sendNotice m) := of_kind rfl rfl rfl (by simp)

theorem setQuota (m : HostMsg) : Statement (.setQuota m) := of_kind rfl rfl rfl (by simp)

theorem setExchangeTimers (m : HostMsg) : Statement (.setExchangeTimers m) := of_kind rfl rfl rfl (by simp)

theorem cancelExchange (m : HostMsg) : Statement (.cancelExchange m) := of_kind rfl rfl rfl (by simp)

theorem issueFetch (m : HostMsg) : Statement (.issueFetch m) := of_kind rfl rfl rfl (by simp)

theorem listExchanges (m : HostMsg) : Statement (.listExchanges m) := of_kind rfl rfl rfl (by simp)

theorem setStallLimit (m : HostMsg) : Statement (.setStallLimit m) := of_kind rfl rfl rfl (by simp)

theorem readLanes (m : HostMsg) : Statement (.readLanes m) := of_kind rfl rfl rfl (by simp)

theorem setLink (m : HostMsg) : Statement (.setLink m) := of_kind rfl rfl rfl (by simp)

theorem holdBay (m : HostMsg) : Statement (.holdBay m) := of_kind rfl rfl rfl (by simp)

theorem releaseBay (m : HostMsg) : Statement (.releaseBay m) := of_kind rfl rfl rfl (by simp)

theorem retrain (m : HostMsg) : Statement (.retrain m) := of_kind rfl rfl rfl (by simp)

theorem readLink (m : HostMsg) : Statement (.readLink m) := of_kind rfl rfl rfl (by simp)

theorem setReporting (m : HostMsg) : Statement (.setReporting m) := of_kind rfl rfl rfl (by simp)

theorem readConditions (m : HostMsg) : Statement (.readConditions m) := of_kind rfl rfl rfl (by simp)

theorem clearConditions (m : HostMsg) : Statement (.clearConditions m) := of_kind rfl rfl rfl (by simp)

theorem readCapture (m : HostMsg) : Statement (.readCapture m) := of_kind rfl rfl rfl (by simp)

theorem releaseCapture (m : HostMsg) : Statement (.releaseCapture m) := of_kind rfl rfl rfl (by simp)

theorem readCounters (m : HostMsg) : Statement (.readCounters m) := of_kind rfl rfl rfl (by simp)

theorem setStreams (m : HostMsg) : Statement (.setStreams m) := of_kind rfl rfl rfl (by simp)

theorem ackNotify (m : HostMsg) (notifyFirst : Bool) : Statement (.ackNotify m notifyFirst) := of_kind rfl rfl rfl (by simp)

theorem maskStream (m : HostMsg) : Statement (.maskStream m) := of_kind rfl rfl rfl (by simp)

theorem unmaskStream (m : HostMsg) (notifyFirst : Bool) : Statement (.unmaskStream m notifyFirst) := of_kind rfl rfl rfl (by simp)

theorem resetRouter (m : HostMsg) : Statement (.resetRouter m) := of_kind rfl rfl rfl (by simp)

theorem readLoadReport (m : HostMsg) : Statement (.readLoadReport m) := of_kind rfl rfl rfl (by simp)

theorem openRouting (m : HostMsg) : Statement (.openRouting m) := of_kind rfl rfl rfl (by simp)

theorem closeRouting (m : HostMsg) : Statement (.closeRouting m) := of_kind rfl rfl rfl (by simp)

theorem identify (m : HostMsg) : Statement (.identify m) := of_kind rfl rfl rfl (by simp)

theorem echo (m : HostMsg) : Statement (.echo m) := of_kind rfl rfl rfl (by simp)

theorem badKindMessage (kind : Byte) (m : HostMsg) : Statement (.badKindMessage kind m) := by
  intro k n h w
  obtain ⟨rfl, rfl⟩ := Prod.mk.inj (Option.some.inj h)
  simp only [Instr.wellFormed, Bool.and_eq_true, Bool.not_eq_true'] at w
  exact ⟨w.1, by simp [w.2]⟩

theorem messageReceive (bytes : List Byte) : Statement (.messageReceive bytes) := of_none rfl

theorem messageAbandoned : Statement .messageAbandoned := of_none rfl

theorem responseEntersQueue : Statement .responseEntersQueue := of_none rfl

theorem messageSent : Statement .messageSent := of_none rfl

theorem notify (stream : Fin 4) : Statement (.notify stream) := of_none rfl

theorem fetchDone : Statement .fetchDone := of_none rfl

theorem restarted : Statement .restarted := of_none rfl

theorem powerOnReset (rate1 rate0 : Bool) : Statement (.powerOnReset rate1 rate0) := of_none rfl

theorem pornLow : Statement .pornLow := of_none rfl

theorem resetSymbol (p : Port) : Statement (.resetSymbol p) := of_none rfl

theorem loadImageRead (r : ImageRead) : Statement (.loadImageRead r) := of_none rfl

theorem loadRecord : Statement .loadRecord := of_none rfl

theorem frameArrival (p : Port) (c : FrameClass) (bytes : List Byte) : Statement (.frameArrival p c bytes) := of_none rfl

theorem laneGrant (p : Port) (c : FrameClass) : Statement (.laneGrant p c) := of_none rfl

theorem transmitFrame (p : Port) : Statement (.transmitFrame p) := of_none rfl

theorem sendCreditReturn (p : Port) (c : FrameClass) : Statement (.sendCreditReturn p c) := of_none rfl

theorem creditReturn (p : Port) (c : FrameClass) : Statement (.creditReturn p c) := of_none rfl

theorem stallTimerRunsOut (timer : StallTimer) : Statement (.stallTimerRunsOut timer) := of_none rfl

theorem deadlineRunsOut (tag : Fin 64) : Statement (.deadlineRunsOut tag) := of_none rfl

theorem quarantineRunsOut (tag : Fin 64) : Statement (.quarantineRunsOut tag) := of_none rfl

theorem quietIntervalEnd (p : Port) : Statement (.quietIntervalEnd p) := of_none rfl

theorem partnerSignalPresent (p : Port) : Statement (.partnerSignalPresent p) := of_none rfl

theorem greetingRepeat (p : Port) : Statement (.greetingRepeat p) := of_none rfl

theorem greeting (p : Port) (bytes : List Byte) : Statement (.greeting p bytes) := of_none rfl

theorem accept (p : Port) : Statement (.accept p) := of_none rfl

theorem trainingTimeout (p : Port) : Statement (.trainingTimeout p) := of_none rfl

theorem partnerSignalLoss (p : Port) : Statement (.partnerSignalLoss p) := of_none rfl

theorem damagedWindowExpiry (p : Port) : Statement (.damagedWindowExpiry p) := of_none rfl

theorem frameLastByteSent (p : Port) : Statement (.frameLastByteSent p) := of_none rfl

theorem startByteFound : Statement .startByteFound := of_none rfl

theorem bodyLengthOutOfRange (hi lo : Byte) : Statement (.bodyLengthOutOfRange hi lo) := of_none rfl

end Sys2Proof.Laws.CarriesGoodMessage
end

