-- ==== Sys2Proof/Laws/Receiver.lean ====
section
/-! SUPPORT. The receiver of the management link: what bytes come to while it hunts and while it gathers (R183, R184), and what
offering a response does (R186, R188). -/

namespace Sys2Proof.Machine

/-! ## What bytes come to -/

/-- No message begins without a start byte (R183). -/
theorem scan_of_noStart {bytes : List Byte} (h : Config.startByte ∉ bytes) : scan 0 bytes = ([], none) := by
  induction bytes with
  | nil => rfl
  | cons b bs ih =>
    rw [List.mem_cons, not_or] at h
    simp only [scan, if_neg (Ne.symm h.1), ih h.2]

/-- A byte other than the start byte is discarded while hunting (R183). -/
theorem scan_of_ne {b : Byte} (bs : List Byte) (h : b ≠ Config.startByte) : scan 0 (b :: bs) = scan 0 bs := by
  simp only [scan, if_neg h]

/-- At a start byte the receiver begins to gather (R183). -/
theorem scan_start (bs : List Byte) :
    scan 0 (Config.startByte :: bs) =
      match gather bs with
      | .incomplete => ([], some bs)
      | .lengthOut => scan 0 bs
      | .badCheck => (.framingError :: (scan 0 bs).1, (scan 0 bs).2)
      | .good m used => (.message m :: (scan used bs).1, (scan used bs).2) := by
  exact if_pos rfl

/-- Bytes that a message took are not examined again (R183). -/
theorem scan_skip (taken rest : List Byte) : scan taken.length (taken ++ rest) = scan 0 rest := by
  induction taken with
  | nil => rfl
  | cons b bs ih => simpa only [List.length_cons, List.cons_append, scan] using ih

/-- A body length out of range ends the gathering (R183). -/
theorem gather_lengthOut {hi lo : Byte} (rest : List Byte) (h : lengthOutOfRange hi lo = true) :
    gather (hi :: lo :: rest) = .lengthOut := by
  simp [gather, h]

/-- A whole message whose check does not match (R183). -/
theorem gather_badCheck {hi lo c1 c0 : Byte} {body : List Byte} (rest : List Byte) (hr : lengthOutOfRange hi lo = false)
    (hb : body.length = (word16 hi lo).toNat) (hc : crc16 (hi :: lo :: body) ≠ word16 c1 c0) :
    gather (hi :: lo :: (body ++ c1 :: c0 :: rest)) = .badCheck := by
  simp only [gather, hr, ← hb, List.drop_left, List.take_left, if_neg hc]
  rfl

/-- A whole message whose check matches (R183). -/
theorem gather_good {hi lo c1 c0 : Byte} {kind seq : Byte} {params : List Byte} (rest : List Byte)
    (hr : lengthOutOfRange hi lo = false) (hb : params.length + 2 = (word16 hi lo).toNat)
    (hc : crc16 (hi :: lo :: kind :: seq :: params) = word16 c1 c0) :
    gather (hi :: lo :: (kind :: seq :: params ++ c1 :: c0 :: rest))
      = .good { kind, msg := { seq, params, check := word16 c1 c0 } } (params.length + 6) := by
  have hn : (kind :: seq :: params).length = (word16 hi lo).toNat := hb
  simp only [gather, hr, ← hn, List.drop_left, List.take_left, if_pos hc, messageOf]
  rfl

/-! ## The receiver's state -/

/-- The receiver gathers these bytes. -/
def State.withGathered (g : Option Gathering) (s : State) : State :=
  { s with management := { s.management with gathered := g } }

theorem State.noteWaiting_withGathered (g : Option Gathering) (s : State) :
    (s.withGathered g).noteWaiting = s.noteWaiting.withGathered g := rfl

/-- A good message finds a place in the receive queue (R185). -/
theorem State.messageArrives_queued {s : State} (m : Message) (h : s.management.receiveQueue.length < Config.receiveQueueSize) :
    s.messageArrives m = { s with management := { s.management with receiveQueue := s.management.receiveQueue ++ [m] } } :=
  if_pos h

/-- A good message is answered BUSY (R185). -/
theorem State.messageArrives_busy {s : State} (m : Message)
    (h : ¬s.management.receiveQueue.length < Config.receiveQueueSize) (b : s.management.busyRoom = true) :
    s.messageArrives m =
      { s with management :=
          { s.management with outgoing := s.management.outgoing ++ [m.response .busy .empty] } }.countRouter
        RouterCounters.addBusy :=
  (if_neg h).trans (if_pos b)

/-- A good message is discarded (R185). -/
theorem State.messageArrives_discarded {s : State} (m : Message)
    (h : ¬s.management.receiveQueue.length < Config.receiveQueueSize) (b : ¬s.management.busyRoom = true) :
    s.messageArrives m = s.countRouter RouterCounters.addDiscarded :=
  (if_neg h).trans (if_neg b)

theorem State.messageArrives_withGathered (m : Message) (g : Option Gathering) (s : State) :
    (s.withGathered g).messageArrives m = (s.messageArrives m).withGathered g := by
  by_cases h : s.management.receiveQueue.length < Config.receiveQueueSize
  · rw [State.messageArrives_queued m h, State.messageArrives_queued (s := s.withGathered g) m h]
    rfl
  · by_cases b : s.management.busyRoom = true
    · rw [State.messageArrives_busy m h b, State.messageArrives_busy (s := s.withGathered g) m h b]
      rfl
    · rw [State.messageArrives_discarded m h b, State.messageArrives_discarded (s := s.withGathered g) m h b]
      rfl

theorem State.received_withGathered (e : ReceiverEvent) (g : Option Gathering) (s : State) :
    (s.withGathered g).received e = (s.received e).withGathered g := by
  cases e
  · exact State.messageArrives_withGathered _ _ _
  · rfl

theorem State.receivedAll_withGathered (es : List ReceiverEvent) (g : Option Gathering) (s : State) :
    es.foldl (fun s e => (s.received e).noteWaiting) (s.withGathered g)
      = (es.foldl (fun s e => (s.received e).noteWaiting) s).withGathered g := by
  induction es generalizing s with
  | nil => rfl
  | cons e es ih =>
    simp only [List.foldl_cons, State.received_withGathered, State.noteWaiting_withGathered, ih]

/-- Acting on what was found does not depend on the bytes gathered before. -/
theorem State.afterScan_withGathered (found : List ReceiverEvent × Option (List Byte)) (g : Option Gathering) (s : State) :
    (s.withGathered g).afterScan found = s.afterScan found := by
  unfold State.afterScan
  rw [State.receivedAll_withGathered]
  rfl

/-- Then the receiver hunts, or gathers with the whole of the 5 ms before it (R184). -/
@[simp] theorem State.afterScan_gathered (found : List ReceiverEvent × Option (List Byte)) (s : State) :
    (s.afterScan found).management.gathered = found.2.map fun taken => { taken, left := Config.byteGap } := rfl

/-- Bytes that arrive while the receiver hunts. -/
theorem State.receive_hunting {bytes : List Byte} {s : State} (h : s.management.gathered = none) (hb : bytes ≠ []) :
    s.receive bytes = s.afterScan (scan 0 bytes) := by
  cases bytes with
  | nil => exact absurd rfl hb
  | cons b bs => simp [State.receive, ManagementLink.stream, h]

/-- Bytes that arrive while the receiver gathers go on from those it has taken (R183). -/
theorem State.receive_gathering {bytes : List Byte} {g : Gathering} {s : State} (h : s.management.gathered = some g)
    (hb : bytes ≠ []) : s.receive bytes = s.afterScan (scan 0 (Config.startByte :: g.taken ++ bytes)) := by
  cases bytes with
  | nil => exact absurd rfl hb
  | cons b bs => simp [State.receive, ManagementLink.stream, h]

/-- A framing error is counted, and the rest goes on from there. -/
theorem State.afterScan_framingError (es : List ReceiverEvent) (g : Option (List Byte)) (s : State) :
    s.afterScan (.framingError :: es, g) = (s.countRouter RouterCounters.addFraming).noteWaiting.afterScan (es, g) := rfl

/-- A good message is handed to the receive queue, and the rest goes on from there. -/
theorem State.afterScan_message (m : Message) (es : List ReceiverEvent) (g : Option (List Byte)) (s : State) :
    s.afterScan (.message m :: es, g) = (s.messageArrives m).noteWaiting.afterScan (es, g) := rfl

/-- The receiver found nothing: it hunts, or gathers. -/
theorem State.afterScan_nothing (g : Option (List Byte)) (s : State) :
    s.afterScan ([], g) =
      { s with management :=
          { s.management with gathered := g.map fun taken => { taken, left := Config.byteGap } } } := rfl

/-- A hunting receiver that found nothing is as it was. -/
theorem State.afterScan_hunting {s : State} (h : s.management.gathered = none) : s.afterScan ([], none) = s := by
  rw [State.afterScan_nothing, Option.map_none, ← h]

/-- A message abandoned: what was left of the 5 ms passes, and the receiver hunts (R184). -/
theorem State.abandon_gathering {g : Gathering} {s : State} (h : s.management.gathered = some g) :
    s.abandon = (s.elapse g.left).hunt := by
  simp only [State.abandon, h]

theorem State.abandon_hunting {s : State} (h : s.management.gathered = none) : s.abandon = s := by
  simp only [State.abandon, h]

/-! ## Offering a response -/

/-- A response that finds a place enters, and its command is answered (R186, R187). -/
theorem State.offerResponse_enters {s : State} (c : Message) (r : OutMessage) (h : s.management.mayEnter .response = true) :
    s.offerResponse c r = s.enterResponse c r := if_pos h

/-- A response that finds no place waits, and its command stays in progress (R188, R189). -/
theorem State.offerResponse_waits {s : State} (c : Message) (r : OutMessage) (h : s.management.mayEnter .response = false) :
    s.offerResponse c r =
      { s with management := { s.management with running := some { command := c, stage := .answered r } } } :=
  if_neg (by simp [h])

end Sys2Proof.Machine
end

