-- ==== Sys2Proof/Laws/Settings.lean ====
section
/-! SUPPORT. The settings and the records of a load image: whatever refuses one, it changes nothing (R25, R173, R191). -/

namespace Sys2Proof.Machine

/-- A reply that refuses leaves the state as it was. -/
def Reply.Whole (s : State) (r : Reply) : Prop := r.status ≠ .done → r.state = s

theorem whole_refuse (status : Status) (s : State) : (refuse status s).Whole s := fun _ => rfl

theorem whole_done (values : Values) (s t : State) : (done values t).Whole s := fun h => absurd rfl h

theorem whole_ite {s : State} {c : Prop} [Decidable c] {a b : Reply} (ha : a.Whole s) (hb : b.Whole s) :
    (if c then a else b).Whole s := by
  split
  · exact ha
  · exact hb

/-- An item is written whole or not at all (R25). -/
theorem whole_writeItem {α : Type} [DecidableEq α] (x : Setting α) (v : α) (fix : Bool) {s : State} {next : Setting α → Reply}
    (h : ∀ y, (next y).Whole s) : (writeItem x v fix s next).Whole s := by
  unfold writeItem
  split
  · exact whole_refuse _ _
  · exact h _

/-- A setting's act refuses whole, whatever its parameters. -/
def SettingAct.Whole (act : SettingAct) : Prop := ∀ f fix params s r, act f fix params s = some r → r.Whole s

/-- One arm of an act. -/
theorem whole_some {s : State} {a r : Reply} (ha : a.Whole s) (h : some a = some r) : r.Whole s := Option.some.inj h ▸ ha

/-! ## The values checked and written -/

theorem setStationTo_whole (st : Byte) (f fix : Bool) (s : State) : (setStationTo st f fix s).Whole s :=
  whole_ite (whole_refuse _ _) (whole_writeItem _ _ _ fun _ =>
    whole_ite (whole_refuse _ _) (whole_ite (whole_refuse _ _) (whole_done _ _ _)))

theorem setBayRangeTo_whole (b : Bay) (x : StationRange) (fix : Bool) (s : State) : (setBayRangeTo b x fix s).Whole s :=
  whole_ite (whole_refuse _ _) (whole_writeItem _ _ _ fun _ => whole_ite (whole_refuse _ _) (whole_done _ _ _))

theorem setWindowTo_whole (b : Bay) (k : WindowKind) (w : Window) (fix : Bool) (s : State) :
    (setWindowTo b k w fix s).Whole s :=
  whole_ite (whole_refuse _ _) (whole_writeItem _ _ _ fun _ => whole_ite (whole_refuse _ _) (whole_done _ _ _))

theorem setDirectedTo_whole (d : Directed) (fix : Bool) (s : State) : (setDirectedTo d fix s).Whole s :=
  whole_ite (whole_refuse _ _) (whole_writeItem _ _ _ fun _ => whole_done _ _ _)

theorem setPermitsTo_whole (b : Bay) (x : Permits) (fix : Bool) (s : State) : (setPermitsTo b x fix s).Whole s :=
  whole_writeItem _ _ _ fun _ => whole_done _ _ _

theorem setSpoiledTo_whole (p : Port) (drop fix : Bool) (s : State) : (setSpoiledTo p drop fix s).Whole s :=
  whole_writeItem _ _ _ fun _ => whole_done _ _ _

theorem setQuotaTo_whole (p : Port) (n : Nat) (fix : Bool) (s : State) : (setQuotaTo p n fix s).Whole s :=
  whole_ite (whole_refuse _ _) (whole_writeItem _ _ _ fun _ => whole_done _ _ _)

theorem setTimersTo_whole (x : ExchangeTimers) (fix : Bool) (s : State) : (setTimersTo x fix s).Whole s :=
  whole_ite (whole_refuse _ _) (whole_writeItem _ _ _ fun _ => whole_done _ _ _)

theorem setLinkTo_whole (p : Port) (x : LinkSettings) (fix : Bool) (s : State) : (setLinkTo p x fix s).Whole s :=
  whole_ite (whole_refuse _ _) (whole_writeItem _ _ _ fun _ => whole_done _ _ _)

theorem setReportingTo_whole (c : Category) (x : Reporting) (fix : Bool) (s : State) : (setReportingTo c x fix s).Whole s :=
  whole_writeItem _ _ _ fun _ => whole_done _ _ _

theorem setStreamsTo_whole (n : Nat) (fix : Bool) (s : State) : (setStreamsTo n fix s).Whole s :=
  whole_ite (whole_refuse _ _) (whole_ite (whole_refuse _ _) (whole_done _ _ _))

/-! ## The acts -/

theorem actSetStation_whole : SettingAct.Whole actSetStation := by
  intro f fix params s r h
  unfold actSetStation at h
  repeat' split at h
  all_goals first | exact whole_some (whole_refuse _ _) h | exact whole_some (setStationTo_whole _ _ _ _) h | cases h

theorem actSetBayRange_whole : SettingAct.Whole actSetBayRange := by
  intro f fix params s r h
  unfold actSetBayRange at h
  repeat' split at h
  all_goals first | exact whole_some (whole_refuse _ _) h | exact whole_some (setBayRangeTo_whole _ _ _ _) h | cases h

theorem actSetWindow_whole : SettingAct.Whole actSetWindow := by
  intro f fix params s r h
  unfold actSetWindow at h
  repeat' split at h
  all_goals first | exact whole_some (whole_refuse _ _) h | exact whole_some (setWindowTo_whole _ _ _ _ _) h | cases h

theorem actSetDirected_whole : SettingAct.Whole actSetDirected := by
  intro f fix params s r h
  unfold actSetDirected at h
  repeat' split at h
  all_goals first | exact whole_some (whole_refuse _ _) h | exact whole_some (setDirectedTo_whole _ _ _) h | cases h

theorem actSetPermits_whole : SettingAct.Whole actSetPermits := by
  intro f fix params s r h
  unfold actSetPermits at h
  repeat' split at h
  all_goals first | exact whole_some (whole_refuse _ _) h | exact whole_some (setPermitsTo_whole _ _ _ _) h | cases h

theorem actSetSpoiled_whole : SettingAct.Whole actSetSpoiled := by
  intro f fix params s r h
  unfold actSetSpoiled at h
  repeat' split at h
  all_goals first | exact whole_some (whole_refuse _ _) h | exact whole_some (setSpoiledTo_whole _ _ _ _) h | cases h

theorem actSetQuota_whole : SettingAct.Whole actSetQuota := by
  intro f fix params s r h
  unfold actSetQuota at h
  repeat' split at h
  all_goals first | exact whole_some (whole_refuse _ _) h | exact whole_some (setQuotaTo_whole _ _ _ _) h | cases h

theorem actSetLink_whole : SettingAct.Whole actSetLink := by
  intro f fix params s r h
  unfold actSetLink at h
  repeat' split at h
  all_goals first | exact whole_some (whole_refuse _ _) h | exact whole_some (setLinkTo_whole _ _ _ _) h | cases h

theorem actSetStreams_whole : SettingAct.Whole actSetStreams := by
  intro f fix params s r h
  unfold actSetStreams at h
  repeat' split at h
  all_goals first | exact whole_some (whole_refuse _ _) h | exact whole_some (setStreamsTo_whole _ _ _) h | cases h

theorem actSetExchangeTimers_whole : SettingAct.Whole actSetExchangeTimers := by
  intro f fix params s r h
  unfold actSetExchangeTimers at h
  repeat' split at h
  all_goals first | exact whole_some (setTimersTo_whole _ _ _) h | cases h

theorem actSetStallLimit_whole : SettingAct.Whole actSetStallLimit := by
  intro f fix params s r h
  unfold actSetStallLimit at h
  split at h
  · exact whole_some (whole_ite (whole_refuse _ _) (whole_writeItem _ _ _ fun _ => whole_done _ _ _)) h
  · cases h

theorem actSetReporting_whole : SettingAct.Whole actSetReporting := by
  intro f fix params s r h
  unfold actSetReporting at h
  split at h
  · rw [Option.map_eq_some_iff] at h
    obtain ⟨items, _, rfl⟩ := h
    repeat' split
    all_goals first | exact whole_refuse _ _ | exact setReportingTo_whole _ _ _ _
  · cases h

theorem actOpenRoutingRecord_whole : SettingAct.Whole actOpenRoutingRecord := by
  intro f fix params s r h
  unfold actOpenRoutingRecord at h
  split at h
  · exact whole_some (whole_ite (whole_refuse _ _) (whole_done _ _ _)) h
  · cases h

/-- Every act a record may have refuses whole (R173). -/
theorem loadAct_whole {kind : Byte} {act : SettingAct} (h : loadAct kind = some act) : act.Whole := by
  unfold loadAct at h
  split at h <;>
    first
    | cases h; done
    | (obtain rfl := Option.some.inj h
       first
       | exact actSetStation_whole
       | exact actSetBayRange_whole
       | exact actSetWindow_whole
       | exact actSetDirected_whole
       | exact actSetPermits_whole
       | exact actSetSpoiled_whole
       | exact actSetQuota_whole
       | exact actSetExchangeTimers_whole
       | exact actSetStallLimit_whole
       | exact actSetLink_whole
       | exact actSetReporting_whole
       | exact actSetStreams_whole
       | exact actOpenRoutingRecord_whole)

/-- A record of a kind that is allowed in a load and has its parameters runs its act (R173). -/
theorem runRecord_act {r : LoadRecord} {fix : Bool} {kind : Byte} {params : List Byte} {act : SettingAct} {s : State}
    (hf : flagOfByte r.flag = some fix) (hb : r.body = kind :: params) (hk : isCommandKind kind = true)
    (ha : loadAct kind = some act) :
    runRecord r s = (act s.loader.pendingOpen fix params s).getD (refuse .badLength s) := by
  simp [runRecord, hf, hb, hk, ha]

end Sys2Proof.Machine
end

