-- ==== Sys2Proof/Tests/Slice0.lean ====
section
/-! SUPPORT. Tests of the model: the spec's own check figures, the checks of WellFormed, what some commands answer on a small state, and
for every obligation with hypotheses a state and operands that meet them, clause by clause (`test_meets_<its name>`). -/

open Sys2Proof Sys2Proof.Machine

namespace Sys2Proof.Tests

-- One test at a time: each runs in a thread with a large stack, and all together would exceed the memory limit.
set_option Elab.async false

/-! ## Checks and well-formedness -/

/-- R200: "Over the nine bytes 31h to 39h, the check is 29B1h." -/
theorem test_crc16_check_value : crc16 [0x31, 0x32, 0x33, 0x34, 0x35, 0x36, 0x37, 0x38, 0x39] = 0x29B1 := by decide +kernel

/-- R201: "Over the nine bytes 31h to 39h it is 0376E6E7h." -/
theorem test_crc32_check_value : crc32 [0x31, 0x32, 0x33, 0x34, 0x35, 0x36, 0x37, 0x38, 0x39] = 0x0376E6E7 := by decide +kernel

/-- R200: "A records area of total length 0 has check FFFFh." -/
theorem test_crc16_empty : crc16 [] = 0xFFFF := by decide +kernel

/-- A message with a wrong check is refused by WellFormed. -/
theorem test_wf_bad_check : (Instr.identify { seq := 0, params := [], check := 0 }).wellFormed = false := by decide +kernel

/-- A message with its right check passes. -/
theorem test_wf_good_check : (Instr.setStation (HostMsg.make 0x10 1 [0x10])).wellFormed = true := by decide +kernel

/-- A bad-kind message must not carry a command kind. -/
theorem test_wf_bad_kind_is_command : (Instr.badKindMessage 0x10 (HostMsg.make 0x10 1 [0x10])).wellFormed = false := by
  decide +kernel

/-- An absent memory brings no bytes. -/
theorem test_wf_absent_memory : (Instr.loadImageRead ⟨false, true, []⟩).wellFormed = false := by decide +kernel

/-- A body length of 4 is in range. -/
theorem test_wf_length_in_range : (Instr.bodyLengthOutOfRange 0 4).wellFormed = false := by decide +kernel

/-! ## Small states -/

/-- A good message with sequence 1. -/
def msg (kind : Byte) (ps : List Byte) : HostMsg := HostMsg.make kind 1 ps

/-- The state with this message alone in the receive queue. -/
def asked (s : State) (kind : Byte) (ps : List Byte) : State :=
  { s with management := { s.management with receiveQueue := [⟨kind, msg kind ps⟩] } }

/-- CONFIGURING, own station 16. -/
def calm : State :=
  { State.reset with
    routes := { RouteTables.reset with ownStation := ⟨16, false⟩ }
    loader := { State.reset.loader with state := .configuring } }

/-- A port that is UP with max 256, its buffers and lanes empty. -/
def upPort : PortState :=
  { PortState.reset with
    link := .up 256, offered := some 256, greeting := some ⟨.router, 256, 4, 4⟩, granted := ⟨4, 4⟩, partner := ⟨4, 4⟩ }

/-- The record of a bay with this station range and this general window, both permits on. -/
def openBay (first last : Byte) (base limit : Word32) : BayRecord :=
  { range := ⟨⟨first, last⟩, false⟩, general := ⟨⟨base, limit⟩, false⟩, bulk := ⟨⟨0xFFF00000, 0x000FFFFF⟩, false⟩,
    permits := ⟨⟨true, true⟩, false⟩ }

/-- FORWARDING; T, B1 and B2 UP, B3 DOWN; B1, B2 and B3 each with a window and a station range. -/
def serving : State :=
  { calm with
    routes :=
      { calm.routes with
        bays :=
          ((calm.routes.bays.set .b1 (openBay 32 47 0x10000000 0x10000FFF)).set .b2 (openBay 48 63 0x20000000 0x20000FFF)).set .b3
            (openBay 64 79 0x30000000 0x30000FFF) }
    ports := ((calm.ports.set .t upPort).set .b1 upPort).set .b2 upPort
    loader := { calm.loader with state := .forwarding } }

/-- One port changed. -/
def withPort (s : State) (p : Port) (x : PortState) : State := { s with ports := s.ports.set p x }

/-- An OPEN exchange of a requester, for four bytes at B1. -/
def someExchange (o : Requester) : Exchange := ⟨o, .b1, 0x10000000, 4, 0, 0⟩

/-- Entry 0 in a state. -/
def withEntry (s : State) (e : Entry) : State := s.setEntry 0 e

/-- What a command taken needs of the state, apart from its place in the receive queue. -/
def idle (s : State) : Bool :=
  s.pins.porn && s.management.running.isNone && s.management.mayEnter .response && s.management.last.isNone

/-- The command is taken, with these parameters. -/
def Asks (s : State) (kind : Byte) (ps : List Byte) : Prop :=
  Taken (asked s kind ps) ⟨kind, msg kind ps⟩ ∧ (msg kind ps).params = ps

/-- The command is taken outside START, with these parameters. -/
def Runs (s : State) (kind : Byte) (ps : List Byte) : Prop :=
  TakenOutsideStart (asked s kind ps) ⟨kind, msg kind ps⟩ ∧ (msg kind ps).params = ps

theorem asks {s : State} {kind : Byte} {ps : List Byte} (h : idle s = true) : Asks s kind ps := by
  simp only [idle, Bool.and_eq_true, Option.isNone_iff_eq_none] at h
  obtain ⟨⟨⟨hp, hr⟩, hm⟩, hl⟩ := h
  exact ⟨⟨hp, hr, hm, rfl, by simp only [ManagementLink.repeated, asked, hl]⟩, rfl⟩

theorem runs {s : State} {kind : Byte} {ps : List Byte} (h : idle s = true) (hs : s.inStart = false) : Runs s kind ps :=
  ⟨⟨(asks h).1, hs⟩, (asks (kind := kind) (ps := ps) h).2⟩

/-- The status of the last response in the outgoing queue of the next state. -/
def replied (i : Instr) (s : State) : Option Status :=
  match exec i s with
  | .next t =>
    match t.management.outgoing.getLast? with
    | some ⟨_, _, .response st _⟩ => some st
    | _ => none
  | _ => none

/-- The next state, where there is one. -/
def after (i : Instr) (s : State) : State :=
  match exec i s with
  | .next t => t
  | _ => s

/-- The status a command gets on a state. -/
def status (make : HostMsg → Instr) (kind : Byte) (ps : List Byte) (s : State) : Option Status :=
  replied (make (msg kind ps)) (asked s kind ps)

/-! ## The step and the resets -/

theorem test_meets_StepOnEmptyQueueIsAMillisecond : State.reset.pending = [] := by decide +kernel

theorem test_meets_PornHoldsAndTakesThePowerOnReset :
    (after .pornLow serving).pins.porn = false ∧ (∀ r1 r0, Instr.fetchDone ≠ .powerOnReset r1 r0) ∧ Instr.fetchDone ≠ .pornLow
      ∧ (∀ p, Instr.fetchDone ≠ .partnerSignalPresent p) ∧ ∀ p, Instr.fetchDone ≠ .partnerSignalLoss p := by
  refine ⟨by decide +kernel, ?_, ?_, ?_, ?_⟩ <;> intros <;> simp

theorem test_meets_SentFormsReadBack :
    (1 ≤ [(7 : Byte)].length ∧ [(7 : Byte)].length ≤ 64) ∧ (1 ≤ 1 ∧ 1 ≤ 4096 ∧ 1 ≤ 4096 ∧ 4096 ≤ 4096)
      ∧ ((1 : Byte) ≠ 0 ∧ ([] : List Byte).length ≤ 32 ∧ (List.replicate 32 (7 : Byte)).length ≤ 32)
      ∧ ((true = true ∨ 1 ≤ ([] : List Byte).length) ∧ AnsStatus.fault ≠ .good)
      ∧ 64 ∈ [64, 128, 256, 512, 1024] ∧ 1024 ∈ [64, 128, 256, 512, 1024] ∧ (msg 0x10 [5]).good 0x10 = true
      ∧ (Body.response .done (.echoed (List.replicate 4157 7))).bytes.length + 2 ≤ 4160 := by
  decide +kernel

/-! ## Chapter 2 -/

/-- The own station fixed. -/
def fixedStation : State := { calm with routes := { calm.routes with ownStation := ⟨16, true⟩ } }

theorem test_meets_SetStationResults :
    (Runs calm 0x10 [254] ∧ (254 : Byte) ≠ 255 ∧ calm.routes.ownStation.fixed = false
        ∧ ∀ b, (calm.routes.bays.get b).range.value.holds 254 = false)
      ∧ (Runs calm 0x10 [0] ∧ calm.isForwarding = false)
      ∧ (Runs calm 0x10 [] ∧ (msg 0x10 []).params.length ≠ 1) ∧ Runs calm 0x10 [255]
      ∧ (Runs fixedStation 0x10 [5] ∧ (5 : Byte) ≠ 255 ∧ fixedStation.routes.ownStation.fixed = true
        ∧ fixedStation.routes.ownStation.value ≠ 5)
      ∧ (Runs serving 0x10 [32] ∧ serving.routes.ownStation.fixed = false
        ∧ (serving.routes.bays.get .b1).range.value.holds 32 = true)
      ∧ (Runs serving 0x10 [0] ∧ serving.isForwarding = true) := by
  constructorm* _ ∧ _ <;>
    first
    | exact runs (by decide +kernel) (by decide +kernel)
    | decide +kernel
    | (intro b; cases b <;> decide +kernel)

/-- B1's range and general window fixed. -/
def fixedBay : State :=
  { serving with
    routes :=
      { serving.routes with
        bays :=
          serving.routes.bays.set .b1
            { openBay 32 47 0x10000000 0x10000FFF with
              range := ⟨⟨32, 47⟩, true⟩, general := ⟨⟨0x10000000, 0x10000FFF⟩, true⟩, permits := ⟨⟨true, true⟩, true⟩ } } }

theorem test_meets_SetBayRangeAndSetWindowWriteOrConflict :
    (Runs serving 0x11 [1, 255, 255] ∧ Bay.ofByte 1 = some .b1)
      ∧ (Runs fixedBay 0x11 [1, 33, 47] ∧ (fixedBay.routes.bays.get .b1).range.fixed = true
        ∧ (fixedBay.routes.bays.get .b1).range.value ≠ ⟨33, 47⟩)
      ∧ (Runs serving 0x11 [4, 47, 47] ∧ Bay.ofByte 4 = some .b4 ∧ Bay.b1 ≠ .b4
        ∧ (⟨47, 47⟩ : StationRange).holds 47 = true ∧ (serving.routes.bays.get .b1).range.value.holds 47 = true)
      ∧ (Runs serving 0x11 [4, 16, 16] ∧ serving.routes.ownStation.value = 16 ∧ (⟨16, 16⟩ : StationRange).holds 16 = true)
      ∧ (Runs serving 0x11 [4, 0, 0]
        ∧ ¬((∃ c st, c ≠ Bay.b4 ∧ (⟨0, 0⟩ : StationRange).holds st = true
              ∧ (serving.routes.bays.get c).range.value.holds st = true)
            ∨ (serving.routes.ownStation.value ≠ 0 ∧ (⟨0, 0⟩ : StationRange).holds serving.routes.ownStation.value = true)))
      ∧ (Runs serving 0x12 [4, 0, 0, 0, 0, 1, 0, 0, 0x0F, 0xFF] ∧ WindowKind.ofByte 0 = some .general
        ∧ (⟨1, 0xFFF⟩ : Window).aligned .general = false)
      ∧ (Runs fixedBay 0x12 [1, 0, 0, 0, 0, 0, 0, 0, 0x0F, 0xFF]
        ∧ (⟨0, 0xFFF⟩ : Window).aligned .general = true ∧ ((fixedBay.routes.bays.get .b1).window .general).fixed = true
        ∧ ((fixedBay.routes.bays.get .b1).window .general).value ≠ ⟨0, 0xFFF⟩)
      ∧ (Runs serving 0x12 [4, 0, 0x10, 0, 0, 0, 0x10, 0, 0x0F, 0xFF]
        ∧ word32 0x10 0 0 0 = 0x10000000 ∧ word32 0x10 0 0x0F 0xFF = 0x10000FFF
        ∧ (⟨0x10000000, 0x10000FFF⟩ : Window).holds 0x10000000 = true
        ∧ ((serving.routes.bays.get .b1).window .general).value.holds 0x10000000 = true)
      ∧ (Runs serving 0x12 [4, 1, 0xFF, 0xF0, 0, 0, 0, 0x0F, 0xFF, 0xFF] ∧ WindowKind.ofByte 1 = some .bulk
        ∧ (⟨0xFFF00000, 0x000FFFFF⟩ : Window).aligned .bulk = true
        ∧ ¬(∃ c other a, (c ≠ Bay.b4 ∨ other ≠ WindowKind.bulk) ∧ (⟨0xFFF00000, 0x000FFFFF⟩ : Window).holds a = true
            ∧ ((serving.routes.bays.get c).window other).value.holds a = true))
      ∧ (Runs serving 0x11 [0, 1, 2] ∧ Runs serving 0x11 [7, 1, 2] ∧ 6 < (7 : Byte).toNat)
      ∧ (Runs serving 0x12 [0, 0, 0, 0, 0, 0, 0, 0, 0x0F, 0xFF] ∧ Runs serving 0x12 [7, 0, 0, 0, 0, 0, 0, 0, 0x0F, 0xFF]
        ∧ Runs serving 0x12 [1, 2, 0, 0, 0, 0, 0, 0, 0x0F, 0xFF] ∧ 1 < (2 : Byte).toNat) := by
  constructorm* _ ∧ _ <;>
    first
    | exact runs (by decide +kernel) (by decide +kernel)
    | decide +kernel
    | skip
  · rintro (⟨_, st, _, h, _⟩ | ⟨_, h⟩)
    · have none : ∀ st : Byte, (⟨0, 0⟩ : StationRange).holds st = false := by decide +kernel
      exact absurd ((none st).symm.trans h) (by decide)
    · revert h; decide +kernel
  · rintro ⟨_, _, a, _, h, _⟩
    simp only [Window.holds, Bool.and_eq_true, decide_eq_true_eq] at h
    exact absurd (BitVec.le_trans h.1 h.2) (by decide)

/-- The directed range and T's drop-spoiled setting fixed. -/
def fixedRest : State :=
  { fixedBay with
    routes :=
      { fixedBay.routes with
        directed := { fixedBay.routes.directed with fixed := true }, dropSpoiled := fixedBay.routes.dropSpoiled.set .t ⟨false, true⟩ } }

theorem test_meets_DirectedPermitsSpoiledWritten :
    (Runs serving 0x13 [0, 0, 0, 1, 0, 0, 0, 0xFF, 1, 1] ∧ Bay.ofByte 1 = some .b1 ∧ flagOfByte 1 = some true
        ∧ (⟨1, 0xFF, .b1, true⟩ : Directed).aligned = false)
      ∧ (Runs serving 0x13 [0, 0, 0, 0, 0, 0, 0, 0xFF, 1, 1] ∧ (⟨0, 0xFF, .b1, true⟩ : Directed).aligned = true
        ∧ serving.routes.directed.fixed = false)
      ∧ (Runs fixedRest 0x13 [0, 0, 0, 0, 0, 0, 0, 0xFF, 1, 1] ∧ fixedRest.routes.directed.fixed = true
        ∧ fixedRest.routes.directed.value ≠ ⟨0, 0xFF, .b1, true⟩)
      ∧ (Runs serving 0x14 [0, 0, 1] ∧ Bay.ofByte 0 = none)
      ∧ (Runs serving 0x14 [1, 0, 1] ∧ (serving.routes.bays.get .b1).permits.fixed = false)
      ∧ (Runs fixedRest 0x14 [1, 0, 1] ∧ (fixedRest.routes.bays.get .b1).permits.fixed = true
        ∧ (fixedRest.routes.bays.get .b1).permits.value ≠ ⟨false, true⟩)
      ∧ (Runs serving 0x15 [7, 1] ∧ Port.ofByte 7 = none)
      ∧ (Runs serving 0x15 [6, 1] ∧ Port.ofByte 6 = some .b6 ∧ (serving.routes.dropSpoiled.get .b6).fixed = false)
      ∧ (Runs fixedRest 0x15 [0, 1] ∧ (fixedRest.routes.dropSpoiled.get .t).fixed = true
        ∧ (fixedRest.routes.dropSpoiled.get .t).value ≠ true)
      ∧ (Runs serving 0x13 [0, 0, 0, 0, 0, 0, 0, 0xFF, 0, 1] ∧ Runs serving 0x13 [0, 0, 0, 0, 0, 0, 0, 0xFF, 7, 1]
        ∧ Runs serving 0x13 [0, 0, 0, 0, 0, 0, 0, 0xFF, 1, 2])
      ∧ (Runs serving 0x14 [7, 1, 1] ∧ Runs serving 0x14 [1, 2, 1] ∧ Runs serving 0x14 [1, 1, 2]) ∧ Runs serving 0x15 [0, 2] := by
  constructorm* _ ∧ _ <;> first | exact runs (by decide +kernel) (by decide +kernel) | decide +kernel

theorem test_meets_ReadRoutesAndProbeRouteAnswer :
    (Runs serving 0x16 [6] ∧ Bay.ofByte 6 = some .b6) ∧ Runs serving 0x16 [0] ∧ Runs serving 0x16 [8]
      ∧ Runs serving 0x16 [7] ∧ (Runs serving 0x16 [9] ∧ 8 < (9 : Byte).toNat)
      ∧ (Runs serving 0x17 [7, 0, 1, 0, 0, 0, 0, 1, 0x10, 0, 0] ∧ Origin.ofByte 7 = some .m
        ∧ (word16 0x10 0).toNat = 4096)
      ∧ (Runs serving 0x17 [0, 0, 1, 0, 0, 0, 0, 1, 0, 1, 0] ∧ Origin.ofByte 0 = some (.link .t) ∧ (word16 0 1).toNat = 1)
      ∧ (Runs serving 0x17 [1, 1, 0, 0, 1, 255] ∧ Origin.ofByte 1 = some (.link .b1) ∧ (255 : Byte) ≠ 0)
      ∧ (Runs serving 0x17 [0, 2, 1, 0, 0, 0, 0, 1, 0, 1, 0] ∧ Runs serving 0x17 [8, 0, 1, 0, 0, 0, 0, 1, 0, 1, 0]
        ∧ Runs serving 0x17 [0, 0, 1, 0, 0, 0, 0, 1, 0, 0, 0] ∧ (word16 0 0).toNat = 0
        ∧ Runs serving 0x17 [0, 0, 1, 0, 0, 0, 0, 1, 0x10, 1, 0] ∧ (word16 0x10 1).toNat = 4097)
      ∧ (Runs serving 0x17 [0, 2, 0, 0, 1, 5] ∧ Runs serving 0x17 [8, 1, 0, 0, 1, 5] ∧ Runs serving 0x17 [0, 1, 0, 0, 1, 0]) := by
  constructorm* _ ∧ _ <;> first | exact runs (by decide +kernel) (by decide +kernel) | decide +kernel

/-! ## Chapter 3 -/

/-- The laws of the route tables hold where every range is empty and one window alone is open. -/
theorem routeLaw_of_one_window {t : RouteTables} (b : Bay) (k : WindowKind)
    (hr : ∀ c, (t.bays.get c).range.value.isEmpty = true)
    (hs : ∀ c l, (c, l) ≠ (b, k) → ¬((t.bays.get c).window l).value.base ≤ ((t.bays.get c).window l).value.limit)
    (ha : ∀ c l, ((t.bays.get c).window l).value.aligned l = true) : RouteLaw t := by
  have shut : ∀ c l a, ((t.bays.get c).window l).value.holds a = true → (c, l) = (b, k) := fun c l a h => by
    by_contra e
    simp only [Window.holds, Bool.and_eq_true, decide_eq_true_eq] at h
    exact hs c l e (BitVec.le_trans h.1 h.2)
  have empty : ∀ c st, (t.bays.get c).range.value.holds st = false := fun c st => by simp [StationRange.holds, hr]
  exact ⟨fun c d st h => absurd h (by simp [empty]), fun c _ => by simp [empty],
    fun c d l m a h h' => by simpa using (shut c l a h).trans (shut d m a h').symm, ha⟩

/-- The laws hold where every window is closed and one range alone is not empty, the own station 0. -/
theorem routeLaw_of_one_range {t : RouteTables} (b : Bay) (ho : t.ownStation.value = 0)
    (hr : ∀ c, c ≠ b → (t.bays.get c).range.value.isEmpty = true)
    (hs : ∀ c l, ¬((t.bays.get c).window l).value.base ≤ ((t.bays.get c).window l).value.limit)
    (ha : ∀ c l, ((t.bays.get c).window l).value.aligned l = true) : RouteLaw t := by
  have shut : ∀ c l a, ¬((t.bays.get c).window l).value.holds a = true := fun c l a h => by
    simp only [Window.holds, Bool.and_eq_true, decide_eq_true_eq] at h
    exact hs c l (BitVec.le_trans h.1 h.2)
  have only : ∀ c st, (t.bays.get c).range.value.holds st = true → c = b := fun c st h => by
    by_contra e
    simp [StationRange.holds, hr c e] at h
  exact ⟨fun c d st h h' => (only c st h).trans (only d st h').symm, fun c h => absurd ho h,
    fun c d l m a h => absurd h (shut c l a), ha⟩

/-- The route tables after reset with this window of B2. -/
def oneWindow (k : WindowKind) (w : Window) : RouteTables :=
  { RouteTables.reset with
    directed := ⟨⟨0, 0x000000FF, .b1, true⟩, false⟩
    bays := RouteTables.reset.bays.set .b2 ((RouteTables.reset.bays.get .b2).setWindow k ⟨w, false⟩) }

/-- The route tables after reset with this range of B2. -/
def oneRange (x : StationRange) : RouteTables :=
  { RouteTables.reset with
    bays := RouteTables.reset.bays.set .b2 { RouteTables.reset.bays.get .b2 with range := ⟨x, false⟩ } }

/-- What claims a point, under the laws: the directed range, a general window, a bulk window, nothing; each at a boundary. -/
theorem test_meets_RequestDecodeOrder_claims :
    (RouteLaw (oneWindow .general ⟨0, 0x00000FFF⟩) ∧ (oneWindow .general ⟨0, 0x00000FFF⟩).claimOf 0xFF = .directed
        ∧ (oneWindow .general ⟨0, 0x00000FFF⟩).claimOf 0x100 = .general .b2
        ∧ (oneWindow .general ⟨0, 0x00000FFF⟩).claimOf 0xFFF = .general .b2
        ∧ (oneWindow .general ⟨0, 0x00000FFF⟩).claimOf 0x1000 = .byDefault)
      ∧ RouteLaw (oneWindow .bulk ⟨0xFFF00000, 0xFFFFFFFF⟩)
      ∧ (oneWindow .bulk ⟨0xFFF00000, 0xFFFFFFFF⟩).claimOf 0xFFFFFFFF = .bulk .b2 := by
  refine ⟨⟨routeLaw_of_one_window .b2 .general ?_ ?_ ?_, ?_⟩, routeLaw_of_one_window .b2 .bulk ?_ ?_ ?_, ?_⟩ <;>
    first
    | decide +kernel
    | (intro c; cases c <;> decide +kernel)
    | (intro c l; cases c <;> cases l <;> decide +kernel)

/-- What claims a station, under the laws: a range at both its ends, nothing beside it. -/
theorem test_meets_NoticeDecodeOrder_claims :
    RouteLaw (oneRange ⟨32, 47⟩) ∧ (oneRange ⟨32, 47⟩).stationClaim 32 = .range .b2
      ∧ (oneRange ⟨32, 47⟩).stationClaim 47 = .range .b2 ∧ (oneRange ⟨32, 47⟩).stationClaim 48 = .byDefault := by
  refine ⟨routeLaw_of_one_range .b2 ?_ ?_ ?_ ?_, ?_⟩ <;>
    first
    | decide +kernel
    | (intro c; cases c <;> decide +kernel)
    | (intro c l; cases c <;> cases l <;> decide +kernel)

theorem test_meets_RequestDecodeOrder :
    (calm.isForwarding = false ∧ Origin.link .t ≠ .m)
      ∧ (serving.isForwarding = true ∧ serving.routes.targetOf (.link .t) (serving.routes.claimOf 0) = none)
      ∧ (serving.routes.targetOf (.link .t) (serving.routes.claimOf 0x10000FFF) = some .b1
        ∧ serving.routes.straddles (serving.routes.claimOf 0x10000FFF) 0x10000FFF 2 = true
        ∧ serving.routes.straddles (serving.routes.claimOf 0x10000FFF) 0x10000FFF 1 = false)
      ∧ (serving.routes.targetOf (.link .b1) (serving.routes.claimOf 0x10000000) = some .b1
        ∧ serving.routes.straddles (serving.routes.claimOf 0x10000000) 0x10000000 4 = false)
      ∧ (serving.routes.targetOf (.link .b4) (serving.routes.claimOf 0) = some .t
        ∧ serving.routes.straddles (serving.routes.claimOf 0) 0 4 = false ∧ serving.routes.forbids (.link .b4) .t = true)
      ∧ (serving.routes.targetOf .m (serving.routes.claimOf 0x30000000) = some .b3
        ∧ serving.routes.straddles (serving.routes.claimOf 0x30000000) 0x30000000 4 = false
        ∧ serving.routes.forbids .m .b3 = false ∧ serving.isUp .b3 = false ∧ serving.isUp .b1 = true)
      ∧ ((serving.routeRequest (.link .t) 0x10000000 257).verdict = .place .b1 ∧ (serving.port .b1).link = .up 256
        ∧ 256 < (List.replicate 257 (0 : Byte)).length)
      ∧ (∀ p, (serving.routeRequest (.link .t) 0 1).verdict ≠ .place p)
      ∧ ((serving.routeRequest (.link .t) 0x10000000 256).verdict = .place .b1
        ∧ serving.routes.dropsSpoiled (.link .t) = false
        ∧ (after (.setSpoiled (msg 0x15 [0, 1])) (asked serving 0x15 [0, 1])).routes.dropsSpoiled (.link .t) = true) := by
  constructorm* _ ∧ _ <;> first | decide +kernel | (intro p; cases p <;> decide +kernel)

theorem test_meets_NoticeDecodeOrder :
    (serving.routes.ownStation.value ≠ 0 ∧ (16 : Byte) = serving.routes.ownStation.value ∧ serving.inStart = false)
      ∧ ((17 : Byte) ≠ calm.routes.ownStation.value ∧ calm.isForwarding = false ∧ Origin.link .t ≠ .m)
      ∧ serving.routes.targetOf (.link .t) (serving.routes.stationClaim 17) = none
      ∧ serving.routes.targetOf (.link .b1) (serving.routes.stationClaim 47) = some .b1
      ∧ (serving.routes.targetOf (.link .b4) (serving.routes.stationClaim 48) = some .b2
        ∧ serving.routes.forbids (.link .b4) .b2 = true)
      ∧ (serving.routes.targetOf .m (serving.routes.stationClaim 64) = some .b3 ∧ serving.routes.forbids .m .b3 = false
        ∧ serving.isUp .b3 = false)
      ∧ (serving.routes.targetOf .m (serving.routes.stationClaim 63) = some .b2 ∧ serving.isUp .b2 = true) := by
  decide +kernel

/-- The directed range on for B1's first block, B2's bulk window open. -/
def claiming : RouteTables :=
  { serving.routes with
    directed := ⟨⟨0x10000000, 0x100000FF, .b1, true⟩, false⟩
    bays := serving.routes.bays.set .b2 { openBay 48 63 0x20000000 0x20000FFF with bulk := ⟨⟨0x40000000, 0x400FFFFF⟩, false⟩ } }

theorem test_meets_StraddleCases :
    claiming.claimOf 0x100000FF = .directed ∧ claiming.claimOf 0x10000100 = .general .b1
      ∧ claiming.claimOf 0x400FFFFF = .bulk .b2 ∧ claiming.claimOf 0xFFFFFFFF = .byDefault
      ∧ claiming.straddles .directed 0x100000FF 1 = false ∧ claiming.straddles .directed 0x100000FF 2 = true
      ∧ claiming.straddles .byDefault 0xFFFFFFFF 1 = false ∧ claiming.straddles .byDefault 0xFFFFFFFF 2 = true := by
  decide +kernel

theorem test_meets_InboxReadAndRequestsOutOfRange :
    Runs serving 0x20 [0, 1] ∧ Runs serving 0x20 [0, 4] ∧ Runs serving 0x20 [0, 0] ∧ Runs serving 0x20 [0, 5]
      ∧ (word16 0 5).toNat = 5
      ∧ (Runs serving 0x21 [0, 0, 0, 0, 0, 0, 0] ∧ issueStoreParams [0, 0, 0, 0, 0, 0, 0] = some (0, [], 0))
      ∧ (issueStoreParams (word32 0 0 0 0 |> bytes32 |> fun a => a ++ nat16 1025 ++ List.replicate 1025 0 ++ [0])
          = some (0, List.replicate 1025 0, 0))
      ∧ (Runs serving 0x21 [0, 0, 0, 0, 0, 1, 7, 2] ∧ issueStoreParams [0, 0, 0, 0, 0, 1, 7, 2] = some (0, [7], 2))
      ∧ Runs serving 0x22 [0, 0, 0] ∧ (Runs serving 0x22 (5 :: 0 :: 0 :: List.replicate 33 0))
      ∧ (Runs serving 0x33 [0, 0, 0, 0, 0, 0] ∧ (word16 0 0).toNat = 0)
      ∧ (Runs serving 0x33 [0, 0, 0, 0, 0x10, 1] ∧ (word16 0x10 1).toNat = 4097) := by
  constructorm* _ ∧ _ <;> first | exact runs (by decide +kernel) (by decide +kernel) | decide +kernel

/-- `serving` with a full request lane at B1. -/
def crowded : State :=
  withPort serving .b1 { upPort with requestLane := List.replicate 12 ⟨.store 0x10000000 [0] false, .link .t⟩ }

/-- `serving` with a head at T that waits for B1's request lane. -/
def rivalled : State :=
  withPort serving .t { upPort with requests := [.store 0x10000000 [0] false], requestWait := some (.lane .b1 5) }

theorem test_meets_IssueStoreResults :
    (Runs serving 0x21 [0x10, 0, 0, 0, 0, 1, 7, 1]
        ∧ issueStoreParams [0x10, 0, 0, 0, 0, 1, 7, 1] = some (0x10000000, [7], 1) ∧ flagOfByte 1 = some true
        ∧ (serving.routeRequest .m 0x10000000 1).verdict = .place .b1 ∧ (serving.port .b1).link = .up 256
        ∧ (serving.port .b1).requestLane.length < 12 ∧ ∀ q, serving.wantsRequestLane .b1 (.link q) = false)
      ∧ (Runs crowded 0x21 [0x10, 0, 0, 0, 0, 1, 7, 0] ∧ (crowded.routeRequest .m 0x10000000 1).verdict = .place .b1
        ∧ 12 ≤ (crowded.port .b1).requestLane.length)
      ∧ (Runs rivalled 0x21 [0x10, 0, 0, 0, 0, 1, 7, 0] ∧ (rivalled.routeRequest .m 0x10000000 1).verdict = .place .b1
        ∧ rivalled.wantsRequestLane .b1 (.link .t) = true)
      ∧ ((serving.routeRequest .m 0x10000000 257).verdict = .place .b1 ∧ 256 < (List.replicate 257 (7 : Byte)).length)
      ∧ (Runs serving 0x21 [0x10, 0, 0x0F, 0xFF, 0, 2, 7, 7, 0]
        ∧ (serving.routeRequest .m 0x10000FFF 2).verdict = .refuse .noRoute .straddle) := by
  constructorm* _ ∧ _ <;>
    first
    | exact runs (by decide +kernel) (by decide +kernel)
    | decide +kernel
    | (intro b; cases b <;> decide +kernel)

/-- A full inbox. -/
def fullInbox : State := { serving with inbox := List.replicate 16 ⟨1, .m, 0, [], false⟩ }

theorem test_meets_SendNoticeResults :
    (Runs serving 0x22 [16, 0, 1] ∧ (serving.routeNotice .m 16).verdict = .inbox ∧ serving.inbox.length < 16)
      ∧ (Runs fullInbox 0x22 [16, 0, 1] ∧ (fullInbox.routeNotice .m 16).verdict = .inbox ∧ 16 ≤ fullInbox.inbox.length)
      ∧ (Runs serving 0x22 [32, 0, 1, 9] ∧ (serving.routeNotice .m 32).verdict = .place .b1
        ∧ (serving.port .b1).requestLane.length < 12 ∧ ∀ q, serving.wantsRequestLane .b1 (.link q) = false)
      ∧ (Runs crowded 0x22 [32, 0, 1] ∧ (crowded.routeNotice .m 32).verdict = .place .b1
        ∧ 12 ≤ (crowded.port .b1).requestLane.length)
      ∧ (Runs rivalled 0x22 [32, 0, 1] ∧ (rivalled.routeNotice .m 32).verdict = .place .b1
        ∧ rivalled.wantsRequestLane .b1 (.link .t) = true)
      ∧ (Runs serving 0x22 [64, 0, 1] ∧ (serving.routeNotice .m 64).verdict = .drop .noRoute) := by
  constructorm* _ ∧ _ <;>
    first
    | exact runs (by decide +kernel) (by decide +kernel)
    | decide +kernel
    | (intro b; cases b <;> decide +kernel)

/-! ## Chapter 4 -/

/-- The quota of T, the timers and the stall limit fixed. -/
def fixedTimes : State :=
  { calm with
    exchange := { calm.exchange with quotas := calm.exchange.quotas.set .t ⟨32, true⟩, timers := ⟨⟨50, 50⟩, true⟩ }
    stallLimit := ⟨10, true⟩ }

theorem test_meets_QuotaTimersAndStallLimitWritten :
    (Runs calm 0x30 [6, 0, 1] ∧ Port.ofByte 6 = some .b6 ∧ (calm.exchange.quotas.get .b6).fixed = false)
      ∧ (Runs calm 0x30 [7, 0, 1] ∧ 6 < (7 : Byte).toNat)
      ∧ (Runs calm 0x30 [0, 0, 64] ∧ (word16 0 64).toNat = 64) ∧ Runs calm 0x30 [0, 0, 0] ∧ Runs calm 0x30 [0, 0, 65]
      ∧ (Runs fixedTimes 0x30 [0, 0, 1] ∧ (fixedTimes.exchange.quotas.get .t).fixed = true
        ∧ (fixedTimes.exchange.quotas.get .t).value ≠ 1)
      ∧ (Runs calm 0x31 [0x03, 0xE8, 0x03, 0xE8] ∧ (word16 0x03 0xE8).toNat = 1000 ∧ calm.exchange.timers.fixed = false)
      ∧ (Runs fixedTimes 0x31 [0, 1, 0, 0] ∧ fixedTimes.exchange.timers.fixed = true
        ∧ fixedTimes.exchange.timers.value ≠ ⟨1, 0⟩)
      ∧ Runs calm 0x31 [0, 0, 0, 1] ∧ (Runs calm 0x31 [0x03, 0xE9, 0, 1] ∧ (word16 0x03 0xE9).toNat = 1001)
      ∧ Runs calm 0x31 [0, 1, 0x03, 0xE9]
      ∧ (Runs calm 0x38 [0, 250] ∧ calm.stallLimit.fixed = false) ∧ Runs calm 0x38 [0, 1] ∧ Runs calm 0x38 [0, 0]
      ∧ (Runs calm 0x38 [0, 251] ∧ (word16 0 251).toNat = 251)
      ∧ (Runs fixedTimes 0x38 [0, 1] ∧ fixedTimes.stallLimit.fixed = true ∧ fixedTimes.stallLimit.value ≠ 1) := by
  constructorm* _ ∧ _ <;> first | exact runs (by decide +kernel) (by decide +kernel) | decide +kernel

/-- Entry 0 OPEN for T's tag 9, SENT. -/
def opened : State := withEntry serving (.opened (someExchange (.link .t 9)) .sent 20)
/-- Entry 0 ORPHAN, SENT. -/
def orphaned : State := withEntry serving (.orphan (someExchange (.link .t 9)) .sent 20)
/-- Entry 0 in QUARANTINE. -/
def quarantined : State := withEntry serving (.quarantine (someExchange (.link .t 9)) .expired 20)

theorem test_meets_CancelAndListExchanges :
    (Runs serving 0x32 [64] ∧ 64 ≤ (64 : Byte).toNat)
      ∧ (Runs opened 0x32 [0] ∧ (0 : RouterTag).val = (0 : Byte).toNat
        ∧ opened.entry 0 = .opened (someExchange (.link .t 9)) .sent 20)
      ∧ (Runs orphaned 0x32 [0] ∧ orphaned.entry 0 = .orphan (someExchange (.link .t 9)) .sent 20)
      ∧ (Runs serving 0x32 [63] ∧ (63 : RouterTag).val = (63 : Byte).toNat ∧ serving.entry 63 = .free)
      ∧ (Runs quarantined 0x32 [0] ∧ quarantined.entry 0 = .quarantine (someExchange (.link .t 9)) .expired 20)
      ∧ (serving.port .t).answerWait = none
      ∧ (Runs serving 0x34 [63] ∧ (63 : Byte).toNat ≤ 63) ∧ (Runs serving 0x34 [64] ∧ 63 < (64 : Byte).toNat) := by
  constructorm* _ ∧ _ <;> first | exact runs (by decide +kernel) (by decide +kernel) | decide +kernel

/-- The host fetch in GATHERING, with entry 0. -/
def gathering : State :=
  { withEntry serving (.opened (someExchange .host) .sent 20) with hostFetch := .gathering 0 4 [] }

/-- A STORE of one byte in B1's lane, from T. -/
def laneStore (b : Byte) : LaneRequest := ⟨.store 0x10000000 [b] false, .link .t⟩

/-- Entry 0 OPEN and QUEUED, its FETCH in B1's lane between two STOREs. -/
def queuedFetch : State :=
  withPort (withEntry serving (.opened (someExchange (.link .t 9)) .queued 20)) .b1
    { upPort with requestLane := [laneStore 1, ⟨.fetch 0x10000000 4 0 false, .link .t⟩, laneStore 2] }

/-- The host's FETCH in B1's lane, QUEUED, with entry 0. -/
def queuedHostFetch : State :=
  { withPort (withEntry serving (.opened (someExchange .host) .queued 20)) .b1
      { upPort with requestLane := [laneStore 1, ⟨.fetch 0x10000000 4 0 false, .m⟩] } with
    hostFetch := .gathering 0 4 [] }

/-- Entry 0 OPEN for T, whose max is 64, with 128 bytes asked. -/
def narrow : State :=
  withPort (withEntry serving (.opened { someExchange (.link .t 9) with len := 128 } .sent 20)) .t
    { upPort with link := .up 64 }

theorem test_meets_UnansweredEnds :
    (serving.isUp .t = true ∧ (serving.port .t).answerLane.length < 8) ∧ serving.isUp .b3 = false
      ∧ gathering.hostFetch = .gathering 0 4 []
      ∧ ((queuedFetch.port (someExchange (.link .t 9)).dest).requestLane
            = [laneStore 1] ++ ⟨.fetch 0x10000000 4 0 false, .link .t⟩ :: [laneStore 2]
        ∧ ∀ r ∈ [laneStore 1], ∀ b k f, r.request ≠ .fetch b k 0 f)
      ∧ (queuedHostFetch.port (someExchange .host).dest).requestLane = [laneStore 1] ++ ⟨.fetch 0x10000000 4 0 false, .m⟩ :: []
      ∧ (opened.entry 0 = .opened (someExchange (.link .t 9)) .sent 20 ∧ (someExchange (.link .t 9)).dest = .b1
        ∧ (0 : RouterTag).val = (⟨0, .good, true, [1, 2, 3, 4, 5], false⟩ : Answer).tag.toNat
        ∧ (someExchange (.link .t 9)).len < (someExchange (.link .t 9)).answered + 5)
      ∧ (narrow.entry 0 = .opened { someExchange (.link .t 9) with len := 128 } .sent 20
        ∧ (narrow.port .t).link = .up 64 ∧ 64 < (List.replicate 65 (0 : Byte)).length ∧ 0 + 65 ≤ 128) := by
  constructorm* _ ∧ _ <;> first | decide +kernel | (intro r h b k f; simp_all [laneStore])

/-- A withdrawn FETCH counts as dropped, the host's too (R77, R94). -/
theorem test_withdrawn_fetch_counts :
    ((queuedFetch.withdraw 0 .b1).port .b1).requestLane = [laneStore 1, laneStore 2]
      ∧ ((queuedFetch.withdraw 0 .b1).port .b1).counters.dropped = 1
      ∧ ((queuedHostFetch.withdraw 0 .b1).port .b1).requestLane = [laneStore 1]
      ∧ ((queuedHostFetch.withdraw 0 .b1).port .b1).counters.dropped = 1
      ∧ ((queuedHostFetch.withdraw 1 .b1).port .b1).counters.dropped = 0 := by
  decide +kernel

/-- Emptied with its lane every frame counts as dropped but a STORE of the host's (R64, R114). -/
theorem test_emptied_frames_count :
    ({ upPort with
        requests := [.store 0 [1] false]
        requestLane := [⟨.store 0 [1] false, .m⟩, ⟨.notice 5 1 0 [] false, .m⟩, ⟨.fetch 0 4 0 false, .m⟩, laneStore 1]
        answerLane := [routerMadeAnswer 1 .noRoute, ⟨⟨9, .good, true, [], false⟩, false⟩] } : PortState).emptied = 5 := by
  decide +kernel

/-- Every entry OPEN for B1, to itself. -/
def tableFullState : State :=
  { serving with
    exchange := { serving.exchange with entries := Vector.replicate 64 (.opened (someExchange (.link .b1 9)) .sent 20) } }

theorem test_meets_AdmissionTest :
    tableFullState.quota (.link .b1) ≤ tableFullState.activeCount (.link .b1)
      ∧ (tableFullState.activeCount (.link .t) < tableFullState.quota (.link .t)
        ∧ ∀ i, tableFullState.entry i ≠ .free)
      ∧ (opened.activeCount .m < opened.quota .m ∧ opened.entry 1 = .free ∧ ∀ j : RouterTag, j < 1 → opened.entry j ≠ .free) := by
  decide +kernel

/-- An OPEN and an ORPHAN entry count toward their origin, one in QUARANTINE toward none; M's quota is 1 (R69, R70). -/
theorem test_active_counts :
    opened.activeCount (.link .t) = 1 ∧ orphaned.activeCount (.link .t) = 1 ∧ quarantined.activeCount (.link .t) = 0
      ∧ opened.activeCount (.link .b1) = 0 ∧ gathering.activeCount .m = 1 ∧ opened.quota .m = 1 ∧ opened.quota (.link .t) = 32 := by
  decide +kernel

theorem test_meets_IssueFetchResults :
    (Runs gathering 0x33 [0x10, 0, 0, 0, 0, 4] ∧ (word16 0 4).toNat = 4 ∧ gathering.hostFetch ≠ .empty)
      ∧ (Runs serving 0x33 [0x30, 0, 0, 0, 0, 4] ∧ serving.hostFetch = .empty ∧ word32 0x30 0 0 0 = 0x30000000
        ∧ (serving.routeRequest .m 0x30000000 4).verdict = .refuse .portDown .noRoute)
      ∧ (Runs serving 0x33 [0x10, 0, 0, 0, 0x10, 0] ∧ (word16 0x10 0).toNat = 4096
        ∧ (serving.routeRequest .m 0x10000000 4096).verdict = .place .b1
        ∧ (∀ q, serving.wantsRequestLane .b1 (.link q) = false) ∧ serving.admission .m = .ok 0)
      ∧ (Runs tableFullState 0x33 [0x10, 0, 0, 0, 0, 4] ∧ (tableFullState.routeRequest .m 0x10000000 4).verdict = .place .b1
        ∧ tableFullState.admission .m = .error .tableFull)
      ∧ (Runs crowded 0x33 [0x10, 0, 0, 0, 0, 4] ∧ (crowded.routeRequest .m 0x10000000 4).verdict = .place .b1
        ∧ 12 ≤ (crowded.port .b1).requestLane.length)
      ∧ (Runs rivalled 0x33 [0x10, 0, 0, 0, 0, 4] ∧ rivalled.wantsRequestLane .b1 (.link .t) = true) := by
  constructorm* _ ∧ _ <;>
    first
    | exact runs (by decide +kernel) (by decide +kernel)
    | decide +kernel
    | (intro b; cases b <;> decide +kernel)

theorem test_meets_EntryRunOuts :
    opened.entry 0 = .opened (someExchange (.link .t 9)) .sent 20 ∧ orphaned.entry 0 = .orphan (someExchange (.link .t 9)) .sent 20
      ∧ quarantined.entry 0 = .quarantine (someExchange (.link .t 9)) .expired 20 ∧ opened.pins.porn = true := by
  decide +kernel

/-- Two streams, stream 0 unmasked and its two marks set, stream 1 masked and awaiting. -/
def streaming : State :=
  { serving with notification := ⟨[⟨false, false⟩, ⟨true, true⟩], false, ⟨true, false, true, true⟩⟩ }

theorem test_meets_UnsolicitedMessagesEnter :
    (streaming.notification.streams[(0 : Fin 4).val]? = some ⟨false, false⟩
        ∧ ((streamCategories streaming.notification.streams.length 0).filter fun c => streaming.notification.marks.get c)
          ≠ []
        ∧ streaming.management.mayEnter (.notify 0) = true)
      ∧ ({ serving with hostFetch := .holding 0 4 [1] .good }.hostFetch = .holding 0 4 [1] .good
        ∧ serving.management.mayEnter .fetchDone = true)
      ∧ (0 ∈ [0, 1, 2, 4] ∧ 4 ∈ [0, 1, 2, 4] ∧ 4 ≤ 4) ∧ streaming.notification.streams[1]? = some ⟨true, true⟩
      ∧ streaming.notification.ready 0 = true ∧ streaming.notification.ready 1 = false
      ∧ streaming.notification.report.streams[1]? = some ⟨[.routing, .exchange], true, true, true⟩ := by
  decide +kernel

/-! ## Chapter 5 -/

/-- A good request frame. -/
def frameOf (r : Request Byte) : List Byte := r.bytes id

/-- Bytes that are a frame of no kind, its check right. -/
def oddFrame : List Byte := [0x7F, 0, 0, 0] ++ bytes32 (crc32 [0x7F, 0, 0, 0])

theorem test_meets_DiscardedFrames :
    ((withPort serving .t { upPort with granted := ⟨0, 0⟩ }).port .t).granted.get .request = 0
      ∧ ((serving.port .t).link = .up 256 ∧ 0 < (serving.port .t).granted.get .request ∧ frameCheckOk oddFrame = true
        ∧ parseFrame .request 256 oddFrame = none)
      ∧ (frameCheckOk [1, 2, 3, 4, 5, 6] = false
        ∧ ((withPort serving .t { upPort with window := List.replicate 6 10 }).port .t).window.length < 7)
      ∧ 7 ≤ ((withPort serving .t { upPort with window := List.replicate 7 10 }).port .t).window.length
      ∧ serving.isUp .b3 = false := by
  decide +kernel

/-- Frames at the bounds of R15: the last that passes and the first that is malformed, kind by kind; a frame too short to be intact. -/
theorem test_meets_DiscardedFrames_fields :
    let store := fun n : Nat => parseFrame .request 64 ([1, 0] ++ nat16 n ++ [0, 0, 0, 0] ++ List.replicate (n + 4) 0)
    let fetch := fun (p n : Nat) => parseFrame .request 64 ([2, 0] ++ nat16 p ++ [0, 0, 0, 0] ++ nat16 n ++ [9] ++ List.replicate (p + 4) 0)
    let answer := fun (f code : Byte) (n : Nat) => parseFrame .answer 64 ([3, f] ++ nat16 n ++ [9, code] ++ List.replicate (n + 4) 0)
    let notice := fun (target : Byte) (n : Nat) => parseFrame .request 64 ([4, 0] ++ nat16 n ++ [target, 0, 0, 0] ++ List.replicate (n + 4) 0)
    ((store 1).isSome ∧ (store 64).isSome ∧ store 0 = none ∧ store 65 = none)
      ∧ ((fetch 0 1).isSome ∧ (fetch 0 4096).isSome ∧ fetch 0 0 = none ∧ fetch 0 4097 = none ∧ fetch 1 1 = none)
      ∧ ((answer 0 0x10 1).isSome ∧ (answer 2 0x10 0).isSome ∧ (answer 2 0x10 64).isSome ∧ (answer 2 0x1D 0).isSome
        ∧ answer 0 0x10 0 = none ∧ answer 2 0x10 65 = none ∧ answer 0 0x11 0 = none ∧ answer 2 0x11 1 = none
        ∧ answer 2 0x0F 0 = none ∧ answer 2 0x1E 0 = none)
      ∧ ((notice 1 32).isSome ∧ notice 0 0 = none ∧ notice 1 33 = none)
      ∧ parseFrame .request 64 ([1, 0] ++ nat16 2 ++ [0, 0, 0, 0] ++ List.replicate 5 0) = none
      ∧ (parseFrame .answer 64 (frameOf (.notice 5 1 0 [] false)) = none ∧ frameCheckOk (frameOf (.notice 5 1 0 [] false)) = true)
      ∧ ([0x7F, 0, 0, 0, 0, 0, 0] : List Byte).length < 8 := by
  decide +kernel

/-- B2's notice waits for B1's request lane. -/
def noticeWaits : State :=
  withPort serving .b2 { upPort with requests := [.notice 32 5 0 [] false], requestWait := some (.lane .b1 5) }

/-- B1's answer for T waits for T's answer lane. -/
def answerWaits : State :=
  withPort opened .b1 { upPort with answers := [⟨0, .good, true, [1], false⟩], answerWait := some 5 }

/-- An answer waits for an entry that is OPEN, in QUARANTINE, ORPHAN, FREE; what becomes of it then. -/
theorem test_meets_CancelAndListExchanges_rematch :
    ((answerWaits.port .b1).answerWait = some 5 ∧ (answerWaits.port .b1).answers = ⟨0, .good, true, [1], false⟩ :: []
        ∧ (0 : RouterTag).val = (0 : Byte).toNat ∧ answerWaits.entry 0 = .opened (someExchange (.link .t 9)) .sent 20)
      ∧ (let t := (withEntry answerWaits (.quarantine (someExchange (.link .t 9)) .expired 20)).rematch .b1
        (t.port .b1).answers = [] ∧ (t.port .b1).owed = ⟨0, 1⟩ ∧ (t.port .b1).counters.dropped = 1
          ∧ t.latched (.origin (.link .b1)) = [.lateAnswer])
      ∧ (let t := (withEntry answerWaits (.orphan (someExchange (.link .t 9)) .sent 20)).rematch .b1
        t.entry 0 = .free ∧ (t.port .b1).answers = [] ∧ t.latched (.origin (.link .b1)) = [])
      ∧ (let t := (withEntry answerWaits .free).rematch .b1
        t.latched (.origin (.link .b1)) = [.strayAnswer] ∧ (t.port .b1).counters.dropped = 1) := by
  decide +kernel

/-- Two heads wait for B1's request lane: T's FETCH and B2's STORE. -/
def contended : State :=
  withPort
    (withPort serving .t { upPort with requests := [.fetch 0x10000000 4 9 false], requestWait := some (.lane .b1 5) }) .b2
    { upPort with requests := [.store 0x10000000 [0] false], requestWait := some (.lane .b1 5) }

/-- What RequestFrameDecided and RefusedFetchIsAnswered ask of a frame that arrives at T. -/
def arrives (s : State) (r : Request Byte) : Bool :=
  (s.port .t).link == .up 256 && decide (0 < (s.port .t).granted.request) && frameCheckOk (frameOf r)
    && parseFrame .request 256 (frameOf r) == some (.request r) && (s.port .t).requests.isEmpty
    && (s.port .t).requestWait.isNone

/-- T drops spoiled frames. -/
def dropping : State :=
  { serving with routes := { serving.routes with dropSpoiled := serving.routes.dropSpoiled.set .t ⟨true, false⟩ } }

/-- T's quota is 1 and in use. -/
def atQuota : State :=
  { opened with exchange := { opened.exchange with quotas := opened.exchange.quotas.set .t ⟨1, false⟩ } }

theorem test_meets_RequestFrameDecided :
    (arrives serving (.store 0x10000000 [1] false) = true
        ∧ serving.decideHead (.link .t) (.store 0x10000000 [1] false : Request Byte) = .place .b1
        ∧ (serving.port .b1).requestLane.length < 12 ∧ ∀ o, o ≠ .link .t → serving.wantsRequestLane .b1 o = false)
      ∧ (arrives serving (.notice 32 5 1 [] true) = true
        ∧ serving.decideHead (.link .t) (.notice 32 5 1 [] true : Request Byte) = .place .b1)
      ∧ (arrives serving (.fetch 0x10000000 4 9 false) = true
        ∧ serving.decideHead (.link .t) (.fetch 0x10000000 4 9 false : Request Byte) = .place .b1
        ∧ serving.admission (.link .t) = .ok 0)
      ∧ (arrives atQuota (.fetch 0x10000000 4 9 false) = true
        ∧ atQuota.decideHead (.link .t) (.fetch 0x10000000 4 9 false : Request Byte) = .place .b1
        ∧ atQuota.admission (.link .t) = .error .quotaRefused ∧ (atQuota.port .t).answerLane.length < 8
        ∧ ∀ q, atQuota.wantsForward q .t = false)
      ∧ (arrives serving (.store 0 [1] false) = true
        ∧ serving.decideHead (.link .t) (.store 0 [1] false : Request Byte) = .refuse .noRoute .noRoute)
      ∧ (arrives dropping (.store 0x10000000 [1] true) = true
        ∧ dropping.decideHead (.link .t) (.store 0x10000000 [1] true : Request Byte) = .drop .spoiled)
      ∧ (arrives serving (.notice 17 5 1 [] false) = true
        ∧ serving.decideHead (.link .t) (.notice 17 5 1 [] false : Request Byte) = .drop .noRoute)
      ∧ (arrives fullInbox (.notice 16 5 1 [] false) = true
        ∧ fullInbox.decideHead (.link .t) (.notice 16 5 1 [] false : Request Byte) = .inbox ∧ 16 ≤ fullInbox.inbox.length)
      ∧ (arrives serving (.notice 16 5 1 [] false) = true
        ∧ serving.decideHead (.link .t) (.notice 16 5 1 [] false : Request Byte) = .inbox ∧ serving.inbox.length < 16)
      ∧ (arrives crowded (.store 0x10000000 [1] false) = true
        ∧ crowded.decideHead (.link .t) (.store 0x10000000 [1] false : Request Byte) = .place .b1
        ∧ 12 ≤ (crowded.port .b1).requestLane.length)
      ∧ (arrives noticeWaits (.store 0x10000000 [1] false) = true
        ∧ noticeWaits.decideHead (.link .t) (.store 0x10000000 [1] false : Request Byte) = .place .b1
        ∧ Origin.link .b2 ≠ .link .t ∧ noticeWaits.wantsRequestLane .b1 (.link .b2) = true)
      ∧ ((rivalled.port .t).link = .up 256 ∧ 0 < (rivalled.port .t).granted.request
        ∧ (rivalled.port .t).requests = .store 0x10000000 [0] false :: []
        ∧ (rivalled.port .t).requestWait = some (.lane .b1 5)
        ∧ parseFrame .request 256 (frameOf (.store 0x10000000 [1] false)) = some (.request (.store 0x10000000 [1] false))
        ∧ frameCheckOk (frameOf (.store 0x10000000 [1] false)) = true) := by
  constructorm* _ ∧ _ <;>
    first
    | decide +kernel
    | (intro b; cases b <;> decide +kernel)
    | (rintro (b | _) h
       · cases b <;> revert h <;> decide +kernel
       · decide +kernel)

/-- T's answer lane holds 8 router-made answers. -/
def fullAnswers : State := withPort serving .t { upPort with answerLane := List.replicate 8 (routerMadeAnswer 1 .noRoute) }

/-- T's FETCH waits for B1's request lane, T's own answer lane is full. -/
def fetchWaitsFull : State :=
  withPort serving .t
    { upPort with
      requests := [.fetch 0x10000000 4 9 false], requestWait := some (.lane .b1 5)
      answerLane := List.replicate 8 (routerMadeAnswer 1 .noRoute) }

theorem test_meets_RefusedFetchIsAnswered :
    (arrives serving (.fetch 0 4 9 true) = true
        ∧ serving.decideHead (.link .t) (.fetch 0 4 9 true : Request Byte) = .refuse .noRoute .noRoute
        ∧ (serving.port .t).answerLane.length < 8 ∧ ∀ q, serving.wantsForward q .t = false)
      ∧ (arrives fullAnswers (.fetch 0 4 9 false) = true
        ∧ fullAnswers.decideHead (.link .t) (.fetch 0 4 9 false : Request Byte) = .refuse .noRoute .noRoute
        ∧ 8 ≤ (fullAnswers.port .t).answerLane.length)
      ∧ ((contended.port .t).requestWait = some (.lane .b1 5) ∧ (contended.port .t).requests = .fetch 0x10000000 4 9 false :: []
        ∧ contended.isUp .t = true ∧ (contended.port .t).answerLane.length < 8
        ∧ ∀ q, q ≠ .t → contended.wantsForward q .t = false)
      ∧ (fetchWaitsFull.isUp .t = true ∧ (fetchWaitsFull.port .t).requestWait = some (.lane .b1 5)
        ∧ (fetchWaitsFull.port .t).requests = .fetch 0x10000000 4 9 false :: []
        ∧ 8 ≤ (fetchWaitsFull.port .t).answerLane.length)
      ∧ (answerWaits.wantsForward .b1 .t = true ∧ forwardedCount (answerWaits.port .t).answerLane < 6) := by
  constructorm* _ ∧ _ <;> first | decide +kernel | (intro b; cases b <;> decide +kernel)

/-- What AnswerFrameMatched asks of an answer that arrives at a port. -/
def answers (s : State) (p : Port) (a : Answer) : Bool :=
  (s.port p).link == .up 256 && decide (0 < (s.port p).granted.answer) && frameCheckOk a.bytes
    && parseFrame .answer 256 a.bytes == some (.answer a) && (s.port p).answers.isEmpty && (s.port p).answerWait.isNone

/-- Entry 0 OPEN for T, T's answer lane full. -/
def answersFull : State := withPort opened .t { upPort with answerLane := List.replicate 8 (routerMadeAnswer 1 .noRoute) }

theorem test_meets_AnswerFrameMatched :
    (answers serving .b1 ⟨64, .good, true, [], false⟩ = true ∧ 64 ≤ (64 : Byte).toNat)
      ∧ (answers serving .b1 ⟨63, .fault, true, [], false⟩ = true ∧ serving.entry 63 = .free)
      ∧ (answers opened .b2 ⟨0, .good, true, [1], true⟩ = true
        ∧ (opened.entry 0).exchange? = some (someExchange (.link .t 9)) ∧ (someExchange (.link .t 9)).dest ≠ .b2)
      ∧ (answers quarantined .b1 ⟨0, .good, true, [1], false⟩ = true
        ∧ quarantined.entry 0 = .quarantine (someExchange (.link .t 9)) .expired 20)
      ∧ (answers orphaned .b1 ⟨0, .good, false, [1], false⟩ = true
        ∧ orphaned.entry 0 = .orphan (someExchange (.link .t 9)) .sent 20)
      ∧ (answers opened .b1 ⟨0, .good, true, [1, 2, 3, 4], false⟩ = true
        ∧ opened.entry 0 = .opened (someExchange (.link .t 9)) .sent 20 ∧ Port.t ≠ .b1
        ∧ (someExchange (.link .t 9)).answered + 4 ≤ (someExchange (.link .t 9)).len ∧ (opened.port .t).link = .up 256
        ∧ (opened.port .t).answerLane.length < 8 ∧ forwardedCount (opened.port .t).answerLane < 6
        ∧ (∀ q, opened.wantsForward q .t = false) ∧ opened.wantsAnswerSlot .t = false)
      ∧ (answers gathering .b1 ⟨0, .good, false, [1], false⟩ = true
        ∧ gathering.entry 0 = .opened (someExchange .host) .sent 20 ∧ gathering.hostFetch = .gathering 0 4 [])
      ∧ (answers queuedFetch .b1 ⟨0, .good, true, [1], false⟩ = true
        ∧ queuedFetch.entry 0 = .opened (someExchange (.link .t 9)) .queued 20)
      ∧ (answers answersFull .b1 ⟨0, .good, true, [1], false⟩ = true ∧ 8 ≤ (answersFull.port .t).answerLane.length
        ∧ answersFull.entry 0 = .opened (someExchange (.link .t 9)) .sent 20 ∧ (answersFull.port .t).link = .up 256)
      ∧ 6 ≤ forwardedCount (List.replicate 6 ⟨⟨1, .good, true, [], false⟩, false⟩)
      ∧ ((answerWaits.port .b1).answers = ⟨0, .good, true, [1], false⟩ :: [] ∧ (answerWaits.port .b1).answerWait = some 5
        ∧ (answerWaits.port .b1).link = .up 256 ∧ 0 < (answerWaits.port .b1).granted.answer) := by
  constructorm* _ ∧ _ <;> first | decide +kernel | (intro b; cases b <;> decide +kernel)

/-- A piece one byte beyond the requested length, and one of a byte more than the origin's effective max payload. -/
theorem test_meets_AnswerFrameMatched_ends :
    (answers opened .b1 ⟨0, .good, true, [1, 2, 3, 4, 5], false⟩ = true
        ∧ opened.entry 0 = .opened (someExchange (.link .t 9)) .sent 20
        ∧ (someExchange (.link .t 9)).len < (someExchange (.link .t 9)).answered + 5)
      ∧ (answers narrow .b1 ⟨0, .good, true, List.replicate 65 0, false⟩ = true
        ∧ narrow.entry 0 = .opened { someExchange (.link .t 9) with len := 128 } .sent 20
        ∧ (narrow.port .t).link = .up 64 ∧ 64 < (List.replicate 65 (0 : Byte)).length ∧ 0 + 65 ≤ 128)
      ∧ (let t := after (.frameArrival .b1 .answer (⟨0, .good, true, [1, 2, 3, 4, 5], false⟩ : Answer).bytes) opened
        t.entry 0 = .quarantine (someExchange (.link .t 9)) .overrun 50 ∧ t.latched (.origin (.link .b1)) = [.overrun]
          ∧ (t.port .t).answerLane = [routerMadeAnswer 9 .overrun] ∧ (t.port .b1).counters.dropped = 1)
      ∧ (let t := after (.frameArrival .b1 .answer (⟨0, .good, true, List.replicate 65 0, false⟩ : Answer).bytes) narrow
        t.entry 0 = .quarantine { someExchange (.link .t 9) with len := 128 } .oversize 50
          ∧ t.latched (.origin (.link .b1)) = [.oversize] ∧ (t.port .t).answerLane = [routerMadeAnswer 9 .oversize]) := by
  decide +kernel

/-- ISSUE STORE in progress: M's head waits for B1's lane. -/
def hostWaits : State :=
  { serving with management :=
    { serving.management with running := some ⟨⟨0x21, msg 0x21 []⟩, .awaitLane (.store 0x10000000 [0] false) .b1 5⟩ } }

/-- T's refused FETCH waits for a slot of T's answer lane. -/
def slotWaits : State :=
  withPort serving .t { upPort with requests := [.fetch 0 4 9 false], requestWait := some (.answerSlot .noRoute 5) }

/-- Two heads wait for B1's lane, T's FETCH first in the cycle and at T's quota. -/
def refusedFirst : State :=
  { contended with
    ports := contended.ports.set .b1 { upPort with pointer := ⟨.m, .link .t⟩ }
    exchange :=
      { contended.exchange with
        entries := contended.exchange.entries.set 0 (.opened (someExchange (.link .t 9)) .sent 20)
        quotas := contended.exchange.quotas.set .t ⟨1, false⟩ } }

theorem test_meets_LaneGrantGoesRound :
    (contended.candidates .b1 .request = .link .b2 :: [.link .t] ∧ (contended.port .b2).requestWait = some (.lane .b1 5)
        ∧ (contended.port .b2).requests = [.store 0x10000000 [0] false])
      ∧ (rivalled.candidates .b1 .request = [.link .t] ∧ contended.admission (.link .t) = .ok 0)
      ∧ (noticeWaits.candidates .b1 .request = [.link .b2]
        ∧ (noticeWaits.port .b2).requests = [.notice 32 5 0 [] false])
      ∧ ((withPort contended .b2 upPort).candidates .b1 .request = [.link .t]
        ∧ ((withPort contended .b2 upPort).port .t).requests = [.fetch 0x10000000 4 9 false]
        ∧ (withPort contended .b2 upPort).admission (.link .t) = .ok 0)
      ∧ (answerWaits.candidates .t .answer = .link .b1 :: [] ∧ Port.b1 ≠ .t ∧ (answerWaits.port .b1).answerWait = some 5
        ∧ (answerWaits.port .b1).answers = ⟨0, .good, true, [1], false⟩ :: []
        ∧ answerWaits.entry 0 = .opened (someExchange (.link .t 9)) .sent 20)
      ∧ ((slotWaits.candidates .t .answer = .link .t :: []) ∧ (slotWaits.port .t).requestWait = some (.answerSlot .noRoute 5)
        ∧ (slotWaits.port .t).requests = .fetch 0 4 9 false :: [])
      ∧ (refusedFirst.candidates .b1 .request = .link .t :: [.link .b2] ∧ refusedFirst.admission (.link .t) = .error .quotaRefused)
      ∧ (hostWaits.candidates .b1 .request = .m :: [] ∧ hostWaits.management.mayEnter .response = true
        ∧ hostWaits.management.running = some ⟨⟨0x21, msg 0x21 []⟩, .awaitLane (.store 0x10000000 [0] false) .b1 5⟩)
      ∧ (noticeWaits.isCandidate .b1 .request (.link .t) = false ∧ contended.isCandidate .b1 .request (.link .b2) = true) := by
  decide +kernel

/-- Two STOREs stand in T's request class and two answers in B1's, no head waiting. -/
def twoStand : State :=
  withPort
    (withPort opened .t { upPort with requests := [.store 0x10000000 [1] false, .store 0x20000000 [2] false] }) .b1
    { upPort with answers := [⟨0, .good, false, [1], false⟩, ⟨0, .good, true, [2], false⟩] }

/-- Each head is taken up in its turn; with the first one waiting, or none there, nothing is done (R41). -/
theorem test_meets_LaneGrantGoesRound_serving :
    ((twoStand.port .t).requestWait = none
        ∧ (twoStand.port .t).requests = .store 0x10000000 [1] false :: [.store 0x20000000 [2] false])
      ∧ ((twoStand.port .b1).answerWait = none
        ∧ (twoStand.port .b1).answers = ⟨0, .good, false, [1], false⟩ :: [⟨0, .good, true, [2], false⟩])
      ∧ ((twoStand.serveRequests .t).port .t).requests = [] ∧ ((twoStand.serveRequests .t).port .b1).requestLane = [laneStore 1]
      ∧ ((twoStand.serveRequests .t).port .b2).requestLane = [⟨.store 0x20000000 [2] false, .link .t⟩]
      ∧ (twoStand.serveAnswers .b1).entry 0 = .free
      ∧ ((twoStand.serveAnswers .b1).port .t).answerLane
          = [⟨⟨9, .good, false, [1], false⟩, false⟩, ⟨⟨9, .good, true, [2], false⟩, false⟩]
      ∧ ((rivalled.port .t).requestWait ≠ none ∧ (answerWaits.port .b1).answerWait ≠ none ∧ (serving.port .t).requests = []
        ∧ (serving.port .t).answers = [])
      ∧ (arrives serving (.store 0x10000000 [1] false) = true ∧ answers opened .b1 ⟨0, .good, true, [1], false⟩ = true) := by
  decide +kernel

/-- The FETCH that admission refuses is answered TABLE FULL, and the room goes to the STORE behind it in the cycle. -/
theorem test_refused_fetch_hands_the_room_on :
    ((after (.laneGrant .b1 .request) refusedFirst).port .b1).requestLane = [⟨.store 0x10000000 [0] false, .link .b2⟩]
      ∧ ((after (.laneGrant .b1 .request) refusedFirst).port .t).answerLane = [routerMadeAnswer 9 .tableFull]
      ∧ ((after (.laneGrant .b1 .request) refusedFirst).port .b1).pointer.request = .link .b2 := by
  decide +kernel

theorem test_meets_TransmitChoosesAnswersFirst :
    ((fullAnswers.port .t).freeToSend = true ∧ (fullAnswers.port .t).answerLane ≠ [] ∧ 0 < (fullAnswers.port .t).partner.answer)
      ∧ ((crowded.port .b1).freeToSend = true ∧ (crowded.port .b1).answerLane = [] ∧ (crowded.port .b1).requestLane ≠ []
        ∧ 0 < (crowded.port .b1).partner.request)
      ∧ ((withPort queuedFetch .b1 { upPort with requestLane := [⟨.fetch 0x10000000 4 0 false, .m⟩] }).entry 0
          = .opened (someExchange (.link .t 9)) .queued 20)
      ∧ orphaned.entry 0 = .orphan (someExchange (.link .t 9)) .sent 20
      ∧ ((withPort serving .b2 { upPort with requestLane := [⟨.notice 48 5 0 [] false, .m⟩] }).port .b2).freeToSend = true
      ∧ ((serving.port .b3).freeToSend = false ∧ { upPort with owed := ⟨0, 1⟩ }.freeToSend = false)
      ∧ ((serving.port .b1).freeToSend = true ∧ (serving.port .b1).answerLane = [] ∧ (serving.port .b1).requestLane = [])
      ∧ { upPort with requestLane := [laneStore 1], partner := ⟨0, 0⟩ }.freeToSend = true := by
  decide +kernel

theorem test_meets_SendingAndCredits :
    ((withPort serving .b1 { upPort with sending := some (.answer ⟨0, .good, true, [], false⟩) }).port .b1).sending
        = some (.answer ⟨0, .good, true, [], false⟩)
      ∧ ((withPort serving .b1 { upPort with granted := ⟨3, 4⟩, owed := ⟨1, 0⟩ }).isUp .b1 = true ∧ 0 < (1 : Nat))
      ∧ ((serving.port .b1).greeting = some ⟨.router, 256, 4, 4⟩
        ∧ (⟨.router, 256, 4, 4⟩ : Greeting).credits .request ≤ (serving.port .b1).partner.get .request)
      ∧ ((withPort serving .b1 { upPort with partner := ⟨3, 4⟩ }).port .b1).partner.get .request
          < (⟨.router, 256, 4, 4⟩ : Greeting).credits .request := by
  decide +kernel

theorem test_meets_StallDropsTheHead :
    ((rivalled.port .t).requestWait = some (.lane .b1 5) ∧ (rivalled.port .t).requests = [.store 0x10000000 [0] false])
      ∧ ((answerWaits.port .b1).answerWait = some 5
        ∧ answerWaits.awaitedMatch .b1
            = some (⟨0, .good, true, [1], false⟩, 0, someExchange (.link .t 9), .sent, 20))
      ∧ (hostWaits.management.running
            = some ⟨⟨0x21, msg 0x21 []⟩, .awaitLane (.store 0x10000000 [0] false) .b1 5⟩
        ∧ hostWaits.management.mayEnter .response = true) := by
  decide +kernel

/-- M's head waits, a message is being gathered, and no place is free for a response. -/
def hostStuck (gap : Nat) (out : List OutMessage) : State :=
  { hostWaits with management := { hostWaits.management with gathered := some ⟨[], gap⟩, outgoing := out } }

/-- The byte gap of a message being gathered runs on as M's stall timer does: the message is abandoned past its end (R184). -/
theorem test_meets_StallDropsTheHead_gathering :
    ((hostStuck 4 []).management.gathered = some ⟨[], 4⟩ ∧ (hostStuck 4 []).management.mayEnter .response = true
        ∧ (hostStuck 4 []).management.running
            = some ⟨⟨0x21, msg 0x21 []⟩, .awaitLane (.store 0x10000000 [0] false) .b1 5⟩)
      ∧ (hostStuck 5 (List.replicate 7 ⟨0x81, 0, .response .done .empty⟩)).management.mayEnter .response = false
      ∧ (after (.stallTimerRunsOut .m) (hostStuck 4 [])).management.gathered = none
      ∧ (after (.stallTimerRunsOut .m) (hostStuck 5 [])).management.gathered = some ⟨[], 0⟩
      ∧ (after (.stallTimerRunsOut .m) (hostStuck 5 [])).management.outgoing
          = [(⟨0x21, msg 0x21 []⟩ : Message).response (.answer .stalled) .empty] := by
  decide +kernel

/-- M's head is granted its lane with no place for the response: the frame is placed, and the command stays in progress (R188). -/
theorem test_meets_LaneGrantGoesRound_noPlace :
    let s := hostStuck 5 (List.replicate 7 ⟨0x81, 0, .response .done .empty⟩)
    s.candidates .b1 .request = [.m] ∧ s.management.mayEnter .response = false
      ∧ ((after (.laneGrant .b1 .request) s).port .b1).requestLane = [⟨.store 0x10000000 [0] false, .m⟩]
      ∧ (after (.laneGrant .b1 .request) s).management.running
          = some ⟨⟨0x21, msg 0x21 []⟩, .answered ((⟨0x21, msg 0x21 []⟩ : Message).response .done (.target .b1))⟩
      ∧ (after (.laneGrant .b1 .request) s).management.outgoing = s.management.outgoing := by
  decide +kernel

/-- Each countdown runs in some state, and stops at 0. -/
theorem test_meets_StepOnEmptyQueueIsAMillisecond_countdowns :
    (serving.entry 0 = .free ∧ opened.entry 0 = .opened (someExchange (.link .t 9)) .sent 20
        ∧ orphaned.entry 0 = .orphan (someExchange (.link .t 9)) .sent 20
        ∧ quarantined.entry 0 = .quarantine (someExchange (.link .t 9)) .expired 20
        ∧ (opened.elapse 1).entry 0 = .opened (someExchange (.link .t 9)) .sent 19
        ∧ (orphaned.elapse 20).entry 0 = .orphan (someExchange (.link .t 9)) .sent 0
        ∧ (quarantined.elapse 21).entry 0 = .quarantine (someExchange (.link .t 9)) .expired 0)
      ∧ (serving.management.running = none ∧ serving.management.gathered = none
        ∧ (hostStuck 5 []).management.gathered = some ⟨[], 5⟩
        ∧ ((hostStuck 5 []).elapse 5).management.gathered = some ⟨[], 0⟩ ∧ ((hostStuck 5 []).elapse 6).management.gathered = none
        ∧ ((hostStuck 5 []).elapse 6).management.running
            = some ⟨⟨0x21, msg 0x21 []⟩, .awaitLane (.store 0x10000000 [0] false) .b1 0⟩)
      ∧ ((serving.port .t).requestWait = none ∧ (serving.port .t).answerWait = none
        ∧ ((rivalled.elapse 1).port .t).requestWait = some (.lane .b1 4)
        ∧ ((slotWaits.elapse 6).port .t).requestWait = some (.answerSlot .noRoute 0)
        ∧ ((answerWaits.elapse 5).port .b1).answerWait = some 0)
      ∧ ((State.reset.port .b1).link = .down (some 1) ∧ ((State.reset.elapse 2).port .b1).link = .down (some 0)
        ∧ (((withPort serving .b1 { PortState.reset with link := .training ⟨2, true, none, false⟩ }).elapse 1).port .b1).link
            = .training ⟨1, true, none, false⟩
        ∧ (((withPort serving .b1 { upPort with window := [3, 10] }).elapse 4).port .b1).window = [0, 6]
        ∧ (serving.elapse 9).port .b1 = upPort) := by
  decide +kernel

/-! ## Chapter 6 -/

/-- `serving` with B1's link in a state. -/
def linked (l : Link) : State := withPort serving .b1 { PortState.reset with link := l, offered := some 256 }

theorem test_meets_SetLinkWritesTheSettings :
    (Runs (linked .disabled) 0x40 [1, 1, 0, 64] ∧ ((linked .disabled).port .b1).link = .disabled
        ∧ (word16 0 64).toNat ∈ [64, 128, 256, 512, 1024] ∧ ((linked .disabled).port .b1).settings.fixed = false)
      ∧ (Runs serving 0x40 [1, 0, 4, 0] ∧ serving.isUp .b1 = true ∧ (word16 4 0).toNat ∈ [64, 128, 256, 512, 1024])
      ∧ (Runs (linked .held) 0x40 [1, 0, 1, 0] ∧ (linked .held).isUp .b1 = false
        ∧ ((linked .held).port .b1).link ≠ .disabled)
      ∧ Runs serving 0x40 [1, 1, 1, 0] ∧ Runs (linked .disabled) 0x40 [1, 0, 1, 0]
      ∧ (Runs serving 0x40 [1, 1, 0, 65] ∧ (word16 0 65).toNat ∉ [64, 128, 256, 512, 1024])
      ∧ (Runs (withPort serving .b1 { upPort with settings := ⟨⟨true, 256⟩, true⟩ }) 0x40 [1, 1, 0, 64]
        ∧ (⟨true, 256⟩ : LinkSettings) ≠ ⟨true, 64⟩)
      ∧ (Runs serving 0x40 [7, 1, 1, 0] ∧ Runs serving 0x40 [1, 2, 1, 0]) := by
  constructorm* _ ∧ _ <;> first | exact runs (by decide +kernel) (by decide +kernel) | decide +kernel

theorem test_meets_HoldBayByLinkState :
    (Runs serving 0x41 [1] ∧ Bay.ofByte 1 = some .b1 ∧ serving.isUp Bay.b1.port = true)
      ∧ (Runs serving 0x41 [6] ∧ (serving.port Bay.b6.port).link.name ∈ [.down, .training, .failed])
      ∧ (Runs (linked .held) 0x41 [1] ∧ ((linked .held).port Bay.b1.port).link = .held)
      ∧ (Runs (linked .disabled) 0x41 [1] ∧ ((linked .disabled).port Bay.b1.port).link = .disabled)
      ∧ (Runs serving 0x41 [0] ∧ Runs serving 0x41 [7]) := by
  constructorm* _ ∧ _ <;> first | exact runs (by decide +kernel) (by decide +kernel) | decide +kernel

theorem test_meets_ReleaseBayAndRetrain :
    (Runs serving 0x42 [0] ∧ Bay.ofByte 0 = none) ∧ (Runs serving 0x42 [7] ∧ Bay.ofByte 7 = none)
      ∧ (Runs (linked .held) 0x42 [1] ∧ ((linked .held).port Bay.b1.port).link = .held)
      ∧ (Runs serving 0x42 [6] ∧ (serving.port Bay.b6.port).link ≠ .held)
      ∧ (Runs serving 0x43 [7] ∧ Port.ofByte 7 = none)
      ∧ (Runs (linked .failed) 0x43 [1] ∧ ((linked .failed).port .b1).link = .failed)
      ∧ (Runs serving 0x43 [0] ∧ Port.ofByte 0 = some .t ∧ (serving.port .t).link ≠ .failed) := by
  constructorm* _ ∧ _ <;> first | exact runs (by decide +kernel) (by decide +kernel) | decide +kernel

theorem test_meets_ReadLanesAndReadLinkAnswer :
    (Runs serving 0x39 [6] ∧ Port.ofByte 6 = some .b6) ∧ (Runs serving 0x39 [7] ∧ Port.ofByte 7 = none)
      ∧ (Runs serving 0x44 [0] ∧ Port.ofByte 0 = some .t) ∧ Runs serving 0x44 [7]
      ∧ ((rivalled.port .t).requestWait = some (.lane .b1 5) ∧ (slotWaits.port .t).requestWait = some (.answerSlot .noRoute 5)
        ∧ (answerWaits.port .b1).answerWait = some 5 ∧ upPort.link = .up 256 ∧ PortState.reset.link.isUp = false) := by
  constructorm* _ ∧ _ <;> first | exact runs (by decide +kernel) (by decide +kernel) | decide +kernel

/-- A training attempt with this greeting kept. -/
def attempt (kept : Option Greeting) (accepted : Bool) : Attempt := ⟨2, true, kept, accepted⟩

theorem test_meets_TrainingBegins :
    ((State.reset.port .b1).link = .down (some 1) ∧ State.reset.pins.signal.get .b1 = false)
      ∧ ((after (.partnerSignalPresent .b1) State.reset).pins.signal.get .b1 = true
        ∧ ((after (.partnerSignalPresent .b1) State.reset).port .b1).link = .down (some 1))
      ∧ ((linked (.down none)).port .b1).link = .down none
      ∧ ((linked (.training (attempt none false))).port .b1).link = .training (attempt none false)
      ∧ ((linked (.training (attempt none false))).port .b1).offered = some 256
      ∧ (upPort.link = .up 256 ∧ upPort.sending = none ∧ PortState.reset.link = .down (some 1)) := by
  decide +kernel

/-- A greeting's bytes with a value out of range, the check right. -/
def badGreeting : List Byte := greetingBytes 300

theorem test_meets_GreetingAndAcceptBringTheLinkUp :
    checkGreeting (greetingBytes 128) = .good ⟨.router, 128, 4, 4⟩
      ∧ ((linked (.training (attempt none true))).port .b1).link = .training (attempt none true)
      ∧ ((linked (.training (attempt none false))).port .b1).offered = some 256
      ∧ (attempt (some ⟨.router, 128, 4, 4⟩) false).kept = some ⟨.router, 128, 4, 4⟩ ∧ (attempt none false).greeted = true
      ∧ checkGreeting badGreeting = .bad ∧ checkGreeting badGreeting ≠ .damaged
      ∧ ((linked (.training (attempt none false))).port .b1).attempts < 2
      ∧ checkGreeting [] = .damaged
      ∧ 2 ≤ ((withPort serving .b1
          { PortState.reset with link := .training (attempt none false), offered := some 256, attempts := 2 }).port
            .b1).attempts := by
  decide +kernel

/-- Greetings at the bounds of R125. -/
theorem test_meets_GreetingAndAcceptBringTheLinkUp_values :
    let greeting := fun values : List Byte => checkGreeting (values ++ bytes32 (crc32 values))
    greeting [1, 0, 64, 1, 16] = .good ⟨.module, 64, 1, 16⟩ ∧ greeting [3, 4, 0, 16, 1] = .good ⟨.controller, 1024, 16, 1⟩
      ∧ greeting [2, 0, 128, 4, 4] = .good ⟨.router, 128, 4, 4⟩
      ∧ greeting [0, 0, 64, 1, 16] = .bad ∧ greeting [4, 0, 64, 1, 16] = .bad ∧ greeting [1, 8, 0, 1, 16] = .bad
      ∧ greeting [1, 0, 64, 0, 16] = .bad ∧ greeting [1, 0, 64, 17, 16] = .bad ∧ greeting [1, 0, 64, 1, 0] = .bad
      ∧ greeting [1, 0, 64, 1, 17] = .bad ∧ crc32 [1, 0, 64, 1, 16] ≠ word32 0 0 0 0 ∧ ([] : List Byte).length ≠ 9 := by
  decide +kernel

theorem test_meets_FailuresLossesAndWindowExpiry :
    (((linked (.training (attempt none false))).port .b1).link = .training (attempt none false)
        ∧ ((linked (.training (attempt none false))).port .b1).attempts < 2)
      ∧ 2 ≤ ((withPort serving .b1
          { PortState.reset with link := .training (attempt none false), attempts := 2 }).port .b1).attempts
      ∧ serving.isUp .b1 = true ∧ ((linked .failed).port .b1).link.name ∈ [.disabled, .held, .failed, .down]
      ∧ checkGreeting (greetingBytes 128) ≠ .damaged
      ∧ (checkGreeting [] = .damaged
        ∧ ((withPort serving .b1 { upPort with window := List.replicate 6 10 }).port .b1).window.length < 7
        ∧ 7 ≤ ((withPort serving .b1 { upPort with window := List.replicate 7 10 }).port .b1).window.length
        ∧ ((after (.greeting .b1 []) (withPort serving .b1 { upPort with window := List.replicate 6 10 })).port .b1).link = .up 256
        ∧ ((after (.greeting .b1 []) (withPort serving .b1 { upPort with window := List.replicate 7 10 })).port .b1).downCause
            = some .budget)
      ∧ ((withPort serving .b1 { upPort with window := [3, 10] }).port .b1).window = [3, 10] := by
  decide +kernel

/-- B1 is the destination of entries 0 (T's), 1 (ORPHAN), 2 (the host's) and 3 (B1's own), and the origin of entry 4; T's answer lane
has one slot free; B1's request lane holds a STORE of T's and one of M's; T's FETCH and B2's STORE wait for it, M's STORE too; B2's
answer waits for entry 4. -/
def beforeLoss : State :=
  let entry := fun (i : RouterTag) (e : Entry) (s : State) => s.setEntry i e
  let s :=
    withPort
      (withPort
        (withPort hostWaits .t
          { upPort with
            requests := [.fetch 0x10000000 4 7 false], requestWait := some (.lane .b1 5)
            answerLane := List.replicate 6 (routerMadeAnswer 1 .noRoute) })
        .b2
        { upPort with
          requests := [.store 0x10000000 [0] false], requestWait := some (.lane .b1 5)
          answers := [⟨4, .good, true, [], false⟩], answerWait := some 3 })
      .b1 { upPort with requestLane := [laneStore 1, ⟨.store 0x10000000 [2] false, .m⟩], requests := [.store 0 [1] false] }
  { (s |> entry 0 (.opened (someExchange (.link .t 9)) .sent 20) |> entry 1 (.orphan (someExchange (.link .b2 8)) .sent 20)
      |> entry 2 (.opened (someExchange .host) .sent 20) |> entry 3 (.opened (someExchange (.link .b1 6)) .sent 20)
      |> entry 4 (.opened { someExchange (.link .b1 5) with dest := .b2 } .sent 20)) with
    hostFetch := .gathering 2 4 [1] }

/-- Entries end and are orphaned, origins are told in index order as far as slots are free, heads and M are refused PORT DOWN, a waiting
answer of an orphan frees its entry; M's STORE in the emptied lane counts in no counter (R64). -/
theorem test_a_link_leaves_up :
    let t := after (.partnerSignalLoss .b1) beforeLoss
    t.entry 0 = .quarantine (someExchange (.link .t 9)) .linkLost 50 ∧ t.entry 1 = .quarantine (someExchange (.link .b2 8)) .linkLost 50
      ∧ t.entry 2 = .quarantine (someExchange .host) .linkLost 50 ∧ t.entry 3 = .quarantine (someExchange (.link .b1 6)) .linkLost 50
      ∧ t.entry 4 = .free ∧ t.hostFetch = .holding 2 4 [1] .linkLost
      ∧ (t.port .t).answerLane
          = List.replicate 6 (routerMadeAnswer 1 .noRoute) ++ [routerMadeAnswer 9 .linkLost, routerMadeAnswer 7 .portDown]
      ∧ (t.port .t).requests = [] ∧ (t.port .b2).requests = [] ∧ (t.port .b2).answers = [] ∧ (t.port .b2).counters.dropped = 2
      ∧ (t.port .b1).counters.dropped = 2 ∧ (t.port .b1).answerLane = [] ∧ t.management.running = none
      ∧ t.management.outgoing = [(⟨0x21, msg 0x21 []⟩ : Message).response (.answer .portDown) .empty]
      ∧ t.latched (.origin .m) = [.noRoute] := by
  decide +kernel

/-- The stages of leaving UP: each clause's premises hold somewhere. -/
theorem test_meets_LeavingUpEmptiesThePort :
    ((Link.down (some 1)).isUp = false ∧ Link.held.isUp = false ∧ 0 < beforeLoss.exchange.timers.value.quarantine)
      ∧ ((someExchange (.link .t 9)).dest = .b1 ∧ beforeLoss.entry 0 = .opened (someExchange (.link .t 9)) .sent 20
        ∧ beforeLoss.entry 1 = .orphan (someExchange (.link .b2 8)) .sent 20 ∧ beforeLoss.entry 5 = .free
        ∧ beforeLoss.entry 2 = .opened (someExchange .host) .sent 20 ∧ beforeLoss.hostFetch = .gathering 2 4 [1]
        ∧ (∀ i x issue d, serving.entry i = .opened x issue d → x.dest = .b1 → x.origin ≠ .host))
      ∧ ((beforeLoss.endLinkLost .b1).entry 1 = .quarantine (someExchange (.link .b2 8)) .linkLost 50
        ∧ ((beforeLoss.endLinkLost .b1).port .t).answerLane
            = (beforeLoss.port .t).answerLane ++ [⟨⟨9, .linkLost, true, [], false⟩, true⟩]
        ∧ ((beforeLoss.endLinkLost .b1).port .b1).answerLane = [⟨⟨6, .linkLost, true, [], false⟩, true⟩]
        ∧ (beforeLoss.endLinkLost .b1).hostFetch = .holding 2 4 [1] .linkLost)
      ∧ ((⟨.link .b1 5, .b2, 0x10000000, 4, 0, 0⟩ : Exchange).origin.origin = .link .b1
        ∧ (beforeLoss.orphan .b1).entry 4 = .orphan ⟨.link .b1 5, .b2, 0x10000000, 4, 0, 0⟩ .sent 20
        ∧ (beforeLoss.orphan .b1).entry 0 = beforeLoss.entry 0)
      ∧ (serving.isUp .b3 = false ∧ ∀ o, serving.wantsRequestLane .b3 o = false) := by
  constructorm* _ ∧ _ <;>
    first
    | decide +kernel
    | (rintro i x issue d h
       have none : ∀ i, serving.entry i = .free := by decide +kernel
       exact absurd ((none i).symm.trans h) (by simp))
    | (rintro (b | _)
       · cases b <;> decide +kernel
       · decide +kernel)

/-- `s` with B1 DOWN. -/
def b1Down (s : State) : State := withPort s .b1 PortState.reset

/-- Heads that wait for the request lane of a link that has left UP: a STORE; a FETCH with a slot, without one, and with a rival for it;
M's. -/
theorem test_meets_LeavingUpEmptiesThePort_heads :
    ((b1Down rivalled).isUp .b1 = false ∧ ((b1Down rivalled).port .t).requestWait = some (.lane .b1 5)
        ∧ ((b1Down rivalled).port .t).requests = .store 0x10000000 [0] false :: [] ∧ (b1Down rivalled).isUp .t = true
        ∧ ∀ o, o ≠ .link .t → (b1Down rivalled).wantsRequestLane .b1 o = false)
      ∧ (((b1Down contended).port .t).requests = .fetch 0x10000000 4 9 false :: [] ∧ ((b1Down contended).port .t).answerLane.length < 8
        ∧ ∀ o, o ≠ .t → (b1Down contended).wantsForward o .t = false)
      ∧ (8 ≤ ((b1Down fetchWaitsFull).port .t).answerLane.length
        ∧ ((b1Down fetchWaitsFull).redecideFor .b1).port .t
            = { (b1Down fetchWaitsFull).port .t with requestWait := some (.answerSlot .portDown 5) })
      ∧ ((b1Down hostWaits).management.running
            = some ⟨⟨0x21, msg 0x21 []⟩, .awaitLane (.store 0x10000000 [0] false) .b1 5⟩
        ∧ (∀ q, (b1Down hostWaits).wantsRequestLane .b1 (.link q) = false)
        ∧ (b1Down hostWaits).management.mayEnter .response = true
        ∧ (b1Down (hostStuck 5 (List.replicate 7 ⟨0x81, 0, .response .done .empty⟩))).management.mayEnter .response = false)
      ∧ (let s := withPort answerWaits .t
            { upPort with
              requests := [.fetch 0x30000000 4 9 false], requestWait := some (.lane .b3 5) }
        Port.b1 ≠ .t ∧ s.wantsForward .b1 .t = true ∧ forwardedCount (s.port .t).answerLane < 6 ∧ s.isUp .b3 = false
          ∧ ((s.redecideFor .b3).port .t).requestWait = some (.answerSlot .portDown 5)) := by
  constructorm* _ ∧ _ <;>
    first
    | decide +kernel
    | (intro o; cases o <;> decide +kernel)
    | (rintro (b | _)
       · cases b <;> decide +kernel
       · decide +kernel)

/-- T UP with a module. -/
def moduleTrunk : State := withPort serving .t { upPort with greeting := some ⟨.module, 256, 4, 4⟩ }

theorem test_meets_ResetSymbolByPort :
    serving.isUp .b3 = false ∧ (serving.isUp .b1 = true ∧ Port.b1 ≠ .t)
      ∧ (moduleTrunk.isUp .t = true ∧ (moduleTrunk.port .t).greeting = some ⟨.module, 256, 4, 4⟩)
      ∧ (serving.isUp .t = true ∧ (serving.port .t).greeting = some ⟨.router, 256, 4, 4⟩ ∧ PartnerKind.router ≠ .module
        ∧ serving.hostHead = none)
      ∧ (hostWaits.isUp .t = true ∧ hostWaits.management.mayEnter .response = true)
      ∧ { hostWaits.management with
            outgoing := List.replicate 7 ⟨0x81, 0, .response .done .empty⟩ }.mayEnter .response = false
      ∧ (gathering.hostFetch = .gathering 0 4 [] ∧ serving.hostFetch = .empty ∧ serving.inStart = false
        ∧ State.reset.inStart = true) := by
  decide +kernel

/-! ## Chapters 7 and 8 -/

theorem test_meets_DetectionLatchesReportsAndCaptures :
    Condition.noRoute.category = .routing ∧ Condition.expired.category = .exchange ∧ Condition.malformed.category = .port
      ∧ Condition.inboxArrival.category = .inbox
      ∧ (serving.latch .router .inboxArrival).latched .router = [.inboxArrival]
      ∧ ((serving.latch (.origin (.link .b1)) .linkUp).latch .router .loadFailed).latched .router = [.loadFailed] := by
  decide +kernel

/-- ROUTING enabled and fixed. -/
def fixedReporting : State :=
  { serving with conditions :=
    { serving.conditions with
      reporting := serving.conditions.reporting.set .routing ⟨⟨true, []⟩, true⟩
      sets := ⟨serving.conditions.sets.ports, [], [.inboxArrival]⟩ } }

theorem test_meets_ConditionCommandResults :
    (Runs serving 0x50 [1, 1, 2, 5, 12] ∧ Category.ofByte 1 = some .routing ∧ flagOfByte 1 = some true
        ∧ [5, 12].mapM Condition.ofByte = some [.noRoute, .spoiled]
        ∧ (∀ c ∈ [Condition.noRoute, .spoiled], c.category = .routing)
        ∧ (serving.conditions.reporting.get .routing).fixed = false)
      ∧ (Runs fixedReporting 0x50 [1, 0, 0] ∧ ([] : List Byte).mapM Condition.ofByte = some []
        ∧ (fixedReporting.conditions.reporting.get .routing).fixed = true
        ∧ (fixedReporting.conditions.reporting.get .routing).value ≠ ⟨false, []⟩)
      ∧ (Runs serving 0x51 [8] ∧ SetId.ofByte 8 = some .router) ∧ (Runs serving 0x51 [9] ∧ 8 < (9 : Byte).toNat)
      ∧ (Runs fixedReporting 0x52 [8, 0xFF] ∧ SetId.ofByte 0 = some (.origin (.link .t)))
      ∧ (Runs fixedReporting 0x52 [8, 0])
      ∧ (Runs fixedReporting 0x52 [8, 1, 19] ∧ [19].mapM Condition.ofByte = some [.inboxArrival]
        ∧ ∀ c ∈ [Condition.inboxArrival], SetId.router.mayHold c = true)
      ∧ (Runs fixedReporting 0x52 [8, 1, 5] ∧ SetId.router.mayHold .noRoute = false)
      ∧ (Runs serving 0x50 [4, 1, 0] ∧ Runs serving 0x50 [1, 2, 0] ∧ Runs serving 0x50 [1, 1, 1, 4] ∧ Runs serving 0x50 [1, 1, 1, 21]
        ∧ Condition.ofByte 4 = some .loadFailed ∧ Condition.loadFailed.category ≠ .routing ∧ Condition.ofByte 21 = none)
      ∧ (Runs serving 0x52 [9, 0xFF] ∧ 8 < (9 : Byte).toNat) := by
  constructorm* _ ∧ _ <;> first | exact runs (by decide +kernel) (by decide +kernel) | decide +kernel

theorem test_meets_CapturesAndCounters :
    Runs serving 0x53 [1] ∧ Runs serving 0x53 [2] ∧ (Runs serving 0x53 [0] ∧ (0 : Byte) ≠ 1 ∧ (0 : Byte) ≠ 2)
      ∧ Runs serving 0x54 [1] ∧ Runs serving 0x54 [2] ∧ Runs serving 0x54 [3]
      ∧ (serving.conditions.routingCapture = none ∧ serving.conditions.exchangeCapture = none)
      ∧ (Runs serving 0x55 [6, 1] ∧ flagOfByte 1 = some true ∧ Port.ofByte 6 = some .b6) ∧ Runs serving 0x55 [8, 0]
      ∧ Runs serving 0x55 [7, 0] ∧ (Runs serving 0x55 [9, 0] ∧ 8 < (9 : Byte).toNat) ∧ Runs serving 0x55 [0, 2] := by
  constructorm* _ ∧ _ <;> first | exact runs (by decide +kernel) (by decide +kernel) | decide +kernel

theorem test_meets_SetStreamsRegroups :
    (Runs streaming 0x60 [0, 9] ∧ 8 < (word16 0 9).toNat)
      ∧ (Runs { streaming with notification := { streaming.notification with countFixed := true } } 0x60 [0, 8]
        ∧ (word16 0 8).toNat ≤ 8 ∧ 4 ≠ streaming.notification.streams.length)
      ∧ (Runs streaming 0x60 [0, 0] ∧ streaming.notification.countFixed = false) ∧ Runs streaming 0x60 [0, 3] := by
  constructorm* _ ∧ _ <;> first | exact runs (by decide +kernel) (by decide +kernel) | decide +kernel

/-- Stream 1 awaits with a mark set, and one place is left in the outgoing queue. -/
def oneLeft : State :=
  { streaming with
    notification := { streaming.notification with streams := [⟨false, false⟩, ⟨false, true⟩] }
    management := { streaming.management with outgoing := List.replicate 6 ⟨0x81, 0, .response .done .empty⟩ } }

/-- The NOTIFY takes the last place, the response waits, and enters when a place frees (R161, R162). -/
theorem test_notify_takes_the_last_place :
    let t := after (.ackNotify (msg 0x61 [1]) true) (asked oneLeft 0x61 [1])
    t.management.outgoing.length = 7 ∧ t.management.running.isSome ∧ t.management.waiting = [[.response, .notify 0]]
      ∧ (after .responseEntersQueue (after .messageSent t)).management.running = none
      ∧ (after .responseEntersQueue (after .messageSent t)).management.last.isSome := by
  decide +kernel

theorem test_meets_StreamCommandsWriteOneStream :
    (Runs streaming 0x61 [0] ∧ streaming.notification.streams[(0 : Byte).toNat]? = some ⟨false, false⟩)
      ∧ (Runs streaming 0x61 [1] ∧ streaming.notification.streams[(1 : Byte).toNat]? = some ⟨true, true⟩)
      ∧ (Runs streaming 0x62 [1] ∧ Runs streaming 0x63 [1])
      ∧ ({ streaming.notification with streams := [⟨false, false⟩, ⟨false, false⟩] }.ready 1 = true
        ∧ streaming.management.outgoing.length + 2 < 8 ∧ streaming.management.mayEnter (.notify 1) = true)
      ∧ { streaming.notification with streams := [⟨false, false⟩, ⟨true, false⟩] }.ready 1 = false
      ∧ (Runs oneLeft 0x61 [1] ∧ oneLeft.management.outgoing.length = 6 ∧ oneLeft.management.mayEnter (.notify 1) = true
        ∧ oneLeft.notification.streams[(1 : Byte).toNat]? = some ⟨false, true⟩)
      ∧ (Runs streaming 0x61 [4] ∧ Runs streaming 0x62 [4] ∧ Runs streaming 0x63 [4] ∧ 3 < (4 : Byte).toNat)
      ∧ (Runs streaming 0x61 [2] ∧ Runs streaming 0x62 [3] ∧ Runs streaming 0x63 [3] ∧ (3 : Byte).toNat ≤ 3
        ∧ streaming.notification.streams.length ≤ (2 : Byte).toNat) := by
  constructorm* _ ∧ _ <;> first | exact runs (by decide +kernel) (by decide +kernel) | decide +kernel

/-! ## Chapters 9 and 10 -/

/-- A load image with this many records in this area (R199). -/
def imageOf (count : Nat) (area : List Byte) : List Byte :=
  bytes16 Config.imageMarker ++ nat16 count ++ nat16 area.length ++ bytes16 (crc16 area) ++ area

/-- A load image with no record. -/
def emptyImage : List Byte := imageOf 0 []
/-- A load image with the record SET STATION 16, fixed. -/
def stationImage : List Byte := imageOf 1 [0x01, 0, 2, 0x10, 0x10]

theorem test_meets_LoadImageReadByTest :
    State.reset.loader.state = .start .reading ∧ parseImage emptyImage = some [] ∧ parseImage [1, 2, 3] = none
      ∧ parseImage stationImage = some [⟨1, [0x10, 0x10]⟩] := by
  decide +kernel

/-- Every failed test of an image: another marker, a count above 64, a total above 4096, bytes missing, a wrong check, an area its
records do not fill, or overrun. -/
theorem test_meets_LoadImageReadByTest_failures :
    (∀ r ∈ [(⟨1, [0x10, 0x10]⟩ : LoadRecord)], 1 ≤ r.body.length) ∧ (∀ r ∈ ([] : List LoadRecord), 1 ≤ r.body.length)
      ∧ parseImage (stationImage ++ [1, 2, 3]) = some [⟨1, [0x10, 0x10]⟩] ∧ parseImage (stationImage.take 7) = none
      ∧ (parseImage (0x5A :: 0x7F :: stationImage.drop 2) = none ∧ word16 0x5A 0x7F ≠ 0x5A7E)
      ∧ (parseImage ([0x5A, 0x7E, 0, 65] ++ stationImage.drop 4) = none ∧ 64 < (word16 0 65).toNat)
      ∧ (parseImage ([0x5A, 0x7E, 0, 1, 0x10, 1] ++ stationImage.drop 6) = none ∧ 4096 < (word16 0x10 1).toNat)
      ∧ parseImage (stationImage.take 12) = none ∧ parseImage (stationImage.take 12 ++ [0x11]) = none
      ∧ (parseImage (imageOf 0 [7]) = none
        ∧ ∀ rs : List LoadRecord, rs.length = 0 → (rs.flatMap fun r => r.flag :: nat16 r.body.length ++ r.body) ≠ [7])
      ∧ parseImage (imageOf 1 [1, 0, 3, 0x10, 0x10]) = none ∧ parseImage (imageOf 1 [1, 0, 0]) = none := by
  constructorm* _ ∧ _ <;>
    first
    | decide +kernel
    | (intro rs h; simp [List.eq_nil_of_length_eq_zero h])

/-- START, replaying records. -/
def replaying (rs : List LoadRecord) : State :=
  { State.reset with loader := { State.reset.loader with state := .start (.replaying 1 rs) } }

theorem test_meets_LoadRecords :
    ((replaying [⟨1, [0x10, 0x10]⟩]).loader.state = .start (.replaying 1 ([⟨1, [0x10, 0x10]⟩]))
        ∧ (runRecord ⟨1, [0x10, 0x10]⟩ (replaying [⟨1, [0x10, 0x10]⟩])).status = .done)
      ∧ ((replaying [⟨0, [0x01]⟩, ⟨0, [0x72]⟩]).loader.state = .start (.replaying 1 (⟨0, [0x01]⟩ :: [⟨0, [0x72]⟩]))
        ∧ (runRecord ⟨0, [0x01]⟩ (replaying [⟨0, [0x01]⟩, ⟨0, [0x72]⟩])).status ≠ .done)
      ∧ (((0x72 : Byte), 0) ∈ [((0x72 : Byte), 0)] ∧ ([0] : List Byte).length ≠ 0 ∧ ([0, 0, 1] : List Byte) = 0 :: 0 :: 1 :: []
        ∧ ([] : List Byte).length ≠ (1 : Byte).toNat)
      ∧ ({ calm.loader with pendingOpen := true }.pendingOpen = true ∧ calm.routes.ownStation.fixed = false
        ∧ ∀ b, (calm.routes.bays.get b).range.value.holds 17 = false)
      ∧ ((2 : Byte) ≠ 0 ∧ (2 : Byte) ≠ 1) ∧ isCommandKind 0x03 = false
      ∧ (isCommandKind 0x73 = true
        ∧ (0x73 : Byte) ∉ [0x10, 0x11, 0x12, 0x13, 0x14, 0x15, 0x30, 0x31, 0x38, 0x40, 0x50, 0x60, 0x72])
      ∧ (State.reset.routes.ownStation.fixed = false ∧ (State.reset.routes.bays.get .b1).range.value.holds 16 = false)
      ∧ (calm.routes.ownStation.value ≠ 0 ∧ calm.loader.pendingOpen = false) ∧ State.reset.routes.ownStation.value = 0 := by
  constructorm* _ ∧ _ <;> first | decide +kernel | (intro b; cases b <;> decide +kernel)

/-- A record with the fix attribute of every kind that has one is taken, as without it. -/
theorem test_meets_LoadRecords_fix :
    let s := { replaying [] with routes := calm.routes }
    ∀ body ∈
        [[0x11, 4, 80, 90], [0x12, 4, 0, 0, 0x50, 0, 0, 0, 0x50, 0x0F, 0xFF], [0x13, 0, 0, 0, 0, 0, 0, 0, 0xFF, 1, 1],
          [0x14, 1, 0, 1], [0x15, 0, 1], [0x30, 6, 0, 64], [0x31, 0, 1, 0, 0], [0x38, 0, 5], [0x40, 1, 0, 1, 0],
          [0x50, 1, 1, 1, 5], [0x60, 0, 3], [0x72]],
      (runRecord ⟨1, body⟩ s).status = (runRecord ⟨0, body⟩ s).status
        ∧ (runRecord ⟨1, body⟩ s).status = .done := by
  decide +kernel

/-- A host command and the record of its kind, the router CONFIGURING or FORWARDING, the pending-open mark alike; SET LINK's records on a
DISABLED, an UP and a HELD port, each at a value in range and out of it, and on fixed settings; SET STATION 0 with the mark set. -/
theorem test_meets_LoadRecords_asTheHost :
    ((Instr.setBayRange (msg 0x11 [4, 80, 90])).message = some (0x11, msg 0x11 [4, 80, 90])
        ∧ (∀ k n, Instr.setBayRange (msg 0x11 [4, 80, 90]) ≠ .badKindMessage k n) ∧ Runs calm 0x11 [4, 80, 90]
        ∧ State.reset.loader.pendingOpen = calm.isForwarding)
      ∧ ((Instr.setStation (msg 0x10 [0])).message = some (0x10, msg 0x10 [0]) ∧ Runs serving 0x10 [0]
        ∧ { State.reset.loader with pendingOpen := true }.pendingOpen = serving.isForwarding)
      ∧ (Port.ofByte 1 = some .b1 ∧ flagOfByte 0 = some false ∧ (word16 1 0).toNat ∈ [64, 128, 256, 512, 1024]
        ∧ (word16 1 1).toNat ∉ [64, 128, 256, 512, 1024] ∧ 6 < (7 : Byte).toNat ∧ 1 < (2 : Byte).toNat
        ∧ ((linked .disabled).port .b1).link = .disabled ∧ serving.isUp .b1 = true ∧ (linked .held).isUp .b1 = false
        ∧ ((linked .held).port .b1).link ≠ .disabled ∧ ((linked .held).port .b1).settings.fixed = false
        ∧ (⟨true, 256⟩ : LinkSettings) ≠ ⟨false, 256⟩)
      ∧ (runRecord ⟨0, [0x40, 1, 0, 1, 0]⟩ serving).values = .linkState .disabled
      ∧ (runRecord ⟨1, [0x10, 0]⟩ calm).state.routes.ownStation = ⟨0, true⟩
      ∧ (runRecord ⟨1, [0x10, 0]⟩ { calm with loader := { calm.loader with pendingOpen := true } }).status = .wrongState := by
  constructorm* _ ∧ _ <;> first | exact runs (by decide +kernel) (by decide +kernel) | decide +kernel | (intros; simp)

/-- The marks a fixed record leaves, for SET LINK, SET REPORTING and SET STREAMS. -/
theorem test_fixed_records_set_their_marks :
    ((runRecord ⟨1, [0x40, 1, 0, 1, 0]⟩ (replaying [])).state.port .b1).settings = ⟨⟨false, 256⟩, true⟩
      ∧ (runRecord ⟨1, [0x50, 1, 1, 1, 5]⟩ (replaying [])).state.conditions.reporting.get .routing = ⟨⟨true, [.noRoute]⟩, true⟩
      ∧ (runRecord ⟨1, [0x60, 0, 3]⟩ (replaying [])).state.notification.countFixed = true
      ∧ ((runRecord ⟨1, [0x12, 4, 0, 0, 0x50, 0, 0, 0, 0x50, 0x0F, 0xFF]⟩ (replaying [])).state.routes.bays.get .b4).general
          = ⟨⟨0x00500000, 0x00500FFF⟩, true⟩ := by
  decide +kernel

theorem test_meets_RestartedEndsStart :
    (after (.loadImageRead ⟨false, false, []⟩) State.reset).loader.state = .start (.offering .absent)
      ∧ State.reset.management.outgoing.length < 8 ∧ State.reset.management.running = none := by
  decide +kernel

theorem test_meets_ResetRouterTakesTheCommandReset : Runs serving 0x70 [] := runs (by decide +kernel) (by decide +kernel)

/-- T's STORE waits for a lane, and the router has left FORWARDING. -/
def closedRival : State := { rivalled with loader := { rivalled.loader with state := .configuring } }

theorem test_meets_RoutingOpenedClosedAndReportRead :
    (Runs serving 0x72 [0] ∧ (msg 0x72 [0]).params ≠ [])
      ∧ (Runs calm 0x72 [] ∧ calm.loader.state = .configuring ∧ calm.routes.ownStation.value ≠ 0)
      ∧ (Runs { calm with routes := RouteTables.reset } 0x72 [] ∧ RouteTables.reset.ownStation.value = 0)
      ∧ (Runs serving 0x72 [] ∧ serving.loader.state = .forwarding)
      ∧ (Asks State.reset 0x72 [] ∧ State.reset.inStart = true) ∧ Runs serving 0x73 [0]
      ∧ Runs rivalled 0x73 [] ∧ Runs calm 0x73 [] ∧ Asks State.reset 0x73 []
      ∧ (∀ p l d, (serving.port p).requestWait ≠ some (.lane l d))
      ∧ Asks State.reset 0x71 [] ∧ Asks State.reset 0x71 [0]
      ∧ (closedRival.isForwarding = false ∧ (closedRival.port .t).requestWait = some (.lane .b1 5)
        ∧ (closedRival.port .t).requests = .store 0x10000000 [0] false :: []
        ∧ ∀ q d left, q ≠ .t → (closedRival.port q).requestWait ≠ some (.lane d left))
      ∧ ((noticeWaits.port .b2).requestWait = some (.lane .b1 5)
        ∧ (noticeWaits.port .b2).requests = .notice 32 5 0 [] false :: [])
      ∧ ((fetchWaitsFull.port .t).requests = .fetch 0x10000000 4 9 false :: [] ∧ 8 ≤ (fetchWaitsFull.port .t).answerLane.length) := by
  constructorm* _ ∧ _ <;>
    first
    | exact runs (by decide +kernel) (by decide +kernel)
    | exact asks (by decide +kernel)
    | decide +kernel
    | skip
  · intro p l d
    have h : (serving.port p).requestWait = none := by cases p <;> decide +kernel
    simp [h]
  · intro q d left hq
    have h : q ≠ .t → (closedRival.port q).requestWait = none := by cases q <;> decide +kernel
    simp [h hq]

theorem test_meets_IdentifyAnswersInEveryState :
    Asks State.reset 0x01 [] ∧ Asks calm 0x01 [] ∧ Asks serving 0x01 [] ∧ (Asks serving 0x01 [0] ∧ (msg 0x01 [0]).params ≠ []) := by
  constructorm* _ ∧ _ <;> first | exact asks (by decide +kernel) | decide +kernel

/-- The last response memory holds the answer of `ECHO 7`. -/
def remembering : State :=
  { serving with management :=
    { serving.management with
      receiveQueue := [⟨0x02, msg 0x02 [7]⟩]
      last := some ⟨1, (msg 0x02 [7]).check, ⟨0x82, 1, .response .done (.echoed [7])⟩⟩ } }

theorem test_meets_EchoReturnsItsBytes :
    (Asks serving 0x02 [7] ∧ serving.inStart = false ∧ (List.replicate 4157 (7 : Byte)).length ≤ 4157)
      ∧ (Asks serving 0x02 (List.replicate 4158 7) ∧ 4157 < (List.replicate 4158 (7 : Byte)).length)
      ∧ (Asks State.reset 0x02 [] ∧ State.reset.inStart = true)
      ∧ (remembering.pins.porn = true ∧ remembering.management.running = none
        ∧ remembering.management.mayEnter .response = true
        ∧ remembering.management.receiveQueue.head? = some ⟨0x02, msg 0x02 [7]⟩
        ∧ remembering.management.last
            = some ⟨(msg 0x02 [7]).seq, (msg 0x02 [7]).check, ⟨0x82, 1, .response .done (.echoed [7])⟩⟩) := by
  constructorm* _ ∧ _ <;>
    first
    | exact asks (by decide +kernel)
    | decide +kernel

theorem test_meets_TestsBeforeACommandRuns :
    ((Instr.echo (msg 0x02 [7])).message = some (0x02, msg 0x02 [7]) ∧ isCommandKind 0x02 = true
        ∧ (∀ k n, Instr.echo (msg 0x02 [7]) ≠ .badKindMessage k n) ∧ Asks State.reset 0x02 [7] ∧ State.reset.inStart = true)
      ∧ (isCommandKind 0x7F = false ∧ Asks State.reset 0x7F [] ∧ Asks serving 0x7F [1])
      ∧ remembering.management.last
          = some ⟨(msg 0x02 [7]).seq, (msg 0x02 [7]).check, ⟨0x82, 1, .response .done (.echoed [7])⟩⟩ := by
  constructorm* _ ∧ _ <;>
    first
    | exact asks (by decide +kernel)
    | decide +kernel
    | (intros; simp)

/-- Commands whose parameters are one byte short or long, a list with the wrong count, an absent field that a request or a notice must
carry, and a kind byte with fields cut short. -/
theorem test_meets_TestsBeforeACommandRuns_lengths :
    (Asks serving 0x10 [] ∧ Asks serving 0x10 [1, 2] ∧ Asks serving 0x70 [0] ∧ Asks serving 0x33 [0, 0, 0, 0, 4]
        ∧ Asks State.reset 0x01 [0] ∧ Asks State.reset 0x71 [0] ∧ serving.inStart = false
        ∧ ((0x33 : Byte), 6) ∈ [((0x33 : Byte), 6)] ∧ ([0, 0, 0, 0, 4] : List Byte).length ≠ 6)
      ∧ (Asks serving 0x17 [0] ∧ Asks serving 0x17 [0, 0, 1, 0, 0, 0, 0, 0, 0] ∧ Asks serving 0x17 [0, 1, 1, 0, 0, 0, 0, 0, 1, 5]
        ∧ Asks serving 0x17 [0, 2, 1, 0, 0, 0] ∧ (∀ st : Byte, ([1, 0, 0, 0, 0, 0, 1, 5] : List Byte) ≠ [0, 0, 1, st]))
      ∧ (Asks serving 0x21 [0, 0, 0, 0, 0, 1] ∧ Asks serving 0x21 [0, 0, 0, 0, 0, 1, 7]
        ∧ ([7] : List Byte).length ≠ (word16 0 1).toNat + 1)
      ∧ Asks serving 0x22 [5, 0]
      ∧ (Asks serving 0x50 [1, 1] ∧ Asks serving 0x50 [1, 1, 2, 5] ∧ ([5] : List Byte).length ≠ (2 : Byte).toNat)
      ∧ (Asks serving 0x52 [8] ∧ Asks serving 0x52 [8, 0xFF, 5] ∧ ([5] : List Byte).length ≠ (0xFF : Byte).toNat
        ∧ ([5] : List Byte) ≠ [])
      ∧ (status .resetRouter 0x70 [0] serving = some .badLength
        ∧ status .probeRoute 0x17 [0, 0, 1, 0, 0, 0, 0, 0, 0] serving = some .badLength
        ∧ status .probeRoute 0x17 [0, 2, 1, 0, 0, 0] serving = some .badLength
        ∧ status .clearConditions 0x52 [8, 0xFF, 5] serving = some .badLength
        ∧ status (.ackNotify · true) 0x61 [] streaming = some .badLength) := by
  constructorm* _ ∧ _ <;> first | exact asks (by decide +kernel) | decide +kernel

/-- A full receive queue. -/
def queued : State :=
  { serving with management :=
    { serving.management with receiveQueue := List.replicate 4 ⟨0x01, msg 0x01 []⟩ } }

/-- A full receive queue and seven messages on their way out. -/
def choked : State :=
  { queued with management :=
    { queued.management with outgoing := List.replicate 7 ⟨0x81, 0, .response .done .empty⟩ } }

theorem test_meets_ReceiverTakesMessages :
    (serving.management.gathered = none ∧ (msg 0x01 []).good 0x01 = true ∧ serving.management.receiveQueue.length < 4)
      ∧ (4 ≤ queued.management.receiveQueue.length ∧ queued.management.busyRoom = true)
      ∧ choked.management.busyRoom = false
      ∧ (lengthOutOfRange 0 2 = false ∧ ([1, 1] : List Byte).length = (word16 0 2).toNat
        ∧ crc16 [0, 2, 1, 1] ≠ word16 0 0 ∧ (0x9C : Byte) ∉ [0, 2, 1, 1] ++ [0, 0])
      ∧ ((after .startByteFound serving).management.gathered = some ⟨[], 5⟩ ∧ ([0] : List Byte) ≠ [])
      ∧ (lengthOutOfRange 0 1 = true ∧ lengthOutOfRange 0x10 0x41 = true ∧ (0x10 : Byte) ≠ 0x9C)
      ∧ (lengthOutOfRange 0x10 0x9C = true ∧ lengthOutOfRange 0x9C 0 = true) := by
  decide +kernel

theorem test_meets_OutgoingQueuePlacesAndMoves :
    choked.management.outgoing = ⟨0x81, 0, .response .done .empty⟩ :: List.replicate 6 ⟨0x81, 0, .response .done .empty⟩
      ∧ { hostWaits.management with
            running := some ⟨⟨0x21, msg 0x21 []⟩, .answered ⟨0xA1, 1, .response .done .empty⟩⟩ }.mayEnter .response = true
      ∧ (serving.management.waiting = [] ∧ serving.management.outgoing.length < 7)
      ∧ { hostWaits.management with waiting := [[.restarted]] }.restartedWaits = true
      ∧ { hostWaits.management with waiting := [[.restarted]] }.mayEnter .response = true
      ∧ (choked.management.mayEnter .response = false ∧ choked.management.mayEnter .fetchDone = false
        ∧ choked.management.mayEnter (.notify 3) = false ∧ hostWaits.management.mayEnter .restarted = false) := by
  decide +kernel

/-- Two streams ready, a host fetch HOLDING and a response formed, with no place for any. -/
def crowdedOut : State :=
  { streaming with
    hostFetch := .holding 0 4 [1] .good
    management :=
      { streaming.management with
        outgoing := List.replicate 7 ⟨0x81, 0, .response .done .empty⟩
        waiting := [[.notify 1, .notify 0]]
        running := some ⟨⟨0x21, msg 0x21 []⟩, .answered ⟨0xA1, 1, .response .done .empty⟩⟩ } }

/-- A NOTIFY that is ready waits on, one that is not waits no more, and what becomes ready waits behind; the first group enters first. -/
theorem test_meets_OutgoingQueuePlacesAndMoves_waiting :
    (crowdedOut.ready = [.response, .fetchDone, .notify 0]
        ∧ crowdedOut.noteWaiting.management.waiting = [[.notify 0], [.response, .fetchDone]])
      ∧ (let m := { crowdedOut.management with waiting := [[.notify 0], [.response, .fetchDone]], outgoing := [] }
        m.waiting = [.notify 0] :: [[.response, .fetchDone]] ∧ Waiter.restarted ∉ m.waiting.flatten
          ∧ m.mayEnter (.notify 0) = true ∧ m.mayEnter .response = false
          ∧ (m.enter (.notify 0) ⟨0xFA, 0, .response .done .empty⟩).waiting = [[.response, .fetchDone]]
          ∧ (m.enter (.notify 0) ⟨0xFA, 0, .response .done .empty⟩).mayEnter .response = true)
      ∧ (serving.pins.porn = true ∧ Instr.messageSent ≠ .pornLow ∧ (∀ r1 r0, Instr.messageSent ≠ .powerOnReset r1 r0)
        ∧ (after .messageSent crowdedOut).management.waiting = [[.notify 0], [.response, .fetchDone]]) := by
  decide +kernel

/-- A queue with one place left, stream 0 masked and ready but for that, and one message waiting. -/
def releasing : State :=
  { serving with
    notification := ⟨[⟨true, false⟩], false, ⟨true, false, false, false⟩⟩
    hostFetch := .holding 0 4 [1] .good
    management := { serving.management with outgoing := List.replicate 6 ⟨0x81, 0, .response .done .empty⟩ } }

/-- A message that enters waits no more and the others wait on; a NOTIFY chosen first takes the last place and the response waits, or, with
two places, both enter; MESSAGE SENT takes one away; bytes received leave the waiting list as it stands but for what they make wait. -/
theorem test_meets_OutgoingQueuePlacesAndMoves_entering :
    (let s := { asked releasing 0x63 [0] with hostFetch := .empty }
      let t := after (.unmaskStream (msg 0x63 [0]) true) s
      s.management.mayEnter (.notify 0) = true ∧ t.management.outgoing.length = 7 ∧ t.management.waiting = [[.response]]
        ∧ t.management.running.isSome = true)
      ∧ (let s := asked { releasing with hostFetch := .empty, management := serving.management } 0x63 [0]
        let t := after (.unmaskStream (msg 0x63 [0]) true) s
        t.management.outgoing.map (·.kind) = [0xFA, 0xE3] ∧ t.management.running = none)
      ∧ (let s := releasing.withWaiting [[.fetchDone, .notify 1]]
        let t := after .fetchDone s
        s.management.mayEnter .fetchDone = true ∧ t.management.waiting = [] ∧ t.management.outgoing.length = 7)
      ∧ (after .messageSent crowdedOut).management.outgoing = crowdedOut.management.outgoing.tail
      ∧ (after (.messageReceive ((msg 0x01 []).envelope 0x01)) choked).management.waiting = [[.response]]
      ∧ (after (.messageReceive []) crowdedOut).management.waiting = [[.notify 0], [.response, .fetchDone]] := by
  decide +kernel

/-! ## The laws hold somewhere, and a step is taken there -/

theorem test_meets_EveryStepKeepsTheRouteLaw : RouteLaw calm.routes ∧ calm.stepsTo calm.tick := by
  have shut : ∀ b k a, ((calm.routes.bays.get b).window k).value.holds a = false := fun b k a => by
    have closed :
        ((calm.routes.bays.get b).window k).value.base > ((calm.routes.bays.get b).window k).value.limit := by
      cases b <;> cases k <;> decide
    simp only [Window.holds, Bool.and_eq_false_iff, decide_eq_false_iff_not]
    by_contra h
    simp only [not_or, not_not] at h
    exact absurd (BitVec.le_trans h.1 h.2) (by simpa using closed)
  have empty : ∀ b st, (calm.routes.bays.get b).range.value.holds st = false := by
    intro b
    cases b <;> decide +kernel
  refine ⟨⟨fun b c st h => absurd h (by simp [empty]), fun b _ => by simp [empty], fun b c k l a h => absurd h (by simp [shut]),
    fun b k => by cases b <;> cases k <;> decide⟩, rfl⟩

theorem test_meets_EveryStepKeepsTheStationLaw : StationLaw serving ∧ serving.stepsTo serving.tick :=
  ⟨⟨by decide +kernel, by decide +kernel⟩, rfl⟩

theorem test_meets_EveryStepKeepsTheBufferLaw : BufferLaw serving ∧ serving.stepsTo serving.tick := by
  have up : PortLaw upPort :=
    ⟨fun c => by cases c <;> decide, by decide, by decide, by decide,
      fun _ => ⟨⟨.router, 256, 4, 4⟩, rfl, fun c => by cases c <;> decide⟩, fun h => absurd h (by decide), by decide⟩
  exact ⟨fun p => by cases p <;> first | exact up | exact PortLaw.reset, rfl⟩

theorem test_meets_EveryStepKeepsTheForwardingLaw : ForwardingLaw calm ∧ calm.stepsTo calm.tick := by
  have none : ∀ p, (calm.port p).requestWait = none := by intro p; cases p <;> decide +kernel
  exact ⟨⟨fun p h => absurd (none p) h, fun _ p d l => by simp [none]⟩, rfl⟩

theorem test_meets_EveryStepKeepsTheQueueLaw : QueueLaw serving ∧ serving.stepsTo serving.tick :=
  ⟨⟨by decide +kernel, by decide +kernel, by decide +kernel, by decide +kernel⟩, rfl⟩

/-! ## What the commands answer -/

/-- Every host command is answered NOT READY right after reset, but IDENTIFY and READ LOAD REPORT (R167). -/
theorem test_answers_in_start :
    status .identify 0x01 [] State.reset = some .done ∧ status .readLoadReport 0x71 [] State.reset = some .done
      ∧ status .setStation 0x10 [5] State.reset = some .notReady ∧ status .echo 0x02 [5] State.reset = some .notReady := by
  decide +kernel

theorem test_answers_routes :
    status .setStation 0x10 [5] calm = some .done ∧ status .setBayRange 0x11 [4, 80, 90] serving = some .done
      ∧ status .setWindow 0x12 [4, 0, 0x50, 0, 0, 0, 0x50, 0, 0x0F, 0xFF] serving = some .done
      ∧ status .setDirected 0x13 [0, 0, 0, 0, 0, 0, 0, 0xFF, 1, 1] serving = some .done
      ∧ status .setPermits 0x14 [1, 0, 1] serving = some .done ∧ status .setSpoiled 0x15 [0, 1] serving = some .done
      ∧ status .readRoutes 0x16 [1] serving = some .done
      ∧ status .probeRoute 0x17 [0, 0, 1, 0x10, 0, 0, 0, 1, 0, 4, 0] serving = some .done
      ∧ status .setBayRange 0x11 [4, 47, 50] serving = some .conflict ∧ status .setSpoiled 0x15 [7, 1] serving = some .badValue
      ∧ status .readRoutes 0x16 [] serving = some .badLength := by
  decide +kernel

theorem test_answers_traffic :
    status .readInbox 0x20 [0, 1] serving = some .done
      ∧ status .issueStore 0x21 [0x10, 0, 0, 0, 0, 1, 7, 0] serving = some .done
      ∧ status .issueStore 0x21 [0, 0, 0, 0, 0, 1, 7, 0] calm = some (.answer .portDown)
      ∧ status .sendNotice 0x22 [32, 0, 1] serving = some .done ∧ status .sendNotice 0x22 [16, 0, 1] fullInbox = some .busy
      ∧ status .setQuota 0x30 [0, 0, 64] serving = some .done ∧ status .setExchangeTimers 0x31 [0, 1, 0, 0] serving = some .done
      ∧ status .cancelExchange 0x32 [0] opened = some .done ∧ status .cancelExchange 0x32 [0] serving = some .noSuch
      ∧ status .issueFetch 0x33 [0x10, 0, 0, 0, 0, 4] serving = some .done
      ∧ status .issueFetch 0x33 [0x10, 0, 0, 0, 0, 4] tableFullState = some (.answer .tableFull)
      ∧ status .listExchanges 0x34 [0] opened = some .done ∧ status .setStallLimit 0x38 [0, 5] serving = some .done
      ∧ status .readLanes 0x39 [1] serving = some .done := by
  decide +kernel

theorem test_answers_links :
    status .setLink 0x40 [1, 0, 1, 0] serving = some .done ∧ status .holdBay 0x41 [1] serving = some .done
      ∧ status .releaseBay 0x42 [1] serving = some .wrongState ∧ status .releaseBay 0x42 [1] (linked .held) = some .done
      ∧ status .retrain 0x43 [1] (linked .failed) = some .done ∧ status .readLink 0x44 [1] serving = some .done := by
  decide +kernel

theorem test_answers_conditions_and_streams :
    status .setReporting 0x50 [1, 1, 0] serving = some .done ∧ status .readConditions 0x51 [8] serving = some .done
      ∧ status .clearConditions 0x52 [8, 0xFF] serving = some .done ∧ status .readCapture 0x53 [1] serving = some .done
      ∧ status .releaseCapture 0x54 [2] serving = some .done ∧ status .readCounters 0x55 [0, 1] serving = some .done
      ∧ status .setStreams 0x60 [0, 3] serving = some .done ∧ status (.ackNotify · false) 0x61 [1] streaming = some .done
      ∧ status .maskStream 0x62 [0] streaming = some .done ∧ status (.unmaskStream · true) 0x63 [1] streaming = some .done := by
  decide +kernel

theorem test_answers_router_states :
    status .resetRouter 0x70 [] serving = some .done ∧ status .openRouting 0x72 [] calm = some .done
      ∧ status .closeRouting 0x73 [] serving = some .done ∧ status (.badKindMessage 0x7F) 0x7F [] serving = some .badKind := by
  decide +kernel

/-! ## What the events do -/

/-- The message of a command that arrives whole is queued; a response at the head of the outgoing queue is sent. -/
theorem test_management_events :
    (after (.messageReceive ((msg 0x01 []).envelope 0x01)) serving).management.receiveQueue = [⟨0x01, msg 0x01 []⟩]
      ∧ (after .messageSent choked).management.outgoing.length = 6
      ∧ (after .messageAbandoned (after .startByteFound serving)).management.gathered = none
      ∧ (after (.bodyLengthOutOfRange 0 1) (after .startByteFound serving)).management.gathered = none
      ∧ ((after .startByteFound serving).elapse 5).management.gathered = some ⟨[], 0⟩
      ∧ ((after .startByteFound serving).elapse 6).management.gathered = none
      ∧ (after (.messageReceive ([0x9C, 0, 6, 1] ++ (msg 0x01 []).envelope 0x01)) serving).management.receiveQueue
          = [⟨0x01, msg 0x01 []⟩]
      ∧ (after (.messageReceive ([0x9C, 0, 6, 1] ++ (msg 0x01 []).envelope 0x01)) serving).conditions.counters.framingErrors = 1
      ∧ (after (.notify 0) streaming).management.unsolicited = 1
      ∧ (after .fetchDone { serving with hostFetch := .holding 0 4 [1] .good }).hostFetch = .empty
      ∧ (after .responseEntersQueue
          { hostWaits with management :=
            { hostWaits.management with
              running := some ⟨⟨0x21, msg 0x21 []⟩, .answered ⟨0xA1, 1, .response .done .empty⟩⟩ } }).management.running
          = none := by
  decide +kernel

/-- The start-up of an absent memory, and one record of an image. -/
theorem test_start_up_events :
    (after (.loadImageRead ⟨false, false, []⟩) State.reset).loader.state = .start (.offering .absent)
      ∧ (after (.loadImageRead ⟨true, true, stationImage⟩) State.reset).loader.state
          = .start (.replaying 1 [⟨1, [0x10, 0x10]⟩])
      ∧ (after .loadRecord (replaying [⟨1, [0x10, 0x10]⟩])).routes.ownStation = ⟨16, true⟩
      ∧ (after .restarted (after (.loadImageRead ⟨false, false, []⟩) State.reset)).loader.state = .configuring
      ∧ (after (.resetSymbol .t) serving).loader.report.cause = .trunkReset
      ∧ (after .pornLow serving).pins.porn = false
      ∧ (after (.powerOnReset true false) (after .pornLow serving)).management.rate = .r460800 := by
  decide +kernel

/-- A store crosses from T to B1, a fetch takes entry 0, an answer comes back. -/
theorem test_frame_events :
    ((after (.frameArrival .t .request (frameOf (.store 0x10000000 [1] false))) serving).port .b1).requestLane
        = [laneStore 1]
      ∧ (after (.frameArrival .t .request (frameOf (.fetch 0x10000000 4 9 false))) serving).entry 0
          = .opened ⟨.link .t 9, .b1, 0x10000000, 4, 0, 0⟩ .queued 50
      ∧ ((after (.frameArrival .b1 .answer (⟨0, .good, true, [1, 2, 3, 4], false⟩ : Answer).bytes) opened).port .t).answerLane
          = [⟨⟨9, .good, true, [1, 2, 3, 4], false⟩, false⟩]
      ∧ ((after (.laneGrant .b1 .request) contended).port .b1).requestLane = [⟨.store 0x10000000 [0] false, .link .b2⟩]
      ∧ ((after (.transmitFrame .b1) queuedFetch).port .b1).sending = some (.request (.store 0x10000000 [1] false))
      ∧ (after (.frameLastByteSent .b1) (after (.transmitFrame .b1) queuedFetch)).wire.length = 1
      ∧ ((after (.sendCreditReturn .b1 .request) (withPort serving .b1 { upPort with granted := ⟨3, 4⟩, owed := ⟨1, 0⟩ })).port
          .b1).granted = ⟨4, 4⟩
      ∧ ((after (.creditReturn .b1 .answer) (withPort serving .b1 { upPort with partner := ⟨4, 0⟩ })).port .b1).partner
          = ⟨4, 1⟩ := by
  decide +kernel

/-- Timers run out. -/
theorem test_timer_events :
    ((after (.stallTimerRunsOut (.ingress .t .request)) rivalled).port .t).requests = []
      ∧ (after (.deadlineRunsOut 0) opened).entry 0 = .quarantine (someExchange (.link .t 9)) .expired 50
      ∧ (after (.quarantineRunsOut 0) quarantined).entry 0 = .free := by
  decide +kernel

/-- A link trains, and fails to. -/
theorem test_link_events :
    ((after (.quietIntervalEnd .b1) (after (.partnerSignalPresent .b1) State.reset)).port .b1).link
        = .training ⟨2, true, none, false⟩
      ∧ ((after (.greeting .b1 (greetingBytes 128)) (linked (.training (attempt none true)))).port .b1).link = .up 128
      ∧ ((after (.accept .b1) (linked (.training (attempt (some ⟨.router, 128, 4, 4⟩) false)))).port .b1).link = .up 128
      ∧ ((after (.trainingTimeout .b1) (linked (.training (attempt none false)))).port .b1).attempts = 1
      ∧ ((after (.partnerSignalLoss .b1) serving).port .b1).link = .down (some 1)
      ∧ ((after (.damagedWindowExpiry .b1) (withPort serving .b1 { upPort with window := [3, 10] })).port .b1).window = [7]
      ∧ (after (.greetingRepeat .b1) (linked (.training (attempt none false)))).wire.length = 1 := by
  decide +kernel

end Sys2Proof.Tests
end

section
/-! The proof about RELEASE BAY and RETRAIN (R134, R135): both bring a port DOWN out of one link state, and refuse in any other. -/

namespace Sys2Proof.Machine

/-- Taking a command leaves every port as it is. -/
@[simp] theorem State.taken_port (s : State) (p : Port) : s.taken.port p = s.port p := rfl

/-- A command whose act refuses is answered with the status of the refusal, and nothing changes (R191). -/
theorem answers_of_refuse {i : Instr} {s : State} {c : Message} {inStart : Bool} {act : Act} {st : Status}
    (he : exec i s = event (State.take c inStart (State.runAct c act)) s) (h : Taken s c)
    (hs : inStart = true ∨ s.inStart = false) (hact : act c.msg.params s.taken = some (refuse st s.taken)) :
    Answers i s c st .empty s :=
  answers_of_act he h hs hact

/-- A command whose act is DONE and changes one port is answered DONE with that port changed, all else kept. -/
theorem answers_of_modPort {i : Instr} {s : State} {c : Message} {inStart : Bool} {act : Act} {v : Values} {p : Port}
    {f : PortState → PortState} (he : exec i s = event (State.take c inStart (State.runAct c act)) s) (h : Taken s c)
    (hs : inStart = true ∨ s.inStart = false) (hact : act c.msg.params s.taken = some (done v (s.taken.modPort p f))) :
    Answers i s c .done v (s.modPort p f) :=
  answers_of_act he h hs hact

/-- A port in the link state `old` goes DOWN at the start of its quiet interval with attempt count 0; a port in another state is
WRONG STATE. -/
def downFrom (old : Link) (p : Port) (s : State) : Reply :=
  if (s.port p).link = old then done .empty (s.modPort p fun x => { x with link := Link.freshDown, attempts := 0 })
  else refuse .wrongState s

theorem releaseBayTo_eq (b : Bay) (s : State) : releaseBayTo b s = downFrom .held b.port s := rfl

theorem retrainPort_eq (p : Port) (s : State) : retrainPort p s = downFrom .failed p s := rfl

theorem downFrom_same {old : Link} {p : Port} {s : State} (h : (s.port p).link = old) :
    downFrom old p s = done .empty (s.modPort p fun x => { x with link := .down (some 1), attempts := 0 }) :=
  if_pos h

theorem downFrom_ne {old : Link} {p : Port} {s : State} (h : (s.port p).link ≠ old) : downFrom old p s = refuse .wrongState s :=
  if_neg h

/-- What a command answers whose act brings a port DOWN out of one link state. -/
theorem answers_of_downFrom {i : Instr} {s : State} {c : Message} {inStart : Bool} {act : Act} {old : Link} {p : Port}
    (he : exec i s = event (State.take c inStart (State.runAct c act)) s) (h : Taken s c)
    (hs : inStart = true ∨ s.inStart = false) (hact : act c.msg.params s.taken = some (downFrom old p s.taken)) :
    ((s.port p).link = old →
      Answers i s c .done .empty (s.modPort p fun x => { x with link := .down (some 1), attempts := 0 }))
    ∧ ((s.port p).link ≠ old → Answers i s c .wrongState .empty s) := by
  constructor
  · intro hold
    have hdown := downFrom_same (s := s.taken) hold
    exact answers_of_modPort he h hs (hact.trans (congrArg some hdown))
  · intro hne
    have hwrong := downFrom_ne (s := s.taken) hne
    exact answers_of_refuse he h hs (hact.trans (congrArg some hwrong))

/-! ## RELEASE BAY (R134) -/

theorem exec_releaseBay (m : HostMsg) (s : State) :
    exec (.releaseBay m) s = event (State.take ⟨0x42, m⟩ false (State.runAct ⟨0x42, m⟩ actReleaseBay)) s := rfl

theorem actReleaseBay_of_none {b : Byte} (s : State) (hb : Bay.ofByte b = none) :
    actReleaseBay [b] s = some (refuse .badValue s) := by
  simp only [actReleaseBay, hb]

theorem actReleaseBay_of_some {b : Byte} {bay : Bay} (s : State) (hb : Bay.ofByte b = some bay) :
    actReleaseBay [b] s = some (downFrom .held bay.port s) := by
  simp only [actReleaseBay, hb, releaseBayTo_eq]

/-! ## RETRAIN (R135) -/

theorem exec_retrain (m : HostMsg) (s : State) :
    exec (.retrain m) s = event (State.take ⟨0x43, m⟩ false (State.runAct ⟨0x43, m⟩ actRetrain)) s := rfl

theorem actRetrain_of_none {p : Byte} (s : State) (hp : Port.ofByte p = none) :
    actRetrain [p] s = some (refuse .badValue s) := by
  simp only [actRetrain, hp]

theorem actRetrain_of_some {p : Byte} {port : Port} (s : State) (hp : Port.ofByte p = some port) :
    actRetrain [p] s = some (downFrom .failed port s) := by
  simp only [actRetrain, hp, retrainPort_eq]

/-- Settles O33, by what each command's act replies to a byte that names no port and to one that does. -/
theorem releaseBayAndRetrain : Obligations.ReleaseBayAndRetrain := by
  unfold Obligations.ReleaseBayAndRetrain
  constructor
  case left =>
    intro m b s h hparams
    have he := exec_releaseBay m s
    refine ⟨fun hb => ?_, fun bay hb => ?_⟩
    · exact answers_of_refuse he h.toTaken (.inr h.running) (hparams ▸ actReleaseBay_of_none s.taken hb)
    · exact answers_of_downFrom he h.toTaken (.inr h.running) (hparams ▸ actReleaseBay_of_some s.taken hb)
  case right =>
    intro m p s h hparams
    have he := exec_retrain m s
    refine ⟨fun hp => ?_, fun port hp => ?_⟩
    · exact answers_of_refuse he h.toTaken (.inr h.running) (hparams ▸ actRetrain_of_none s.taken hp)
    · exact answers_of_downFrom he h.toTaken (.inr h.running) (hparams ▸ actRetrain_of_some s.taken hp)

end Sys2Proof.Machine
end

section
/-! The proof about READ CAPTURE, RELEASE CAPTURE and READ COUNTERS (R149, R150, R153): which byte names what, what each act
replies, and what a detection puts into the capture of its category (R148). -/

namespace Sys2Proof

/-! ## Bytes of ports and flags (R195) -/

theorem Port.ofByte_eq_some_iff (b : Byte) (p : Port) : Port.ofByte b = some p ↔ b = p.byte := by
  constructor
  case mp =>
    intro h
    unfold Port.ofByte at h
    apply BitVec.eq_of_toNat_eq
    split at h <;> cases h <;> assumption
  case mpr =>
    rintro rfl
    cases p <;> rfl

theorem Port.ofByte_of_six_lt {b : Byte} (h : 6 < b.toNat) : Port.ofByte b = none := by
  unfold Port.ofByte
  split
  case h_8 => rfl
  all_goals omega

theorem Origin.ofByte_of_seven_lt {b : Byte} (h : 7 < b.toNat) : Origin.ofByte b = none := by
  have hport : Port.ofByte b = none := Port.ofByte_of_six_lt (by omega)
  unfold Origin.ofByte
  split
  case h_1 h7 => omega
  case h_2 => rw [hport]; rfl

theorem flagOfByte_of_one_lt {f : Byte} (h : 1 < f.toNat) : flagOfByte f = none := by
  unfold flagOfByte
  split
  case h_3 => rfl
  all_goals omega

end Sys2Proof

namespace Sys2Proof.Machine

/-! ## Bytes of categories and sets (R195) -/

theorem Category.ofByte_eq_some_iff (b : Byte) (k : Category) : Category.ofByte b = some k ↔ b = k.byte := by
  constructor
  case mp =>
    intro h
    unfold Category.ofByte at h
    apply BitVec.eq_of_toNat_eq
    split at h <;> cases h <;> assumption
  case mpr =>
    rintro rfl
    cases k <;> rfl

/-- A byte other than those of ROUTING and EXCHANGE names a category without a capture record, or none. -/
theorem Category.ofByte_of_noCapture {b : Byte} (hr : b ≠ 1) (hx : b ≠ 2) :
    Category.ofByte b = some .port ∨ Category.ofByte b = some .inbox ∨ Category.ofByte b = none := by
  cases h : Category.ofByte b with
  | none => simp
  | some k =>
    have hb : b = k.byte := (Category.ofByte_eq_some_iff b k).mp h
    cases k with
    | port => simp
    | routing => exact absurd hb hr
    | exchange => exact absurd hb hx
    | inbox => simp

theorem SetId.ofByte_of_port {b : Byte} {p : Port} (h : Port.ofByte b = some p) :
    SetId.ofByte b = some (.origin (.link p)) := by
  obtain rfl := (Port.ofByte_eq_some_iff b p).mp h
  cases p <;> rfl

theorem SetId.ofByte_of_eight_lt {b : Byte} (h : 8 < b.toNat) : SetId.ofByte b = none := by
  have horigin : Origin.ofByte b = none := Origin.ofByte_of_seven_lt (by omega)
  unfold SetId.ofByte
  split
  case h_1 h8 => omega
  case h_2 => rw [horigin]; rfl

/-! ## Commands that change the condition unit or nothing -/

/-- A command whose act is DONE and changes nothing but the condition unit is answered DONE with that unit changed, all else kept. -/
theorem answers_of_withConditions {i : Instr} {s : State} {c : Message} {inStart : Bool} {act : Act} {v : Values}
    {k : ConditionUnit} (he : exec i s = event (State.take c inStart (State.runAct c act)) s) (h : Taken s c)
    (hs : inStart = true ∨ s.inStart = false)
    (hact : act c.msg.params s.taken = some (done v { s.taken with conditions := k })) :
    Answers i s c .done v { s with conditions := k } :=
  answers_of_act he h hs hact

/-- A command whose act is DONE and changes nothing is answered DONE, all else kept. -/
theorem answers_of_done {i : Instr} {s : State} {c : Message} {inStart : Bool} {act : Act} {v : Values}
    (he : exec i s = event (State.take c inStart (State.runAct c act)) s) (h : Taken s c)
    (hs : inStart = true ∨ s.inStart = false) (hact : act c.msg.params s.taken = some (done v s.taken)) :
    Answers i s c .done v s :=
  answers_of_act he h hs hact

/-! ## READ CAPTURE (R149) -/

theorem exec_readCapture (m : HostMsg) (s : State) :
    exec (.readCapture m) s = event (State.take ⟨0x53, m⟩ false (State.runAct ⟨0x53, m⟩ actReadCapture)) s := rfl

theorem actReadCapture_routing (s : State) :
    actReadCapture [1] s = some (done (.capture s.conditions.routingCapture) s) := rfl

theorem actReadCapture_exchange (s : State) :
    actReadCapture [2] s = some (done (.capture s.conditions.exchangeCapture) s) := rfl

theorem actReadCapture_of_ne {b : Byte} (s : State) (hr : b ≠ 1) (hx : b ≠ 2) :
    actReadCapture [b] s = some (refuse .badValue s) := by
  rcases Category.ofByte_of_noCapture hr hx with h | h | h <;> simp only [actReadCapture, h]

theorem readCapture_answers {m : HostMsg} {s : State} (h : TakenOutsideStart s ⟨0x53, m⟩) :
    (m.params = [1] → Answers (.readCapture m) s ⟨0x53, m⟩ .done (.capture s.conditions.routingCapture) s)
    ∧ (m.params = [2] → Answers (.readCapture m) s ⟨0x53, m⟩ .done (.capture s.conditions.exchangeCapture) s)
    ∧ (∀ b, m.params = [b] → b ≠ 1 → b ≠ 2 → Answers (.readCapture m) s ⟨0x53, m⟩ .badValue .empty s) := by
  have he := exec_readCapture m s
  refine ⟨fun hparams => ?_, fun hparams => ?_, fun b hparams hr hx => ?_⟩
  · exact answers_of_done he h.toTaken (.inr h.running) (hparams ▸ actReadCapture_routing s.taken)
  · exact answers_of_done he h.toTaken (.inr h.running) (hparams ▸ actReadCapture_exchange s.taken)
  · exact answers_of_refuse he h.toTaken (.inr h.running) (hparams ▸ actReadCapture_of_ne s.taken hr hx)

/-! ## RELEASE CAPTURE (R150) -/

theorem exec_releaseCapture (m : HostMsg) (s : State) :
    exec (.releaseCapture m) s = event (State.take ⟨0x54, m⟩ false (State.runAct ⟨0x54, m⟩ actReleaseCapture)) s := rfl

theorem actReleaseCapture_routing (s : State) :
    actReleaseCapture [1] s =
      some (done (.released (s.conditions.routingCapture.map Capture.later))
        { s with conditions := { s.conditions with routingCapture := none } }) := rfl

theorem actReleaseCapture_exchange (s : State) :
    actReleaseCapture [2] s =
      some (done (.released (s.conditions.exchangeCapture.map Capture.later))
        { s with conditions := { s.conditions with exchangeCapture := none } }) := rfl

theorem actReleaseCapture_of_ne {b : Byte} (s : State) (hr : b ≠ 1) (hx : b ≠ 2) :
    actReleaseCapture [b] s = some (refuse .badValue s) := by
  rcases Category.ofByte_of_noCapture hr hx with h | h | h <;> simp only [actReleaseCapture, h]

theorem releaseCapture_answers {m : HostMsg} {s : State} (h : TakenOutsideStart s ⟨0x54, m⟩) :
    (m.params = [1] →
      Answers (.releaseCapture m) s ⟨0x54, m⟩ .done (.released (s.conditions.routingCapture.map Capture.later))
        { s with conditions := { s.conditions with routingCapture := none } })
    ∧ (m.params = [2] →
        Answers (.releaseCapture m) s ⟨0x54, m⟩ .done (.released (s.conditions.exchangeCapture.map Capture.later))
          { s with conditions := { s.conditions with exchangeCapture := none } })
    ∧ (∀ b, m.params = [b] → b ≠ 1 → b ≠ 2 → Answers (.releaseCapture m) s ⟨0x54, m⟩ .badValue .empty s) := by
  have he := exec_releaseCapture m s
  refine ⟨fun hparams => ?_, fun hparams => ?_, fun b hparams hr hx => ?_⟩
  · exact answers_of_withConditions he h.toTaken (.inr h.running) (hparams ▸ actReleaseCapture_routing s.taken)
  · exact answers_of_withConditions he h.toTaken (.inr h.running) (hparams ▸ actReleaseCapture_exchange s.taken)
  · exact answers_of_refuse he h.toTaken (.inr h.running) (hparams ▸ actReleaseCapture_of_ne s.taken hr hx)

/-! ## The capture after a detection (R148) -/

theorem State.detect_routingCapture {c : Condition} (o : Origin) (x : Subject) (s : State) (h : c.category = .routing) :
    (s.detect o c x).conditions.routingCapture = captured s.conditions.routingCapture o c x := by
  simp only [State.detect, State.fillCapture, h, State.latch_routingCapture]

theorem State.detect_exchangeCapture {c : Condition} (o : Origin) (x : Subject) (s : State) (h : c.category = .exchange) :
    (s.detect o c x).conditions.exchangeCapture = captured s.conditions.exchangeCapture o c x := by
  simp only [State.detect, State.fillCapture, h, State.latch_exchangeCapture]

theorem captured_none (o : Origin) (c : Condition) (x : Subject) : captured none o c x = some ⟨o, c, x, 0⟩ := rfl

/-! ## READ COUNTERS (R153) -/

theorem exec_readCounters (m : HostMsg) (s : State) :
    exec (.readCounters m) s = event (State.take ⟨0x55, m⟩ false (State.runAct ⟨0x55, m⟩ actReadCounters)) s := rfl

theorem actReadCounters_of_flag_none {f : Byte} (sel : Byte) (s : State) (hf : flagOfByte f = none) :
    actReadCounters [sel, f] s = some (refuse .badValue s) := by
  simp only [actReadCounters, hf]
  split
  case h_1 hclear => cases hclear
  case h_2 hclear => cases hclear
  case h_3 => rfl

theorem actReadCounters_port {sel f : Byte} {clear : Bool} {p : Port} (s : State) (hsel : Port.ofByte sel = some p)
    (hf : flagOfByte f = some clear) :
    actReadCounters [sel, f] s =
      some (done (.counters (s.port p).counters)
        (if clear then s.modPort p fun x => { x with counters := ⟨0, 0, 0, 0, 0⟩ } else s)) := by
  simp only [actReadCounters, SetId.ofByte_of_port hsel, hf]
  rfl

theorem actReadCounters_router {f : Byte} {clear : Bool} (s : State) (hf : flagOfByte f = some clear) :
    actReadCounters [8, f] s =
      some (done (.routerCounters s.conditions.counters)
        (if clear then { s with conditions := { s.conditions with counters := ⟨0, 0, 0, 0⟩ } } else s)) := by
  have hsel : SetId.ofByte 8 = some .router := rfl
  simp only [actReadCounters, hsel, hf]
  rfl

/-- M has no counters, and above 08h no set is named. -/
theorem actReadCounters_of_noGroup {sel : Byte} (f : Byte) (s : State) (hsel : sel = 7 ∨ 8 < sel.toNat) :
    actReadCounters [sel, f] s = some (refuse .badValue s) := by
  rcases hsel with rfl | hgt
  · have hm : SetId.ofByte 7 = some (.origin .m) := rfl
    simp only [actReadCounters, hm]
  · simp only [actReadCounters, SetId.ofByte_of_eight_lt hgt]

theorem readCounters_port_answers {m : HostMsg} {sel f : Byte} {clear : Bool} {p : Port} {s : State}
    (h : TakenOutsideStart s ⟨0x55, m⟩) (hparams : m.params = [sel, f]) (hsel : Port.ofByte sel = some p)
    (hf : flagOfByte f = some clear) :
    Answers (.readCounters m) s ⟨0x55, m⟩ .done (.counters (s.port p).counters)
      (if clear then s.modPort p fun x => { x with counters := ⟨0, 0, 0, 0, 0⟩ } else s) := by
  have he := exec_readCounters m s
  have hact := hparams ▸ actReadCounters_port s.taken hsel hf
  cases clear with
  | false => exact answers_of_done he h.toTaken (.inr h.running) hact
  | true =>
    simp only [if_true] at hact ⊢
    exact answers_of_modPort he h.toTaken (.inr h.running) hact

theorem readCounters_router_answers {m : HostMsg} {f : Byte} {clear : Bool} {s : State}
    (h : TakenOutsideStart s ⟨0x55, m⟩) (hparams : m.params = [8, f]) (hf : flagOfByte f = some clear) :
    Answers (.readCounters m) s ⟨0x55, m⟩ .done (.routerCounters s.conditions.counters)
      (if clear then { s with conditions := { s.conditions with counters := ⟨0, 0, 0, 0⟩ } } else s) := by
  have he := exec_readCounters m s
  have hact := hparams ▸ actReadCounters_router s.taken hf
  cases clear with
  | false => exact answers_of_done he h.toTaken (.inr h.running) hact
  | true => exact answers_of_withConditions he h.toTaken (.inr h.running) hact

/-- Settles O42, by what each act replies to a byte that names a capture or a group of counters and to one that does not, and by the
capture an EMPTY record becomes. -/
theorem capturesAndCounters : Obligations.CapturesAndCounters := by
  unfold Obligations.CapturesAndCounters
  refine ⟨fun m s h => readCapture_answers h, fun m s h => releaseCapture_answers h, fun s o c x => ⟨?_, ?_⟩, ?_, ?_⟩
  case refine_1 =>
    intro hempty hc
    rw [State.detect_routingCapture o x s hc, hempty, captured_none]
  case refine_2 =>
    intro hempty hc
    rw [State.detect_exchangeCapture o x s hc, hempty, captured_none]
  case refine_3 =>
    intro m sel f s h hparams hf
    have hact := actReadCounters_of_flag_none sel s.taken (flagOfByte_of_one_lt hf)
    exact answers_of_refuse (exec_readCounters m s) h.toTaken (.inr h.running) (hparams ▸ hact)
  case refine_4 =>
    intro m sel f clear s h hparams hf
    refine ⟨fun p hsel => readCounters_port_answers h hparams hsel hf, ?_, fun hsel => ?_⟩
    · rintro rfl
      exact readCounters_router_answers h hparams hf
    · exact answers_of_refuse (exec_readCounters m s) h.toTaken (.inr h.running)
        (hparams ▸ actReadCounters_of_noGroup f s.taken hsel)

end Sys2Proof.Machine
end

section
/-! The proof about SET STREAMS (R158, R159, R164): what the regrouped streams are, what each outcome of its checks replies, and
the answer to the host that follows. -/

namespace Sys2Proof.Machine

/-! ## The streams after a regrouping (R159) -/

theorem length_regroup (old : List Stream) (count : Nat) : (regroup old count).length = count := by
  simp [regroup]

/-- Whatever stands in a regrouped unit has its flag clear; it keeps the mask of the stream of that number, and starts masked where
there was none. -/
theorem stream_of_regroup {old : List Stream} {count k : Nat} {x : Stream} (hx : (regroup old count)[k]? = some x) :
    x.awaiting = false ∧ (∀ y, old[k]? = some y → x.masked = y.masked) ∧ (old[k]? = none → x.masked = true) := by
  have hk : k < count := by
    rw [← length_regroup old count]
    exact (List.getElem?_eq_some_iff.mp hx).1
  unfold regroup at hx
  rw [List.getElem?_map, List.getElem?_range hk, Option.map_some, Option.some_inj] at hx
  cases hold : old[k]? with
  | some y =>
    obtain rfl : { y with awaiting := false } = x := by simpa only [hold] using hx
    exact ⟨rfl, fun z hz => by rw [← Option.some_inj.mp hz], nofun⟩
  | none =>
    obtain rfl : { masked := true, awaiting := false } = x := by simpa only [hold] using hx
    exact ⟨rfl, nofun, fun _ => rfl⟩

/-! ## The checks of SET STREAMS (R158) -/

theorem setStreamsTo_of_eight_lt {n : Nat} (fix : Bool) (s : State) (hn : 8 < n) :
    setStreamsTo n fix s = refuse .badValue s :=
  if_pos hn

theorem setStreamsTo_fixed {n : Nat} (fix : Bool) {s : State} (hn : n ≤ 8) (hfixed : s.notification.countFixed = true)
    (hcount : grantedCount n ≠ s.notification.streams.length) : setStreamsTo n fix s = refuse .fixed s :=
  (if_neg (Nat.not_lt.mpr hn)).trans (if_pos ⟨hfixed, hcount⟩)

/-- A SET STREAMS of the host that passes its checks changes the streams alone: marks and fixed mark stay. -/
theorem setStreamsTo_done {n : Nat} {s : State} (hn : n ≤ 8)
    (hcount : s.notification.countFixed = true → grantedCount n = s.notification.streams.length) :
    setStreamsTo n false s =
      doneStreams { s.notification with streams := regroup s.notification.streams (grantedCount n) } s := by
  have hfree : ¬(s.notification.countFixed ∧ grantedCount n ≠ s.notification.streams.length) :=
    fun ⟨hfixed, hne⟩ => hne (hcount hfixed)
  simp only [setStreamsTo, if_neg (Nat.not_lt.mpr hn), if_neg hfree, Bool.or_false]

/-! ## The command -/

theorem exec_setStreams (m : HostMsg) (s : State) :
    exec (.setStreams m) s =
      event (State.take ⟨0x60, m⟩ false
        (State.runAct ⟨0x60, m⟩ fun params s => actSetStreams s.isForwarding false params s)) s := rfl

theorem actSetStreams_two (forwarding fix : Bool) (n1 n0 : Byte) (s : State) :
    actSetStreams forwarding fix [n1, n0] s = some (setStreamsTo (word16 n1 n0).toNat fix s) := rfl

/-- A command whose act is DONE with the stream report of a new notification unit is answered so, with that unit in place and all
else kept (R164). -/
theorem answers_of_doneStreams {i : Instr} {s : State} {c : Message} {inStart : Bool} {act : Act} {u : NotificationUnit}
    (he : exec i s = event (State.take c inStart (State.runAct c act)) s) (h : Taken s c)
    (hs : inStart = true ∨ s.inStart = false) (hact : act c.msg.params s.taken = some (doneStreams u s.taken)) :
    Answers i s c .done (.streams u.report) { s with notification := u } :=
  answers_of_act he h hs hact

/-- Settles O43, by the outcome of the two checks; the streams granted are those of `regroup`. -/
theorem setStreamsRegroups : Obligations.SetStreamsRegroups := by
  unfold Obligations.SetStreamsRegroups
  intro m n1 n0 s h hparams n granted u
  have he := exec_setStreams m s
  have hact : actSetStreams s.taken.isForwarding false m.params s.taken = some (setStreamsTo n false s.taken) :=
    hparams ▸ actSetStreams_two _ false n1 n0 s.taken
  refine ⟨fun hn => ?badValue, fun hn hfixed hcount => ?fixed, fun hn hcount => ?taken⟩
  case badValue =>
    have hreply := setStreamsTo_of_eight_lt false s.taken hn
    exact answers_of_refuse he h.toTaken (.inr h.running) (hact.trans (congrArg some hreply))
  case fixed =>
    have hreply := setStreamsTo_fixed false (s := s.taken) hn hfixed hcount
    exact answers_of_refuse he h.toTaken (.inr h.running) (hact.trans (congrArg some hreply))
  case taken =>
    have hreply := setStreamsTo_done (s := s.taken) hn hcount
    refine ⟨regroup u.streams granted, length_regroup _ _, fun k x hx => ?_, ?_⟩
    · obtain ⟨hflag, hkept, hnew⟩ := stream_of_regroup hx
      refine ⟨hflag, ?_⟩
      split
      · exact hkept _ ‹_›
      · exact hnew ‹_›
    · exact answers_of_doneStreams he h.toTaken (.inr h.running) (hact.trans (congrArg some hreply))

end Sys2Proof.Machine
end

section
/-! The proof about ECHO (R187, R193): what its act replies to parameters within the limit and beyond it, and how the shared laws of a
command taken, not run in START, answered from memory and met in a load image apply to it. -/

namespace Sys2Proof.Machine

/-! ## Records that no load runs (R173) -/

theorem flagOfByte_of_flag {flag : Byte} (h : flag = 0 ∨ flag = 1) : ∃ fix, flagOfByte flag = some fix := by
  rcases h with rfl | rfl
  · exact ⟨false, rfl⟩
  · exact ⟨true, rfl⟩

/-- A record of a command kind that is not allowed in a load is refused NOT IN LOAD, whatever its parameters (R173). -/
theorem runRecord_notInLoad {flag kind : Byte} (params : List Byte) (s : State) (hf : flag = 0 ∨ flag = 1)
    (hk : isCommandKind kind = true) (ha : loadAct kind = none) :
    runRecord ⟨flag, kind :: params⟩ s = refuse .notInLoad s := by
  obtain ⟨fix, hfix⟩ := flagOfByte_of_flag hf
  simp [runRecord, hfix, hk, ha]

/-! ## ECHO (R193) -/

theorem exec_echo (m : HostMsg) (s : State) :
    exec (.echo m) s = event (State.take ⟨0x02, m⟩ false (State.runAct ⟨0x02, m⟩ actEcho)) s := rfl

theorem actEcho_of_le {params : List Byte} (s : State) (h : params.length ≤ 4157) :
    actEcho params s = some (done (.echoed params) s) :=
  if_neg (Nat.not_lt.mpr h)

theorem actEcho_of_lt {params : List Byte} (s : State) (h : 4157 < params.length) : actEcho params s = none :=
  if_pos h

theorem echoed_bytes (b : List Byte) : (Values.echoed b).bytes = b := rfl

theorem runRecord_echo {flag : Byte} (params : List Byte) (s : State) (hf : flag = 0 ∨ flag = 1) :
    runRecord ⟨flag, 0x02 :: params⟩ s = refuse .notInLoad s :=
  runRecord_notInLoad params s hf (by decide) rfl

/-- Settles O51, by the two outcomes of ECHO's length check and the shared laws of a command in START, in a load image and sent
again. -/
theorem echoReturnsItsBytes : Obligations.EchoReturnsItsBytes := by
  unfold Obligations.EchoReturnsItsBytes
  intro m s h
  have he := exec_echo m
  refine ⟨fun hs hlen => ?echoed, fun hs hlen => ?tooLong, fun hs => ?inStart, fun flag params t hf => ?inLoad,
    fun t response hporn hidle hplace hhead hlast => ?sentAgain⟩
  case echoed => exact ⟨answers_of_done (he s) h (.inr hs) (actEcho_of_le s.taken hlen), echoed_bytes m.params⟩
  case tooLong => exact answers_badLength (he s) h (.inr hs) (actEcho_of_lt s.taken hlen)
  case inStart => exact answers_notReady (he s) h hs
  case inLoad => exact runRecord_echo params t hf
  case sentAgain => exact effect_of_repeat (he t) hporn hidle hplace hhead hlast

end Sys2Proof.Machine
end

section
/-! What every row does, said once: what follows the taking of a command or PORN being high (`Instr.body`), and how a step comes to it.
A law that every step keeps is then a goal for each body. -/

namespace Sys2Proof

open Machine

/-! ## The body of a row -/

/-- What a row does once its message is taken and put to tests 1 and 3 of R186, or, for an event, once PORN is high (R168). -/
def Instr.body : Instr → State → State
  | .setStation m => State.runAct ⟨0x10, m⟩ fun params s => actSetStation s.isForwarding false params s
  | .setBayRange m => State.runAct ⟨0x11, m⟩ fun params s => actSetBayRange s.isForwarding false params s
  | .setWindow m => State.runAct ⟨0x12, m⟩ fun params s => actSetWindow s.isForwarding false params s
  | .setDirected m => State.runAct ⟨0x13, m⟩ fun params s => actSetDirected s.isForwarding false params s
  | .setPermits m => State.runAct ⟨0x14, m⟩ fun params s => actSetPermits s.isForwarding false params s
  | .setSpoiled m => State.runAct ⟨0x15, m⟩ fun params s => actSetSpoiled s.isForwarding false params s
  | .readRoutes m => State.runAct ⟨0x16, m⟩ actReadRoutes
  | .probeRoute m => State.runAct ⟨0x17, m⟩ actProbeRoute
  | .readInbox m => State.runAct ⟨0x20, m⟩ actReadInbox
  | .issueStore m => State.startStore ⟨0x21, m⟩
  | .sendNotice m => State.startNotice ⟨0x22, m⟩
  | .setQuota m => State.runAct ⟨0x30, m⟩ fun params s => actSetQuota s.isForwarding false params s
  | .setExchangeTimers m => State.runAct ⟨0x31, m⟩ fun params s => actSetExchangeTimers s.isForwarding false params s
  | .cancelExchange m => State.runAct ⟨0x32, m⟩ actCancelExchange
  | .issueFetch m => State.startFetch ⟨0x33, m⟩
  | .listExchanges m => State.runAct ⟨0x34, m⟩ actListExchanges
  | .setStallLimit m => State.runAct ⟨0x38, m⟩ fun params s => actSetStallLimit s.isForwarding false params s
  | .readLanes m => State.runAct ⟨0x39, m⟩ actReadLanes
  | .setLink m => State.runAct ⟨0x40, m⟩ fun params s => actSetLink s.isForwarding false params s
  | .holdBay m => State.runAct ⟨0x41, m⟩ actHoldBay
  | .releaseBay m => State.runAct ⟨0x42, m⟩ actReleaseBay
  | .retrain m => State.runAct ⟨0x43, m⟩ actRetrain
  | .readLink m => State.runAct ⟨0x44, m⟩ actReadLink
  | .setReporting m => State.runAct ⟨0x50, m⟩ fun params s => actSetReporting s.isForwarding false params s
  | .readConditions m => State.runAct ⟨0x51, m⟩ actReadConditions
  | .clearConditions m => State.runAct ⟨0x52, m⟩ actClearConditions
  | .readCapture m => State.runAct ⟨0x53, m⟩ actReadCapture
  | .releaseCapture m => State.runAct ⟨0x54, m⟩ actReleaseCapture
  | .readCounters m => State.runAct ⟨0x55, m⟩ actReadCounters
  | .setStreams m => State.runAct ⟨0x60, m⟩ fun params s => actSetStreams s.isForwarding false params s
  | .ackNotify m first => State.runReleasing ⟨0x61, m⟩ actAckNotify first
  | .maskStream m => State.runAct ⟨0x62, m⟩ actMaskStream
  | .unmaskStream m first => State.runReleasing ⟨0x63, m⟩ actUnmaskStream first
  | .resetRouter m => State.startReset ⟨0x70, m⟩
  | .readLoadReport m => State.runAct ⟨0x71, m⟩ actReadLoadReport
  | .openRouting m => State.runAct ⟨0x72, m⟩ actOpenRouting
  | .closeRouting m => State.runAct ⟨0x73, m⟩ actCloseRouting
  | .identify m => State.runAct ⟨0x01, m⟩ actIdentify
  | .echo m => State.runAct ⟨0x02, m⟩ actEcho
  | .badKindMessage kind m => State.respond ⟨kind, m⟩ .badKind .empty
  | .messageReceive bytes => State.receive bytes
  | .messageAbandoned => State.abandon
  | .responseEntersQueue => State.offerRunning
  | .messageSent => State.messageGone
  | .notify k => State.sendNotify k
  | .fetchDone => State.sendFetchDone
  | .restarted => State.sendRestarted
  | .powerOnReset rate1 rate0 => State.powerOn true rate1 rate0
  | .pornLow => fun s => s.powerOn false s.pins.rate1 s.pins.rate0
  | .resetSymbol p => State.resetArrives p
  | .loadImageRead r => State.loadImage r
  | .loadRecord => State.replay
  | .frameArrival p c bytes => State.frameArrives p c bytes
  | .laneGrant p c => State.grantLane p c
  | .transmitFrame p => State.transmit p
  | .sendCreditReturn p c => State.returnCredit p c
  | .creditReturn p c => State.creditArrives p c
  | .stallTimerRunsOut timer => State.stall timer
  | .deadlineRunsOut tag => State.deadlineEnds tag
  | .quarantineRunsOut tag => State.quarantineEnds tag
  | .quietIntervalEnd p => State.quietEnds p
  | .partnerSignalPresent p => State.tryTraining p
  | .greetingRepeat p => State.repeatGreeting p
  | .greeting p bytes => State.greetingArrives p bytes
  | .accept p => State.acceptArrives p
  | .trainingTimeout p => State.attemptTimesOut p
  | .partnerSignalLoss p => State.signalLost p
  | .damagedWindowExpiry p => State.windowExpires p
  | .frameLastByteSent p => State.lastByte p
  | .startByteFound => State.startByteArrives
  | .bodyLengthOutOfRange hi lo => State.lengthArrives hi lo

/-- The row is run in START as in any other state (R167, R186). -/
def Instr.inStart : Instr → Bool
  | .readLoadReport _ => true
  | .identify _ => true
  | .badKindMessage _ _ => true
  | _ => false

/-- The rows that leave alike what the laws speak of, by name. -/
def Instr.isPlain : Instr → Bool
  | .readRoutes _ | .probeRoute _ | .setQuota _ | .setExchangeTimers _ | .listExchanges _ | .setStallLimit _ | .readLanes _
  | .readLink _ | .setReporting _ | .readConditions _ | .clearConditions _ | .readCapture _ | .releaseCapture _ | .ackNotify _ _
  | .maskStream _ | .unmaskStream _ _ | .readLoadReport _ | .identify _ | .echo _ | .badKindMessage _ _ | .messageReceive _
  | .responseEntersQueue | .messageSent | .notify _ | .fetchDone | .greetingRepeat _ | .startByteFound
  | .bodyLengthOutOfRange _ _ => true
  | _ => false

/-- The rows of traffic: over frames, lanes, entries, links and what waits at them, and the two that clear what they read. -/
def Instr.isTraffic : Instr → Bool
  | .readInbox _ | .issueStore _ | .sendNotice _ | .cancelExchange _ | .issueFetch _ | .holdBay _ | .releaseBay _ | .retrain _
  | .readCounters _ | .messageAbandoned | .frameArrival _ _ _ | .laneGrant _ _ | .transmitFrame _ | .sendCreditReturn _ _
  | .creditReturn _ _ | .stallTimerRunsOut _ | .deadlineRunsOut _ | .quarantineRunsOut _ | .quietIntervalEnd _
  | .partnerSignalPresent _ | .greeting _ _ | .accept _ | .trainingTimeout _ | .partnerSignalLoss _ | .damagedWindowExpiry _
  | .frameLastByteSent _ => true
  | _ => false

/-- The rows that write the route tables (R25). -/
def Instr.writesRoutes : Instr → Bool
  | .setStation _ | .setBayRange _ | .setWindow _ | .setDirected _ | .setPermits _ | .setSpoiled _ => true
  | _ => false

/-- The row may be run in this state: a command is run in START only where R167 lets it be. -/
def Instr.runs (i : Instr) (s : State) : Prop := i.message ≠ none → i.inStart = true ∨ s.inStart = false

/-- What a row answers, by its body: a command is taken first, unless it is a message of a command kind named as a bad one; a power row
and a row of a partner signal act on the pins also while PORN is low. -/
inductive Instr.Answered (i : Instr) (s : State) : Host.Outcome State Fault Refusal → Prop where
  | command (kind : Byte) (m : HostMsg) (hm : i.message = some (kind, m)) :
      Answered i s (event (State.take ⟨kind, m⟩ i.inStart i.body) s)
  | commandKind (kind : Byte) (m : HostMsg) (hi : i = .badKindMessage kind m) : Answered i s (event id s)
  | event (hm : i.message = none) : Answered i s (event i.body s)
  | signal (p : Port) (level : Bool) (hi : i = .partnerSignalPresent p ∨ i = .partnerSignalLoss p) :
      Answered i s (Machine.event i.body (s.setSignal p level))
  | power (hi : (∃ r1 r0, i = .powerOnReset r1 r0) ∨ i = .pornLow) : Answered i s (.next (i.body s))

end Sys2Proof

namespace Sys2Proof.Machine

theorem exec_badKindMessage (kind : Byte) (m : HostMsg) (s : State) :
    exec (.badKindMessage kind m) s
      = if isCommandKind kind then event id s
        else event (State.take ⟨kind, m⟩ true (State.respond ⟨kind, m⟩ .badKind .empty)) s := by
  by_cases h : isCommandKind kind = true
  · simp only [h, if_true]
    simp only [exec, execBadKindMessage, event, h, if_true, id]
  · simp only [Bool.not_eq_true] at h
    simp only [h, exec, execBadKindMessage, event, Bool.false_eq_true, if_false]

/-- Every row is answered by its body. -/
theorem exec_answered (i : Instr) (s : State) : i.Answered s (exec i s) := by
  cases i with
  | badKindMessage kind m =>
    rw [exec_badKindMessage]
    split
    · exact .commandKind kind m rfl
    · exact .command kind m rfl
  | powerOnReset r1 r0 => exact .power (.inl ⟨r1, r0, rfl⟩)
  | pornLow => exact .power (.inr rfl)
  | partnerSignalPresent p => exact .signal p true (.inl rfl)
  | partnerSignalLoss p => exact .signal p false (.inr rfl)
  | setStation m | setBayRange m | setWindow m | setDirected m | setPermits m | setSpoiled m | readRoutes m | probeRoute m
  | readInbox m | issueStore m | sendNotice m | setQuota m | setExchangeTimers m | cancelExchange m | issueFetch m
  | listExchanges m | setStallLimit m | readLanes m | setLink m | holdBay m | releaseBay m | retrain m | readLink m
  | setReporting m | readConditions m | clearConditions m | readCapture m | releaseCapture m | readCounters m | setStreams m
  | ackNotify m _ | maskStream m | unmaskStream m _ | resetRouter m | readLoadReport m | openRouting m | closeRouting m
  | identify m | echo m => exact .command _ m rfl
  | _ => exact .event rfl

end Sys2Proof.Machine
end

section
/-! A law that every step keeps, from a goal for each body: what a law may speak of, and the induction over a step packaged once. -/

namespace Sys2Proof.Machine

/-! ## What taking a command does before its body -/

/-- A command is left as it is, or answered from memory or NOT READY, which touches the management link alone, or its body is run with
its message out of the receive queue, in START only where it may be. -/
theorem State.take_cases (c : Message) (inStart : Bool) (run : State → State) (s : State) :
    (∃ m, s.take c inStart run = { s with management := m })
    ∨ (∃ m, s.take c inStart run = run { s with management := m }) ∧ (inStart = true ∨ s.inStart = false) := by
  have head : ∀ t, s.takeHead c = some t → ∃ m, t = { s with management := m } := by
    intro t ht
    unfold State.takeHead at ht
    dsimp only at ht
    split at ht
    · split at ht <;> split at ht <;> cases ht <;> exact ⟨_, rfl⟩
    · cases ht
  unfold State.take
  split
  · exact .inl ⟨_, rfl⟩
  · rename_i t ht
    obtain ⟨m, rfl⟩ := head t ht
    split
    · exact .inl ⟨_, rfl⟩
    · split
      · exact .inl ⟨_, rfl⟩
      · rename_i hs
        refine .inr ⟨⟨m, rfl⟩, ?_⟩
        cases inStart
        · exact .inr (by simpa [State.inStart] using hs)
        · exact .inl rfl

/-! ## Laws -/

/-- The two states are alike in the blocks that the laws speak of, the management link apart. -/
structure Alike (s t : State) : Prop where
  routes : t.routes = s.routes
  loader : t.loader = s.loader
  ports : t.ports = s.ports
  inbox : t.inbox = s.inbox
  streams : t.notification.streams.length = s.notification.streams.length

theorem Alike.refl (s : State) : Alike s s := ⟨rfl, rfl, rfl, rfl, rfl⟩

theorem Alike.trans {s t u : State} (h : Alike s t) (k : Alike t u) : Alike s u :=
  ⟨k.routes.trans h.routes, k.loader.trans h.loader, k.ports.trans h.ports, k.inbox.trans h.inbox, k.streams.trans h.streams⟩

theorem Alike.withManagement (m : ManagementLink) (s : State) : Alike s { s with management := m } := ⟨rfl, rfl, rfl, rfl, rfl⟩

theorem Alike.noteWaiting (s : State) : Alike s s.noteWaiting := .withManagement _ s

theorem Alike.setSignal (p : Port) (b : Bool) (s : State) : Alike s (s.setSignal p b) := ⟨rfl, rfl, rfl, rfl, rfl⟩

theorem Alike.respond (c : Message) (st : Status) (v : Values) (s : State) : Alike s (s.respond c st v) := .withManagement _ s

theorem Alike.emit (e : Emission) (s : State) : Alike s (s.emit e) := ⟨rfl, rfl, rfl, rfl, rfl⟩

theorem Alike.latch (i : SetId) (c : Condition) (s : State) : Alike s (s.latch i c) := by
  constructor <;> simp

theorem Alike.detect (o : Origin) (c : Condition) (x : Subject) (s : State) : Alike s (s.detect o c x) := by
  constructor <;> simp

theorem Alike.setEntry (i : RouterTag) (e : Entry) (s : State) : Alike s (s.setEntry i e) := ⟨rfl, rfl, rfl, rfl, rfl⟩

theorem Alike.withHostFetch (h : HostFetch) (s : State) : Alike s { s with hostFetch := h } := ⟨rfl, rfl, rfl, rfl, rfl⟩

theorem Alike.sendUnsolicited (w : Waiter) (k : Byte) (b : Body) (s : State) : Alike s (s.sendUnsolicited w k b) :=
  .withManagement _ s

theorem Alike.offerResponse (c : Message) (r : OutMessage) (s : State) : Alike s (s.offerResponse c r) := by
  unfold State.offerResponse
  split
  · exact .withManagement _ s
  · exact .withManagement _ s

/-- A property of states is a law when it speaks of those blocks alone. -/
def Law (P : State → Prop) : Prop := ∀ s t, Alike s t → P s → P t

/-- An act moves the state as `R` allows, whatever its parameters. -/
def Act.Moves (R : State → State → Prop) (act : Act) : Prop := ∀ params s r, act params s = some r → R s r.state

/-- A law is kept by a step when every body keeps it where it may be run, and time. -/
theorem step_keeps {P : State → Prop} (law : Law P) (time : ∀ s, P s → P (s.elapse 1))
    (body : ∀ (i : Instr) s, i.runs s → P s → P (i.body s))
    {s t : State} (hs : P s) (h : s.stepsTo t) : P t := by
  have event : ∀ (f : State → State) (u : State), P u → (P u → P (f u)) → ∀ v, Machine.event f u = .next v → P v := by
    intro f u hu hf v hv
    unfold Machine.event at hv
    split at hv <;> cases hv
    · exact law _ _ (.noteWaiting _) (hf hu)
    · exact hu
  unfold State.stepsTo step at h
  split at h
  · cases h
    unfold State.tick
    split
    · exact time s hs
    · exact hs
  · rename_i i rest _
    have hu : P { s with pending := rest } := law s _ ⟨rfl, rfl, rfl, rfl, rfl⟩ hs
    generalize { s with pending := rest } = u at h hu
    have answered := exec_answered i u
    rw [h] at answered
    generalize hout : (Host.Outcome.next t : Host.Outcome State Fault Refusal) = out at answered
    cases answered with
    | command kind m hm =>
      refine event _ u hu (fun hu => ?_) t hout.symm
      rcases State.take_cases ⟨kind, m⟩ i.inStart i.body u with ⟨n, e⟩ | ⟨⟨n, e⟩, hs⟩
      · rw [e]; exact law _ _ (.withManagement n u) hu
      · rw [e]; exact body i _ (fun _ => hs) (law _ _ (.withManagement n u) hu)
    | commandKind kind m _ => exact event id u hu (fun hu => hu) t hout.symm
    | event hm => exact event _ u hu (body i u fun h => absurd hm h) t hout.symm
    | signal p level hi =>
      refine event _ _ (law _ _ (.setSignal p level u) hu) (body i _ fun h => absurd ?_ h) t hout.symm
      rcases hi with rfl | rfl <;> rfl
    | power hi =>
      cases hout
      refine body i u (fun h => absurd ?_ h) hu
      rcases hi with ⟨r1, r0, rfl⟩ | rfl <;> rfl

/-- A command run whole keeps a law when its act does. -/
theorem runAct_keeps {P : State → Prop} (law : Law P) {act : Act} (h : act.Moves fun s t => P s → P t) (c : Message) {s : State}
    (hs : P s) : P (State.runAct c act s) := by
  unfold State.runAct
  split
  · exact law _ _ (.respond _ _ _ _) hs
  · rename_i r hr
    exact law _ _ (.respond _ _ _ _) (h _ _ _ hr hs)

theorem runReleasing_keeps {P : State → Prop} (law : Law P) (notify : ∀ k s, P s → P (State.sendNotify k s)) {act : Act}
    (h : act.Moves fun s t => P s → P t) (c : Message) (first : Bool) {s : State} (hs : P s) :
    P (State.runReleasing c act first s) := by
  have before : ∀ params t, P t → P (t.notifyBefore first params) := by
    intro params t ht
    unfold State.notifyBefore
    split
    · split
      · exact notify _ t ht
      · exact ht
    · exact ht
  unfold State.runReleasing
  split
  · exact law _ _ (.respond _ _ _ _) hs
  · rename_i r hr
    have hr := h _ _ _ hr hs
    split
    · exact law _ _ (.offerResponse _ _ _) (before _ _ hr)
    · exact law _ _ (.respond _ _ _ _) hr

end Sys2Proof.Machine
end

section
/-! The rows that leave alike what the laws speak of: those that read, those that set what no law speaks of, and those of the
management link. -/

namespace Sys2Proof.Machine

/-! ## Acts -/

@[simp] theorem done_state (v : Values) (s : State) : (done v s).state = s := rfl

@[simp] theorem refuse_state (st : Status) (s : State) : (refuse st s).state = s := rfl

theorem Act.Moves.mono {R Q : State → State → Prop} {act : Act} (h : act.Moves R) (k : ∀ s t, R s t → Q s t) : act.Moves Q :=
  fun params s r hr => k _ _ (h params s r hr)

/-- A setting's act moves the state as `R` allows, whatever the router state its checks take and whatever the fix flag. -/
def SettingAct.Moves (R : State → State → Prop) (act : SettingAct) : Prop := ∀ forwarding fix, Act.Moves R (act forwarding fix)

/-- The host's command of a setting. -/
theorem SettingAct.Moves.host {R : State → State → Prop} {act : SettingAct} (h : act.Moves R) :
    Act.Moves R fun params s => act s.isForwarding false params s := fun params s => h _ _ params s

/-- An item is refused, or written with the value given and its mark. -/
theorem writeItem_moves {R : State → State → Prop} {α : Type} [DecidableEq α] {x : Setting α} {v : α} {fix : Bool} {s : State}
    {next : Setting α → Reply} (refl : R s s) (h : R s (next ⟨v, x.fixed || fix⟩).state) :
    R s (writeItem x v fix s next).state := by
  unfold writeItem Setting.write
  split_ifs
  · exact refl
  · exact h

theorem actReadRoutes_reads : actReadRoutes.Moves (fun s t => t = s) := by
  intro params s r h
  unfold actReadRoutes at h
  split at h <;> cases h
  repeat' split
  all_goals rfl

theorem actProbeRoute_reads : actProbeRoute.Moves (fun s t => t = s) := by
  intro params s r h
  unfold actProbeRoute probeRequest probeNotice at h
  split at h
  · split at h <;> cases h
    · repeat' split
      all_goals rfl
    · repeat' split
      all_goals rfl
    · rfl
  · cases h

theorem actListExchanges_reads : actListExchanges.Moves (fun s t => t = s) := by
  intro params s r h
  unfold actListExchanges at h
  split at h <;> cases h
  split <;> rfl

theorem actReadLanes_reads : actReadLanes.Moves (fun s t => t = s) := by
  intro params s r h
  unfold actReadLanes at h
  split at h <;> cases h
  split <;> rfl

theorem actReadLink_reads : actReadLink.Moves (fun s t => t = s) := by
  intro params s r h
  unfold actReadLink at h
  split at h <;> cases h
  split <;> rfl

theorem actReadConditions_reads : actReadConditions.Moves (fun s t => t = s) := by
  intro params s r h
  unfold actReadConditions at h
  split at h <;> cases h
  split <;> rfl

theorem actReadCapture_reads : actReadCapture.Moves (fun s t => t = s) := by
  intro params s r h
  unfold actReadCapture at h
  split at h <;> cases h
  split <;> rfl

theorem actReadLoadReport_reads : actReadLoadReport.Moves (fun s t => t = s) := by
  intro params s r h
  unfold actReadLoadReport at h
  split at h <;> cases h
  rfl

theorem actIdentify_reads : actIdentify.Moves (fun s t => t = s) := by
  intro params s r h
  unfold actIdentify at h
  split at h <;> cases h
  rfl

theorem actEcho_reads : actEcho.Moves (fun s t => t = s) := by
  intro params s r h
  unfold actEcho at h
  split at h <;> cases h
  rfl

/-- What a command sets no law speaks of, and the management link is as it was. -/
structure Sets (s t : State) : Prop extends Alike s t where
  management : t.management = s.management

theorem Sets.refl (s : State) : Sets s s := ⟨.refl s, rfl⟩

theorem Act.Moves.sets {act : Act} (h : act.Moves (fun s t => t = s)) : act.Moves Sets :=
  h.mono fun s _ e => e ▸ Sets.refl s

theorem actSetQuota_sets : actSetQuota.Moves Sets := by
  intro forwarding fix params s r h
  unfold actSetQuota setQuotaTo at h
  split at h
  · split at h <;> cases h
    · split
      · exact .refl s
      · exact writeItem_moves (.refl s) ⟨⟨rfl, rfl, rfl, rfl, rfl⟩, rfl⟩
    · exact .refl s
  · cases h

theorem actSetExchangeTimers_sets : actSetExchangeTimers.Moves Sets := by
  intro forwarding fix params s r h
  unfold actSetExchangeTimers setTimersTo at h
  split at h <;> cases h
  split
  · exact .refl s
  · exact writeItem_moves (.refl s) ⟨⟨rfl, rfl, rfl, rfl, rfl⟩, rfl⟩

theorem actSetStallLimit_sets : actSetStallLimit.Moves Sets := by
  intro forwarding fix params s r h
  unfold actSetStallLimit at h
  split at h <;> cases h
  split
  · exact .refl s
  · exact writeItem_moves (.refl s) ⟨⟨rfl, rfl, rfl, rfl, rfl⟩, rfl⟩

theorem actSetReporting_sets : actSetReporting.Moves Sets := by
  intro forwarding fix params s r h
  unfold actSetReporting at h
  split at h
  · rw [Option.map_eq_some_iff] at h
    obtain ⟨items, _, rfl⟩ := h
    split
    · split
      · exact writeItem_moves (.refl s) ⟨⟨rfl, rfl, rfl, rfl, rfl⟩, rfl⟩
      · exact .refl s
    · exact .refl s
  · cases h

theorem actClearConditions_sets : actClearConditions.Moves Sets := by
  intro params s r h
  unfold actClearConditions clearConditions at h
  split at h
  · split at h
    · split at h
      · cases h; exact ⟨⟨rfl, rfl, rfl, rfl, rfl⟩, rfl⟩
      · rw [Option.map_eq_some_iff] at h
        obtain ⟨items, _, rfl⟩ := h
        split
        · exact .refl s
        · split
          · exact ⟨⟨rfl, rfl, rfl, rfl, rfl⟩, rfl⟩
          · exact .refl s
    · split at h
      · cases h; exact .refl s
      · rw [Option.map_eq_some_iff] at h
        obtain ⟨items, _, rfl⟩ := h
        exact .refl s
  · cases h

theorem actReleaseCapture_sets : actReleaseCapture.Moves Sets := by
  intro params s r h
  unfold actReleaseCapture at h
  split at h <;> cases h
  split
  · exact ⟨⟨rfl, rfl, rfl, rfl, rfl⟩, rfl⟩
  · exact ⟨⟨rfl, rfl, rfl, rfl, rfl⟩, rfl⟩
  · exact .refl s
  · exact .refl s
  · exact .refl s

/-- A stream changed leaves as many streams. -/
theorem Sets.doneStreams_modStream (k : Nat) (f : Stream → Stream) (s : State) :
    Sets s (doneStreams (s.notification.modStream k f) s).state :=
  ⟨⟨rfl, rfl, rfl, rfl, List.length_modify _ _ _⟩, rfl⟩

theorem withStream_sets {params : List Byte} {s : State} {f : Nat → Stream → Reply} {r : Reply}
    (hf : ∀ k x, Sets s (f k x).state) (h : withStream params s f = some r) : Sets s r.state := by
  unfold withStream at h
  split at h <;> cases h
  split
  · exact .refl s
  · split
    · exact hf _ _
    · exact .refl s

theorem actAckNotify_sets : actAckNotify.Moves Sets := fun _ s _ h =>
  withStream_sets (fun k x => by
    split
    · exact .doneStreams_modStream _ _ s
    · exact .refl s) h

theorem actMaskStream_sets : actMaskStream.Moves Sets := fun _ s _ h =>
  withStream_sets (fun _ _ => .doneStreams_modStream _ _ s) h

theorem actUnmaskStream_sets : actUnmaskStream.Moves Sets := fun _ s _ h =>
  withStream_sets (fun _ _ => .doneStreams_modStream _ _ s) h

/-! ## Events of the management link -/

theorem Alike.sendNotify (k : Fin 4) (s : State) : Alike s (s.sendNotify k) := by
  unfold State.sendNotify
  dsimp only
  split
  · exact ⟨rfl, rfl, rfl, rfl, List.length_modify _ _ _⟩
  · exact .refl s

theorem Alike.offerRunning (s : State) : Alike s s.offerRunning := by
  unfold State.offerRunning
  split
  · split
    · exact .withManagement _ s
    · exact .refl s
  · exact .refl s

theorem Alike.messageGone (s : State) : Alike s s.messageGone := by
  unfold State.messageGone
  split
  · exact ⟨rfl, rfl, rfl, rfl, rfl⟩
  · exact .refl s

theorem Alike.sendFetchDone (s : State) : Alike s s.sendFetchDone := by
  unfold State.sendFetchDone
  split
  · split
    · exact ⟨rfl, rfl, rfl, rfl, rfl⟩
    · exact .refl s
  · exact .refl s
  · exact .refl s

theorem Alike.received (e : ReceiverEvent) (s : State) : Alike s (s.received e) := by
  unfold State.received State.messageArrives
  split
  · dsimp only
    split
    · exact .withManagement _ s
    · split
      · exact ⟨rfl, rfl, rfl, rfl, rfl⟩
      · exact ⟨rfl, rfl, rfl, rfl, rfl⟩
  · exact ⟨rfl, rfl, rfl, rfl, rfl⟩

theorem Alike.afterScan (found : List ReceiverEvent × Option (List Byte)) (s : State) : Alike s (s.afterScan found) := by
  have fold : ∀ (es : List ReceiverEvent) (t : State), Alike t (es.foldl (fun s e => (s.received e).noteWaiting) t) := by
    intro es
    induction es with
    | nil => exact .refl
    | cons e es ih => exact fun t => ((Alike.received e t).trans (.noteWaiting _)).trans (ih _)
  exact (fold found.1 s).trans (.withManagement _ _)

theorem Alike.receive (bytes : List Byte) (s : State) : Alike s (s.receive bytes) := by
  unfold State.receive
  split
  · exact .refl s
  · exact .afterScan _ s

theorem Alike.startByteArrives (s : State) : Alike s s.startByteArrives := by
  unfold State.startByteArrives
  split
  · exact .receive _ s
  · exact .refl s

theorem Alike.lengthArrives (hi lo : Byte) (s : State) : Alike s (s.lengthArrives hi lo) := by
  unfold State.lengthArrives
  split
  · split
    · exact .receive _ s
    · exact .refl s
  · exact .refl s

theorem Alike.repeatGreeting (p : Port) (s : State) : Alike s (s.repeatGreeting p) := by
  unfold State.repeatGreeting
  split
  · split
    · exact .refl s
    · exact .emit _ s
  · exact .refl s

/-! ## Rows -/

theorem Act.Moves.runAct_alike {act : Act} (h : act.Moves Sets) (c : Message) (s : State) : Alike s (State.runAct c act s) :=
  runAct_keeps (P := Alike s) (fun _ _ k hs => hs.trans k) (h.mono fun _ _ k hs => hs.trans k.toAlike) c (.refl s)

theorem Act.Moves.runReleasing_alike {act : Act} (h : act.Moves Sets) (c : Message) (first : Bool) (s : State) :
    Alike s (State.runReleasing c act first s) :=
  runReleasing_keeps (P := Alike s) (fun _ _ k hs => hs.trans k) (fun k t hs => hs.trans (.sendNotify k t))
    (h.mono fun _ _ k hs => hs.trans k.toAlike) c first (.refl s)

/-- The plain rows leave alike what the laws speak of. -/
theorem body_alike {i : Instr} (h : i.isPlain = true) (s : State) : Alike s (i.body s) := by
  cases i with
  | readRoutes m => exact actReadRoutes_reads.sets.runAct_alike _ s
  | probeRoute m => exact actProbeRoute_reads.sets.runAct_alike _ s
  | setQuota m => exact actSetQuota_sets.host.runAct_alike _ s
  | setExchangeTimers m => exact actSetExchangeTimers_sets.host.runAct_alike _ s
  | listExchanges m => exact actListExchanges_reads.sets.runAct_alike _ s
  | setStallLimit m => exact actSetStallLimit_sets.host.runAct_alike _ s
  | readLanes m => exact actReadLanes_reads.sets.runAct_alike _ s
  | readLink m => exact actReadLink_reads.sets.runAct_alike _ s
  | setReporting m => exact actSetReporting_sets.host.runAct_alike _ s
  | readConditions m => exact actReadConditions_reads.sets.runAct_alike _ s
  | clearConditions m => exact actClearConditions_sets.runAct_alike _ s
  | readCapture m => exact actReadCapture_reads.sets.runAct_alike _ s
  | releaseCapture m => exact actReleaseCapture_sets.runAct_alike _ s
  | ackNotify m first => exact actAckNotify_sets.runReleasing_alike _ first s
  | maskStream m => exact actMaskStream_sets.runAct_alike _ s
  | unmaskStream m first => exact actUnmaskStream_sets.runReleasing_alike _ first s
  | readLoadReport m => exact actReadLoadReport_reads.sets.runAct_alike _ s
  | identify m => exact actIdentify_reads.sets.runAct_alike _ s
  | echo m => exact actEcho_reads.sets.runAct_alike _ s
  | badKindMessage kind m => exact .respond _ _ _ s
  | messageReceive bytes => exact .receive bytes s
  | responseEntersQueue => exact .offerRunning s
  | messageSent => exact .messageGone s
  | notify k => exact .sendNotify k s
  | fetchDone => exact .sendFetchDone s
  | greetingRepeat p => exact .repeatGreeting p s
  | startByteFound => exact .startByteArrives s
  | bodyLengthOutOfRange hi lo => exact .lengthArrives hi lo s
  | _ => cases h

end Sys2Proof.Machine
end

section
/-! The rows of traffic keep what traffic keeps (`Kept`): the settings, the router state and the receive queue. -/

namespace Sys2Proof.Machine

/-! ## Host requests -/

theorem Kept.withManagement {m : ManagementLink} {s : State} (h : m.receiveQueue = s.management.receiveQueue) :
    Kept s { s with management := m } :=
  ⟨rfl, rfl, rfl, rfl, rfl, fun _ => rfl, rfl, rfl, rfl, rfl, rfl, h⟩

theorem Kept.respond (c : Message) (st : Status) (v : Values) (s : State) : Kept s (s.respond c st v) := .withManagement rfl

theorem Kept.awaitHost (c : Message) (r : Request Unit) (d : Port) (s : State) : Kept s (s.awaitHost c r d) :=
  (Kept.withManagement (m := { s.management with running := some ⟨c, .awaitLane r d s.stallLimit.value⟩ }) rfl).trans
    (.offerRequestLane d .m _)

theorem Kept.hostInbox (c : Message) (r : Request Unit) (s : State) : Kept s (s.hostInbox c r) := by
  unfold State.hostInbox
  split
  · split
    · exact (Kept.appendInbox _ s).trans (.respond _ _ _ _)
    · exact (Kept.appendInbox _ s).trans (.respond _ _ _ _)
  · exact .refl s

theorem Kept.issueHost (c : Message) (r : Request Unit) (s : State) : Kept s (s.issueHost c r) := by
  have h : Kept s (if r.spoiled then s.detect .m .spoiled r.hostSubject else s) := by
    split
    · exact .detect _ _ _ s
    · exact .refl s
  unfold State.issueHost
  generalize (if r.spoiled then s.detect .m .spoiled r.hostSubject else s) = t at h
  refine h.trans ?_
  dsimp only
  split
  · exact .awaitHost c r _ t
  · exact .hostInbox c r t
  · exact (Kept.detect _ _ _ t).trans (.respond _ _ _ _)
  · exact (Kept.detect _ _ _ t).trans (.respond _ _ _ _)

theorem Kept.startStore (c : Message) (s : State) : Kept s (s.startStore c) := by
  unfold State.startStore
  split
  · exact .respond _ _ _ s
  · split
    · split
      · exact .respond _ _ _ s
      · exact .issueHost c _ s
    · exact .respond _ _ _ s

theorem Kept.startNotice (c : Message) (s : State) : Kept s (s.startNotice c) := by
  unfold State.startNotice
  split
  · split
    · exact .respond _ _ _ s
    · exact .issueHost c _ s
  · exact .respond _ _ _ s

theorem Kept.startFetch (c : Message) (s : State) : Kept s (s.startFetch c) := by
  unfold State.startFetch
  split
  · dsimp only
    split
    · exact .respond _ _ _ s
    · split
      · exact .respond _ _ _ s
      · exact .issueHost c _ s
  · exact .respond _ _ _ s

/-! ## Commands run whole -/

theorem Act.Moves.runAct_kept {act : Act} (h : act.Moves Kept) (c : Message) (s : State) : Kept s (State.runAct c act s) := by
  unfold State.runAct
  split
  · exact .respond _ _ _ s
  · rename_i r hr
    exact (h _ _ _ hr).trans (.respond _ _ _ _)

theorem actReadInbox_kept : actReadInbox.Moves Kept := by
  intro params s r h
  unfold actReadInbox at h
  split at h <;> cases h
  split
  · exact .refl s
  · exact .withInbox _ s

theorem actReadCounters_kept : actReadCounters.Moves Kept := by
  intro params s r h
  unfold actReadCounters at h
  split at h <;> cases h
  split
  · dsimp only [done]
    split
    · exact .modPort _ _ s rfl
    · exact .refl s
  · dsimp only [done]
    split
    · exact .countRouter _ s
    · exact .refl s
  · exact .refl s

theorem actCancelExchange_kept : actCancelExchange.Moves Kept := by
  intro params s r h
  unfold actCancelExchange cancelEntry at h
  split at h <;> cases h
  split
  · split
    · exact .endAndRematch _ _ s
    · exact .endAndRematch _ _ s
    · exact .refl s
    · exact .refl s
  · exact .refl s

theorem holdBayTo_kept (b : Bay) (s : State) : Kept s (holdBayTo b s).state := by
  unfold holdBayTo
  dsimp only
  split
  · rw [done_state]; exact ((Kept.emit _ s).trans (.leaveUp _ _ _ _)).trans (.modPort _ _ _ rfl)
  · exact .refl s
  · exact .refl s
  · rw [done_state]; exact .modPort _ _ s rfl
  · rw [done_state]; exact .modPort _ _ s rfl
  · rw [done_state]; exact .modPort _ _ s rfl

theorem actHoldBay_kept : actHoldBay.Moves Kept := by
  intro params s r h
  unfold actHoldBay at h
  split at h <;> cases h
  split
  · exact holdBayTo_kept _ s
  · exact .refl s

theorem downFrom_kept (old : Link) (p : Port) (s : State) : Kept s (downFrom old p s).state := by
  unfold downFrom
  split
  · rw [done_state]; exact .modPort _ _ s rfl
  · exact .refl s

theorem actReleaseBay_kept : actReleaseBay.Moves Kept := by
  intro params s r h
  unfold actReleaseBay at h
  split at h <;> cases h
  split
  · exact downFrom_kept _ _ s
  · exact .refl s

theorem actRetrain_kept : actRetrain.Moves Kept := by
  intro params s r h
  unfold actRetrain at h
  split at h <;> cases h
  split
  · exact downFrom_kept _ _ s
  · exact .refl s

/-! ## Events -/

theorem Kept.abandon (s : State) : Kept s s.abandon := by
  unfold State.abandon
  split
  · exact (Kept.elapse _ s).trans (.withManagement rfl)
  · exact .refl s

theorem Kept.returnCredit (p : Port) (c : FrameClass) (s : State) : Kept s (s.returnCredit p c) := by
  unfold State.returnCredit
  dsimp only
  split
  · exact (Kept.modPort _ _ s rfl).trans (.emit _ _)
  · exact .refl s

theorem Kept.creditArrives (p : Port) (c : FrameClass) (s : State) : Kept s (s.creditArrives p c) := by
  unfold State.creditArrives
  dsimp only
  split
  · split
    · exact .modPort _ _ s rfl
    · exact .refl s
  · exact .refl s

theorem Kept.quarantineEnds (i : RouterTag) (s : State) : Kept s (s.quarantineEnds i) := by
  unfold State.quarantineEnds
  split
  · exact (Kept.elapse _ s).trans (.setEntry _ _ _)
  · exact .refl s
  · exact .refl s
  · exact .refl s

theorem Kept.setLink (p : Port) (l : Link) (s : State) : Kept s (s.setLink p l) := .modPort _ _ s rfl

theorem Kept.tryTraining (p : Port) (s : State) : Kept s (s.tryTraining p) := by
  unfold State.tryTraining
  split
  · split
    · exact .startTraining p s
    · exact .refl s
  · exact .refl s

theorem Kept.quietEnds (p : Port) (s : State) : Kept s (s.quietEnds p) := by
  unfold State.quietEnds
  split
  · exact ((Kept.elapse _ s).trans (.setLink _ _ _)).trans (.tryTraining _ _)
  · exact .refl s

theorem Kept.progress (p : Port) (a : Attempt) (s : State) : Kept s (s.progress p a) := by
  unfold State.progress
  split
  · split
    · exact .comeUp _ _ s
    · exact .setLink _ _ s
  · exact .setLink _ _ s

theorem Kept.greetingArrives (p : Port) (bytes : List Byte) (s : State) : Kept s (s.greetingArrives p bytes) := by
  unfold State.greetingArrives State.greetingInTraining
  split
  · split
    · exact .damaged _ s
    · exact .emit _ s
    · exact .failAttempt _ _ s
    · exact (Kept.emit _ s).trans (.progress _ _ _)
  · split
    · exact .damaged _ s
    · exact .leaveUp _ _ _ s
  · exact .refl s

theorem Kept.acceptArrives (p : Port) (s : State) : Kept s (s.acceptArrives p) := by
  unfold State.acceptArrives
  split
  · split
    · exact .progress _ _ s
    · exact .refl s
  · exact .refl s

theorem Kept.attemptTimesOut (p : Port) (s : State) : Kept s (s.attemptTimesOut p) := by
  unfold State.attemptTimesOut
  split
  · exact (Kept.elapse _ s).trans (.failAttempt _ _ _)
  · exact .refl s

theorem Kept.signalLost (p : Port) (s : State) : Kept s (s.signalLost p) := by
  unfold State.signalLost
  split
  · exact .leaveUp _ _ _ s
  · exact .setLink _ _ s
  · exact .refl s

theorem Kept.windowExpires (p : Port) (s : State) : Kept s (s.windowExpires p) := by
  unfold State.windowExpires
  split
  · exact (Kept.elapse _ s).trans (.modPort _ _ _ rfl)
  · exact .refl s

theorem Kept.lastByte (p : Port) (s : State) : Kept s (s.lastByte p) := by
  unfold State.lastByte
  split
  · exact (Kept.modPort _ _ s rfl).trans (.emit _ _)
  · exact .refl s

/-- The rows of traffic keep what traffic keeps. -/
theorem body_kept {i : Instr} (h : i.isTraffic = true) (s : State) : Kept s (i.body s) := by
  cases i with
  | readInbox m => exact actReadInbox_kept.runAct_kept _ s
  | issueStore m => exact .startStore _ s
  | sendNotice m => exact .startNotice _ s
  | cancelExchange m => exact actCancelExchange_kept.runAct_kept _ s
  | issueFetch m => exact .startFetch _ s
  | holdBay m => exact actHoldBay_kept.runAct_kept _ s
  | releaseBay m => exact actReleaseBay_kept.runAct_kept _ s
  | retrain m => exact actRetrain_kept.runAct_kept _ s
  | readCounters m => exact actReadCounters_kept.runAct_kept _ s
  | messageAbandoned => exact .abandon s
  | frameArrival p c bytes => exact .frameArrives p c bytes s
  | laneGrant p c => exact .grantLane p c s
  | transmitFrame p => exact .transmit p s
  | sendCreditReturn p c => exact .returnCredit p c s
  | creditReturn p c => exact .creditArrives p c s
  | stallTimerRunsOut timer => exact .stall timer s
  | deadlineRunsOut tag => exact .deadlineEnds tag s
  | quarantineRunsOut tag => exact .quarantineEnds tag s
  | quietIntervalEnd p => exact .quietEnds p s
  | partnerSignalPresent p => exact .tryTraining p s
  | greeting p bytes => exact .greetingArrives p bytes s
  | accept p => exact .acceptArrives p s
  | trainingTimeout p => exact .attemptTimesOut p s
  | partnerSignalLoss p => exact .signalLost p s
  | damagedWindowExpiry p => exact .windowExpires p s
  | frameLastByteSent p => exact .lastByte p s
  | _ => cases h

end Sys2Proof.Machine
end

section
/-! The proof that every step keeps the laws of the route tables (R26 to R29): what a written station, range or window asks of the
tables, and the rows that write one. -/

namespace Sys2Proof.Machine

/-! ## Ranges and windows that share nothing -/

theorem Bay.mem_all (b : Bay) : b ∈ Bay.all := by cases b <;> decide

theorem Bay.any_all_eq_false {f : Bay → Bool} : Bay.all.any f = false ↔ ∀ b, f b = false := by
  simp [List.any_eq_false, Bay.mem_all]

theorem StationRange.holds_iff (x : StationRange) (st : Byte) :
    x.holds st = true ↔ x.first ≠ 0 ∧ x.first ≤ st ∧ st ≤ x.last := by
  simp only [StationRange.holds, StationRange.isEmpty, Bool.and_eq_true, Bool.not_eq_true', Bool.or_eq_false_iff, beq_eq_false_iff_ne,
    decide_eq_false_iff_not, decide_eq_true_eq, ne_eq]
  constructor
  · rintro ⟨⟨⟨h0, _⟩, hf⟩, hl⟩
    exact ⟨h0, hf, hl⟩
  · rintro ⟨h0, hf, hl⟩
    exact ⟨⟨⟨h0, BitVec.not_lt.mpr (BitVec.le_trans hf hl)⟩, hf⟩, hl⟩

/-- Two ranges that hold one station share a station. -/
theorem StationRange.shares_of_holds {x y : StationRange} {st : Byte} (hx : x.holds st = true) (hy : y.holds st = true) :
    x.shares y = true := by
  obtain ⟨hx0, hxf, hxl⟩ := (x.holds_iff st).mp hx
  obtain ⟨hy0, hyf, hyl⟩ := (y.holds_iff st).mp hy
  have hxe : x.last < x.first ↔ False := iff_false_intro (BitVec.not_lt.mpr (BitVec.le_trans hxf hxl))
  have hye : y.last < y.first ↔ False := iff_false_intro (BitVec.not_lt.mpr (BitVec.le_trans hyf hyl))
  have hxy : x.first ≤ y.last := BitVec.le_trans hxf hyl
  have hyx : y.first ≤ x.last := BitVec.le_trans hyf hxl
  simpa [StationRange.shares, StationRange.isEmpty, hxe, hye, hxy, hyx] using And.intro hx0 hy0

theorem Window.holds_iff (w : Window) (a : Word32) : w.holds a = true ↔ w.base ≤ a ∧ a ≤ w.limit := by
  simp [Window.holds]

/-- Two windows that hold one point share a point. -/
theorem Window.shares_of_holds {x y : Window} {a : Word32} (hx : x.holds a = true) (hy : y.holds a = true) :
    x.shares y = true := by
  obtain ⟨hxb, hxl⟩ := (x.holds_iff a).mp hx
  obtain ⟨hyb, hyl⟩ := (y.holds_iff a).mp hy
  simp [Window.shares, Window.isOpen, BitVec.le_trans hxb hxl, BitVec.le_trans hyb hyl, BitVec.le_trans hxb hyl,
    BitVec.le_trans hyb hxl]

/-! ## The tables after a write -/

/-- Tables with the same ranges, windows and own station are under the same laws. -/
theorem RouteLaw.of_same {r q : RouteTables} (h : RouteLaw r) (own : q.ownStation.value = r.ownStation.value)
    (range : ∀ b, (q.bays.get b).range = (r.bays.get b).range) (window : ∀ b k, (q.bays.get b).window k = (r.bays.get b).window k) :
    RouteLaw q where
  ranges b c st := by rw [range, range]; exact h.ranges b c st
  ownStation b := by rw [own, range]; exact h.ownStation b
  windows b c k l a := by rw [window, window]; exact h.windows b c k l a
  aligned b k := by rw [window]; exact h.aligned b k

theorem RouteLaw.withStation {r : RouteTables} (h : RouteLaw r) {y : Setting Byte}
    (hy : y.value ≠ 0 → r.inSomeRange y.value = false) : RouteLaw { r with ownStation := y } where
  ranges := h.ranges
  ownStation b hb hold := by
    have free := Bay.any_all_eq_false.mp (hy hb) b
    exact absurd (hold.symm.trans free) (by decide)
  windows := h.windows
  aligned := h.aligned

theorem PerBay.get_set_cases {α : Type} (v : PerBay α) (b c : Bay) (a : α) :
    (c = b ∧ (v.set b a).get c = a) ∨ (c ≠ b ∧ (v.set b a).get c = v.get c) := by
  by_cases e : c = b
  · exact .inl ⟨e, by rw [e, PerBay.get_set_same]⟩
  · exact .inr ⟨e, PerBay.get_set_ne v a e⟩

theorem RouteLaw.withRange {r : RouteTables} (h : RouteLaw r) {b : Bay} {y : Setting StationRange}
    (hy : r.rangeConflict b y.value = false) :
    RouteLaw { r with bays := r.bays.set b { r.bays.get b with range := y } } := by
  obtain ⟨others, own⟩ := Bool.or_eq_false_iff.mp hy
  have alone : ∀ c, c ≠ b → ∀ st, y.value.holds st = true → (r.bays.get c).range.value.holds st = true → False := by
    intro c hc st hst hcst
    have free := Bay.any_all_eq_false.mp others c
    rw [StationRange.shares_of_holds hst hcst, Bool.and_true] at free
    exact hc (by simpa using free)
  have range : ∀ c, (c = b ∧ ((r.bays.set b { r.bays.get b with range := y }).get c).range = y)
      ∨ (c ≠ b ∧ ((r.bays.set b { r.bays.get b with range := y }).get c).range = (r.bays.get c).range) := fun c =>
    (PerBay.get_set_cases r.bays b c { r.bays.get b with range := y }).imp
      (fun ⟨e, k⟩ => ⟨e, congrArg BayRecord.range k⟩) (fun ⟨e, k⟩ => ⟨e, congrArg BayRecord.range k⟩)
  have window : ∀ c k, ((r.bays.set b { r.bays.get b with range := y }).get c).window k = (r.bays.get c).window k := by
    intro c k
    rcases PerBay.get_set_cases r.bays b c { r.bays.get b with range := y } with ⟨e, g⟩ | ⟨_, g⟩
    · rw [g, e]; cases k <;> rfl
    · rw [g]
  constructor
  case ranges =>
    intro c d st hc hd
    dsimp only at hc hd
    rcases range c with ⟨ec, gc⟩ | ⟨ec, gc⟩ <;> rcases range d with ⟨ed, gd⟩ | ⟨ed, gd⟩ <;> rw [gc] at hc <;> rw [gd] at hd
    · exact ec.trans ed.symm
    · exact absurd hd (alone d ed st hc)
    · exact absurd hc (alone c ec st hd)
    · exact h.ranges c d st hc hd
  case ownStation =>
    intro c h0 hc
    dsimp only at h0 hc
    rcases range c with ⟨_, gc⟩ | ⟨_, gc⟩ <;> rw [gc] at hc
    · rw [hc, Bool.and_true] at own
      exact h0 (by simpa using own)
    · exact h.ownStation c h0 hc
  case windows =>
    intro c d k l a
    dsimp only
    rw [window, window]
    exact h.windows c d k l a
  case aligned =>
    intro c k
    dsimp only
    rw [window]
    exact h.aligned c k

theorem BayRecord.window_setWindow (x : BayRecord) (k l : WindowKind) (w : Setting Window) :
    (x.setWindow k w).window l = if l = k then w else x.window l := by
  cases k <;> cases l <;> rfl

theorem BayRecord.range_setWindow (x : BayRecord) (k : WindowKind) (w : Setting Window) : (x.setWindow k w).range = x.range := by
  cases k <;> rfl

/-- No other window shares a point with one that is in no conflict. -/
theorem RouteTables.shares_of_windowConflict {r : RouteTables} {b : Bay} {k : WindowKind} {w : Window}
    (h : r.windowConflict b k w = false) (c : Bay) (l : WindowKind) (hc : ¬(c = b ∧ l = k)) :
    w.shares ((r.bays.get c).window l).value = false := by
  have free := Bay.any_all_eq_false.mp h c
  obtain ⟨general, bulk⟩ := Bool.or_eq_false_iff.mp free
  cases l with
  | general =>
    have other : (c != b || k != .general) = true := by
      by_cases e : c = b
      · have hk : k ≠ .general := fun hk => hc ⟨e, hk.symm⟩
        simp [hk]
      · simp [e]
    rwa [other, Bool.true_and] at general
  | bulk =>
    have other : (c != b || k != .bulk) = true := by
      by_cases e : c = b
      · have hk : k ≠ .bulk := fun hk => hc ⟨e, hk.symm⟩
        simp [hk]
      · simp [e]
    rwa [other, Bool.true_and] at bulk

theorem RouteLaw.withWindow {r : RouteTables} (h : RouteLaw r) {b : Bay} {k : WindowKind} {y : Setting Window}
    (ha : y.value.aligned k = true) (hy : r.windowConflict b k y.value = false) :
    RouteLaw { r with bays := r.bays.set b ((r.bays.get b).setWindow k y) } := by
  have range : ∀ c, ((r.bays.set b ((r.bays.get b).setWindow k y)).get c).range = (r.bays.get c).range := by
    intro c
    rcases PerBay.get_set_cases r.bays b c ((r.bays.get b).setWindow k y) with ⟨e, g⟩ | ⟨_, g⟩
    · rw [g, e, BayRecord.range_setWindow]
    · rw [g]
  have window : ∀ c l, ((c = b ∧ l = k) ∧ ((r.bays.set b ((r.bays.get b).setWindow k y)).get c).window l = y)
      ∨ (¬(c = b ∧ l = k) ∧ ((r.bays.set b ((r.bays.get b).setWindow k y)).get c).window l = (r.bays.get c).window l) := by
    intro c l
    rcases PerBay.get_set_cases r.bays b c ((r.bays.get b).setWindow k y) with ⟨e, g⟩ | ⟨e, g⟩
    · rw [g, BayRecord.window_setWindow, e]
      split
      · rename_i el; exact .inl ⟨⟨rfl, el⟩, rfl⟩
      · rename_i el; exact .inr ⟨fun hcl => el hcl.2, rfl⟩
    · rw [g]
      exact .inr ⟨fun hcl => e hcl.1, rfl⟩
  have alone : ∀ c l a, ¬(c = b ∧ l = k) → y.value.holds a = true → ((r.bays.get c).window l).value.holds a = true → False := by
    intro c l a hcl hy' hc
    have free := RouteTables.shares_of_windowConflict hy c l hcl
    rw [Window.shares_of_holds hy' hc] at free
    cases free
  constructor
  case ranges =>
    intro c d st
    dsimp only
    rw [range, range]
    exact h.ranges c d st
  case ownStation =>
    intro c
    dsimp only
    rw [range]
    exact h.ownStation c
  case windows =>
    intro c d l m a hc hd
    dsimp only at hc hd
    rcases window c l with ⟨ec, gc⟩ | ⟨ec, gc⟩ <;> rcases window d m with ⟨ed, gd⟩ | ⟨ed, gd⟩ <;> rw [gc] at hc <;> rw [gd] at hd
    · exact ⟨ec.1.trans ed.1.symm, ec.2.trans ed.2.symm⟩
    · exact absurd hd (alone d m a ed hc)
    · exact absurd hc (alone c l a ec hd)
    · exact h.windows c d l m a hc hd
  case aligned =>
    intro c l
    dsimp only
    rcases window c l with ⟨e, g⟩ | ⟨_, g⟩ <;> rw [g]
    · rw [e.2]; exact ha
    · exact h.aligned c l

theorem RouteLaw.withPermits {r : RouteTables} (h : RouteLaw r) {b : Bay} {y : Setting Permits} :
    RouteLaw { r with bays := r.bays.set b { r.bays.get b with permits := y } } := by
  have record : ∀ c, ∃ p, (r.bays.set b { r.bays.get b with permits := y }).get c = { r.bays.get c with permits := p } := by
    intro c
    rcases PerBay.get_set_cases r.bays b c { r.bays.get b with permits := y } with ⟨e, g⟩ | ⟨_, g⟩
    · exact ⟨y, by rw [g, e]⟩
    · exact ⟨(r.bays.get c).permits, g⟩
  refine h.of_same rfl (fun c => ?_) (fun c k => ?_)
  · obtain ⟨p, g⟩ := record c
    dsimp only
    rw [g]
  · obtain ⟨p, g⟩ := record c
    dsimp only
    rw [g]
    cases k <;> rfl

/-- The laws hold in the tables after any reset. -/
theorem RouteLaw.reset : RouteLaw RouteTables.reset where
  ranges b c st h := by
    rw [show RouteTables.reset.bays.get b = RouteTables.reset.bays.get .b1 from PerBay.get_const _ b] at h
    exact absurd ((StationRange.holds_iff _ st).mp h).1 (fun k => k rfl)
  ownStation b h := absurd rfl h
  windows b c k l a h := by
    have closed : ∀ k, ¬((RouteTables.reset.bays.get b).window k).value.base ≤ ((RouteTables.reset.bays.get b).window k).value.limit := by
      intro k
      cases b <;> cases k <;> decide
    obtain ⟨hb, hl⟩ := (Window.holds_iff _ a).mp h
    exact absurd (BitVec.le_trans hb hl) (closed k)
  aligned b k := by cases b <;> cases k <;> decide

/-! ## The rows -/

/-- What a row does to the tables keeps their laws. -/
def KeepsRouteLaw (s t : State) : Prop := RouteLaw s.routes → RouteLaw t.routes

theorem KeepsRouteLaw.refl (s : State) : KeepsRouteLaw s s := fun h => h

theorem KeepsRouteLaw.of_routes {s t : State} (e : t.routes = s.routes) : KeepsRouteLaw s t := fun h => e ▸ h

theorem actSetStation_keepsRouteLaw : actSetStation.Moves KeepsRouteLaw := by
  intro forwarding fix params s r hr
  unfold actSetStation setStationTo at hr
  split at hr <;> cases hr
  split
  · exact .refl s
  · refine writeItem_moves (.refl s) ?_
    split
    · exact .refl s
    · rename_i hfree
      split
      · exact .refl s
      · exact fun h => h.withStation fun h0 => Bool.eq_false_of_not_eq_true fun k => hfree ⟨h0, k⟩

theorem actSetBayRange_keepsRouteLaw : actSetBayRange.Moves KeepsRouteLaw := by
  intro forwarding fix params s r hr
  unfold actSetBayRange setBayRangeTo at hr
  split at hr
  · split at hr <;> cases hr
    · split
      · exact .refl s
      · refine writeItem_moves (.refl s) ?_
        split
        · exact .refl s
        · rename_i hfree
          exact fun h => h.withRange (Bool.not_eq_true _ ▸ hfree)
    · exact .refl s
  · cases hr

theorem actSetWindow_keepsRouteLaw : actSetWindow.Moves KeepsRouteLaw := by
  intro forwarding fix params s r hr
  unfold actSetWindow setWindowTo at hr
  split at hr
  · split at hr <;> cases hr
    · split
      · exact .refl s
      · rename_i ha
        refine writeItem_moves (.refl s) ?_
        split
        · exact .refl s
        · rename_i hfree
          exact fun h => h.withWindow (by simpa using ha) (Bool.not_eq_true _ ▸ hfree)
    · exact .refl s
  · cases hr

theorem actSetDirected_keepsRouteLaw : actSetDirected.Moves KeepsRouteLaw := by
  intro forwarding fix params s r hr
  unfold actSetDirected setDirectedTo at hr
  split at hr
  · split at hr <;> cases hr
    · split
      · exact .refl s
      · exact writeItem_moves (.refl s) fun h => h.of_same rfl (fun _ => rfl) (fun _ _ => rfl)
    · exact .refl s
  · cases hr

theorem actSetPermits_keepsRouteLaw : actSetPermits.Moves KeepsRouteLaw := by
  intro forwarding fix params s r hr
  unfold actSetPermits setPermitsTo at hr
  split at hr
  · split at hr <;> cases hr
    · exact writeItem_moves (.refl s) fun h => h.withPermits
    · exact .refl s
  · cases hr

theorem actSetSpoiled_keepsRouteLaw : actSetSpoiled.Moves KeepsRouteLaw := by
  intro forwarding fix params s r hr
  unfold actSetSpoiled setSpoiledTo at hr
  split at hr
  · split at hr <;> cases hr
    · exact writeItem_moves (.refl s) fun h => h.of_same rfl (fun _ => rfl) (fun _ _ => rfl)
    · exact .refl s
  · cases hr

/-! ## The load (R173) -/

/-- The acts a record may have (R173). -/
theorem loadAct_cases {kind : Byte} {act : SettingAct} (h : loadAct kind = some act) :
    act ∈ [actSetStation, actSetBayRange, actSetWindow, actSetDirected, actSetPermits, actSetSpoiled, actSetQuota, actSetExchangeTimers,
      actSetStallLimit, actSetLink, actSetReporting, actSetStreams, actOpenRoutingRecord] := by
  unfold loadAct at h
  split at h <;> first | (cases h; done) | (obtain rfl := Option.some.inj h; simp)

/-- A record moves the state as its act does, the checks taking the router as FORWARDING once the pending-open mark is set (R175). -/
theorem runRecord_moves {R : State → State → Prop} (r : LoadRecord) {s : State} (refl : R s s)
    (h : ∀ kind act, loadAct kind = some act → ∀ fix, ∀ params q, act s.loader.pendingOpen fix params s = some q → R s q.state) :
    R s (runRecord r s).state := by
  unfold runRecord
  split
  · exact refl
  · exact refl
  · split
    · exact refl
    · split
      · exact refl
      · rename_i fix kind params _ _ _ _ act hact
        cases hq : act s.loader.pendingOpen fix params s with
        | none => exact refl
        | some q => exact h kind act hact fix params q hq

/-- Replaying a record moves the state as the record does, then notes its result and the load's phase in the loader. -/
theorem replay_cases (s : State) :
    s.replay = s
    ∨ ∃ n r rest report ph, s.loader.state = .start (.replaying n (r :: rest))
        ∧ s.replay = (runRecord r s).state.setLoader
            { state := .start ph, pendingOpen := (runRecord r s).state.loader.pendingOpen, report := report } := by
  unfold State.replay
  split
  · rename_i n r rest e
    refine .inr ⟨n, r, rest, ?_⟩
    dsimp only [State.afterRecord]
    split
    · exact ⟨_, _, e, rfl⟩
    · exact ⟨_, _, e, rfl⟩
  · exact .inl rfl

end Sys2Proof.Machine
end

section
/-! The proofs that every step keeps the laws of the route tables (R26 to R29) and of the own station (R26, R175). -/

namespace Sys2Proof.Machine

/-! ## What leaves the tables and the loader -/

/-- The two states have the same route tables and the same loader. -/
structure SameConfig (s t : State) : Prop where
  routes : t.routes = s.routes
  loader : t.loader = s.loader

theorem SameConfig.refl (s : State) : SameConfig s s := ⟨rfl, rfl⟩

theorem SameConfig.trans {s t u : State} (h : SameConfig s t) (k : SameConfig t u) : SameConfig s u :=
  ⟨k.routes.trans h.routes, k.loader.trans h.loader⟩

theorem Alike.sameConfig {s t : State} (h : Alike s t) : SameConfig s t := ⟨h.routes, h.loader⟩

theorem Kept.sameConfig {s t : State} (h : Kept s t) : SameConfig s t := ⟨h.routes, h.loader⟩

theorem applyEnable_kept (p : Port) (enable : Bool) (s : State) : Kept s (s.applyEnable p enable) := by
  unfold State.applyEnable
  split
  · exact .modPort _ _ s rfl
  · exact .refl s
  · exact .leaveUp _ _ _ s
  · exact .modPort _ _ s rfl
  · exact .refl s

theorem actSetLink_sameConfig : actSetLink.Moves SameConfig := by
  intro forwarding fix params s r hr
  unfold actSetLink setLinkTo at hr
  split at hr
  · split at hr <;> cases hr
    · split
      · exact .refl s
      · refine writeItem_moves (.refl s) ?_
        rw [done_state]
        exact SameConfig.trans (t := s.modPort _ _) ⟨rfl, rfl⟩ (applyEnable_kept _ _ _).sameConfig
    · exact .refl s
  · cases hr

theorem actSetStreams_sameConfig : actSetStreams.Moves SameConfig := by
  intro forwarding fix params s r hr
  unfold actSetStreams setStreamsTo at hr
  split at hr <;> cases hr
  dsimp only
  split
  · exact .refl s
  · split
    · exact .refl s
    · exact ⟨rfl, rfl⟩

theorem body_sameConfig {i : Instr} (h : (i.isPlain || i.isTraffic) = true) (s : State) : SameConfig s (i.body s) := by
  rcases Bool.or_eq_true_iff.mp h with plain | traffic
  · exact (body_alike plain s).sameConfig
  · exact (body_kept traffic s).sameConfig

/-! ## Rows that neither traffic nor the plain rows are -/

theorem State.runAct_cases (c : Message) (act : Act) (s : State) :
    Alike s (State.runAct c act s) ∨ ∃ r, act c.msg.params s = some r ∧ Alike r.state (State.runAct c act s) := by
  unfold State.runAct
  split
  · exact .inl (.respond _ _ _ s)
  · rename_i r hr
    exact .inr ⟨r, hr, .respond _ _ _ _⟩

theorem State.startReset_cases (c : Message) (s : State) :
    Alike s (s.startReset c) ∨ ∃ cause, ∃ t : State, s.startReset c = t.resetBlocks cause := by
  unfold State.startReset
  split
  · exact .inr ⟨_, _, rfl⟩
  · exact .inl (.respond _ _ _ s)

theorem State.resetArrives_cases (p : Port) (s : State) :
    Alike s (s.resetArrives p) ∨ ∃ cause, ∃ t : State, s.resetArrives p = t.resetBlocks cause := by
  unfold State.resetArrives
  split
  · exact .inl (.refl s)
  · split
    · exact .inr ⟨_, _, rfl⟩
    · exact .inl (.latch _ _ s)

theorem State.loadImage_cases (r : ImageRead) (s : State) :
    s.loadImage r = s ∨ ∃ t ph, s.loader.state = .start .reading ∧ Alike s t ∧ s.loadImage r = t.setPhase ph := by
  unfold State.loadImage State.imageRead
  split
  · rename_i e
    have emitted : Alike s (s.emit (.memoryRead Config.memoryDevice 0)) := .emit _ s
    refine .inr ?_
    split
    · exact ⟨_, _, e, emitted, rfl⟩
    · split
      · exact ⟨_, _, e, emitted.trans (.latch _ _ _), rfl⟩
      · exact ⟨_, _, e, emitted, rfl⟩
      · exact ⟨_, _, e, emitted, rfl⟩
  · exact .inl rfl

theorem State.sendRestarted_cases (s : State) :
    s.sendRestarted = s ∨ ∃ o t report, s.loader.state = .start (.offering o) ∧ Alike s t
      ∧ s.sendRestarted = t.setLoader { state := s.loader.entered, pendingOpen := false, report := report } := by
  unfold State.sendRestarted
  split
  · rename_i o e
    split
    · exact .inr ⟨o, _, _, e, .sendUnsolicited _ _ _ s, rfl⟩
    · exact .inl rfl
  · exact .inl rfl

theorem actOpenRouting_cases {params : List Byte} {s : State} {r : Reply} (h : actOpenRouting params s = some r) :
    r.state = s ∨ (s.loader.state = .configuring ∧ s.routes.ownStation.value ≠ 0 ∧ r.state = s.setRouterState .forwarding) := by
  unfold actOpenRouting at h
  split at h <;> cases h
  split
  · rename_i e
    split
    · exact .inl rfl
    · rename_i h0; exact .inr ⟨e, h0, rfl⟩
  · exact .inl rfl
  · exact .inl rfl

theorem actCloseRouting_cases {params : List Byte} {s : State} {r : Reply} (h : actCloseRouting params s = some r) :
    r.state = s ∨ (s.loader.state = .forwarding ∧ r.state = (s.setRouterState .configuring).redecideAll) := by
  unfold actCloseRouting at h
  split at h <;> cases h
  split
  · rename_i e; exact .inr ⟨e, rfl⟩
  · exact .inl rfl
  · exact .inl rfl

theorem actOpenRoutingRecord_cases {forwarding fix : Bool} {params : List Byte} {s : State} {r : Reply}
    (h : actOpenRoutingRecord forwarding fix params s = some r) :
    r.state = s ∨ (s.routes.ownStation.value ≠ 0 ∧ r.state = s.setLoader { s.loader with pendingOpen := true }) := by
  unfold actOpenRoutingRecord at h
  split at h <;> cases h
  split
  · exact .inl rfl
  · rename_i h0; exact .inr ⟨fun e => h0 (.inl e), rfl⟩

/-! ## The route tables (R26 to R29) -/

theorem RouteLaw.law : Law fun s => RouteLaw s.routes := fun s t h (k : RouteLaw s.routes) =>
  show RouteLaw t.routes from h.routes ▸ k

theorem KeepsRouteLaw.of_eq {s t u : State} (e : t = u) (k : KeepsRouteLaw s u) : KeepsRouteLaw s t := e ▸ k

theorem KeepsRouteLaw.of_sameConfig {s t : State} (h : SameConfig s t) : KeepsRouteLaw s t := .of_routes h.routes

/-- The act of every record keeps the laws of the tables. -/
theorem loadAct_keepsRouteLaw {kind : Byte} {act : SettingAct} (h : loadAct kind = some act) : act.Moves KeepsRouteLaw := by
  have plain : ∀ {a : SettingAct}, a.Moves Sets → a.Moves KeepsRouteLaw := fun k f fix =>
    (k f fix).mono fun _ _ e => .of_sameConfig e.sameConfig
  have config : ∀ {a : SettingAct}, a.Moves SameConfig → a.Moves KeepsRouteLaw := fun k f fix =>
    (k f fix).mono fun _ _ e => .of_sameConfig e
  have acts := loadAct_cases h
  simp only [List.mem_cons, List.not_mem_nil, or_false] at acts
  obtain rfl | rfl | rfl | rfl | rfl | rfl | rfl | rfl | rfl | rfl | rfl | rfl | rfl := acts
  · exact actSetStation_keepsRouteLaw
  · exact actSetBayRange_keepsRouteLaw
  · exact actSetWindow_keepsRouteLaw
  · exact actSetDirected_keepsRouteLaw
  · exact actSetPermits_keepsRouteLaw
  · exact actSetSpoiled_keepsRouteLaw
  · exact plain actSetQuota_sets
  · exact plain actSetExchangeTimers_sets
  · exact plain actSetStallLimit_sets
  · exact config actSetLink_sameConfig
  · exact plain actSetReporting_sets
  · exact config actSetStreams_sameConfig
  · intro f fix params s r hr
    rcases actOpenRoutingRecord_cases hr with e | ⟨_, e⟩ <;> rw [e]
    · exact .refl s
    · exact .of_routes rfl

theorem body_keepsRouteLaw (i : Instr) (s : State) (h : RouteLaw s.routes) : RouteLaw (i.body s).routes := by
  have command : ∀ {act : Act}, act.Moves KeepsRouteLaw → ∀ c, RouteLaw (State.runAct c act s).routes := fun k c =>
    runAct_keeps RouteLaw.law k c h
  cases i with
  | setStation m => exact command actSetStation_keepsRouteLaw.host _
  | setBayRange m => exact command actSetBayRange_keepsRouteLaw.host _
  | setWindow m => exact command actSetWindow_keepsRouteLaw.host _
  | setDirected m => exact command actSetDirected_keepsRouteLaw.host _
  | setPermits m => exact command actSetPermits_keepsRouteLaw.host _
  | setSpoiled m => exact command actSetSpoiled_keepsRouteLaw.host _
  | setLink m => exact command (actSetLink_sameConfig.host.mono fun _ _ e => .of_sameConfig e) _
  | setStreams m => exact command (actSetStreams_sameConfig.host.mono fun _ _ e => .of_sameConfig e) _
  | resetRouter m =>
    rcases State.startReset_cases ⟨0x70, m⟩ s with e | ⟨cause, t, e⟩
    · exact RouteLaw.law _ _ e h
    · exact KeepsRouteLaw.of_eq e (fun _ => RouteLaw.reset) h
  | openRouting m =>
    refine command (fun params t r hr => ?_) _
    rcases actOpenRouting_cases hr with e | ⟨_, _, e⟩ <;> rw [e]
    · exact .refl t
    · exact .of_routes rfl
  | closeRouting m =>
    refine command (fun params t r hr => ?_) _
    rcases actCloseRouting_cases hr with e | ⟨_, e⟩ <;> rw [e]
    · exact .refl t
    · exact .of_routes (Kept.redecideAll _).routes
  | restarted =>
    rcases State.sendRestarted_cases s with e | ⟨o, t, report, _, k, e⟩
    · exact KeepsRouteLaw.of_eq e (.refl s) h
    · exact KeepsRouteLaw.of_eq e (.of_routes k.routes) h
  | powerOnReset r1 r0 => exact RouteLaw.reset
  | pornLow => exact RouteLaw.reset
  | resetSymbol p =>
    rcases State.resetArrives_cases p s with e | ⟨cause, t, e⟩
    · exact RouteLaw.law _ _ e h
    · exact KeepsRouteLaw.of_eq e (fun _ => RouteLaw.reset) h
  | loadImageRead r =>
    rcases State.loadImage_cases r s with e | ⟨t, ph, _, k, e⟩
    · exact KeepsRouteLaw.of_eq e (.refl s) h
    · exact KeepsRouteLaw.of_eq e (.of_routes k.routes) h
  | loadRecord =>
    rcases replay_cases s with e | ⟨n, r, rest, report, ph, _, e⟩
    · exact KeepsRouteLaw.of_eq e (.refl s) h
    · have record : KeepsRouteLaw s (runRecord r s).state := runRecord_moves r (.refl s) fun kind act hact fix params =>
        loadAct_keepsRouteLaw hact _ fix params s
      exact KeepsRouteLaw.of_eq e (fun h => record h) h
  | _ => exact KeepsRouteLaw.of_sameConfig (body_sameConfig rfl s) h

/-- Settles O56: the rows that write the tables test what they write, the resets clear them, and every other row leaves them. -/
theorem everyStepKeepsTheRouteLaw : Obligations.EveryStepKeepsTheRouteLaw := fun _ _ hs h =>
  step_keeps RouteLaw.law (fun _ k => k) (fun i s _ => body_keepsRouteLaw i s) hs h

/-! ## The own station (R26, R175) -/

theorem StationLaw.of_sameConfig {s t : State} (e : SameConfig s t) (h : StationLaw s) : StationLaw t := by
  obtain ⟨forwarding, pendingOpen⟩ := h
  constructor
  · unfold State.isForwarding
    rw [e.routes, e.loader]
    exact forwarding
  · unfold State.inStart
    rw [e.routes, e.loader]
    exact pendingOpen

theorem StationLaw.law : Law StationLaw := fun _ _ e h => h.of_sameConfig e.sameConfig

/-- What a row does keeps the law of the own station. -/
def KeepsStationLaw (s t : State) : Prop := StationLaw s → StationLaw t

theorem KeepsStationLaw.refl (s : State) : KeepsStationLaw s s := fun h => h

theorem KeepsStationLaw.of_sameConfig {s t : State} (e : SameConfig s t) : KeepsStationLaw s t := fun h => h.of_sameConfig e

/-- Tables in which the own station is as it was. -/
theorem StationLaw.setRoutes {s : State} {r : RouteTables} (h : StationLaw s) (e : r.ownStation.value = s.routes.ownStation.value) :
    StationLaw (s.setRoutes r) :=
  ⟨fun k => e ▸ h.forwarding k, fun k => e ▸ h.pendingOpen k⟩

/-- A state in START, with the pending-open mark only beside a nonzero own station. -/
theorem StationLaw.inStart {s : State} {ph : LoadPhase} (e : s.loader.state = .start ph)
    (h : s.loader.pendingOpen = true → s.routes.ownStation.value ≠ 0) : StationLaw s := by
  have start : s.inStart = true := by unfold State.inStart; rw [e]; rfl
  have idle : s.isForwarding = false := by unfold State.isForwarding; rw [e]; rfl
  exact ⟨fun k => absurd (idle.symm.trans k) (by decide), fun k => ⟨start, h k⟩⟩

theorem StationLaw.resetBlocks (cause : ResetCause) (s : State) : StationLaw (s.resetBlocks cause) :=
  .inStart (ph := .reading) rfl fun k => absurd k Bool.false_ne_true

theorem setStationTo_cases (st : Byte) (forwarding fix : Bool) (s : State) :
    (setStationTo st forwarding fix s).state = s
    ∨ (∃ mark, (setStationTo st forwarding fix s).state = s.setRoutes { s.routes with ownStation := ⟨st, mark⟩ })
      ∧ (st = 0 → forwarding = false) := by
  unfold setStationTo
  split
  · exact .inl rfl
  · refine writeItem_moves (R := fun s t => t = s ∨ (∃ mark, t = s.setRoutes { s.routes with ownStation := ⟨st, mark⟩ }) ∧ _) (.inl rfl) ?_
    split
    · exact .inl rfl
    · split
      · exact .inl rfl
      · rename_i h0
        exact .inr ⟨⟨_, rfl⟩, fun e => by simpa [e] using h0⟩

/-- SET STATION keeps the law where its checks take the router to forward once the law speaks of it. -/
theorem actSetStation_keepsStationLaw {forwarding fix : Bool} {params : List Byte} {s : State} {r : Reply}
    (hf : forwarding = false → s.isForwarding = false ∧ s.loader.pendingOpen = false)
    (hr : actSetStation forwarding fix params s = some r) : KeepsStationLaw s r.state := by
  unfold actSetStation at hr
  split at hr <;> cases hr
  rename_i st
  rcases setStationTo_cases st forwarding fix s with e | ⟨⟨mark, e⟩, h0⟩ <;> rw [e]
  · exact .refl s
  · intro h
    by_cases hst : st = 0
    · obtain ⟨idle, unmarked⟩ := hf (h0 hst)
      exact ⟨fun k => absurd (idle.symm.trans k) (by decide), fun k => absurd (unmarked.symm.trans k) (by decide)⟩
    · exact ⟨fun _ => hst, fun k => ⟨(h.pendingOpen k).1, hst⟩⟩

/-- The route tables are written and nothing else is; the own station is as it was. -/
def SameStation (s t : State) : Prop := ∃ r : RouteTables, t = s.setRoutes r ∧ r.ownStation = s.routes.ownStation

theorem SameStation.refl (s : State) : SameStation s s := ⟨s.routes, rfl, rfl⟩

theorem KeepsStationLaw.of_sameStation {s t : State} (e : SameStation s t) : KeepsStationLaw s t := by
  obtain ⟨r, rfl, station⟩ := e
  exact fun h => h.setRoutes (congrArg Setting.value station)

theorem actSetBayRange_sameStation : actSetBayRange.Moves SameStation := by
  intro forwarding fix params s r hr
  unfold actSetBayRange setBayRangeTo at hr
  split at hr
  · split at hr <;> cases hr
    · split
      · exact .refl s
      · refine writeItem_moves (.refl s) ?_
        split
        · exact .refl s
        · exact ⟨_, rfl, rfl⟩
    · exact .refl s
  · cases hr

theorem actSetWindow_sameStation : actSetWindow.Moves SameStation := by
  intro forwarding fix params s r hr
  unfold actSetWindow setWindowTo at hr
  split at hr
  · split at hr <;> cases hr
    · split
      · exact .refl s
      · refine writeItem_moves (.refl s) ?_
        split
        · exact .refl s
        · exact ⟨_, rfl, rfl⟩
    · exact .refl s
  · cases hr

theorem actSetDirected_sameStation : actSetDirected.Moves SameStation := by
  intro forwarding fix params s r hr
  unfold actSetDirected setDirectedTo at hr
  split at hr
  · split at hr <;> cases hr
    · split
      · exact .refl s
      · exact writeItem_moves (.refl s) ⟨_, rfl, rfl⟩
    · exact .refl s
  · cases hr

theorem actSetPermits_sameStation : actSetPermits.Moves SameStation := by
  intro forwarding fix params s r hr
  unfold actSetPermits setPermitsTo at hr
  split at hr
  · split at hr <;> cases hr
    · exact writeItem_moves (.refl s) ⟨_, rfl, rfl⟩
    · exact .refl s
  · cases hr

theorem actSetSpoiled_sameStation : actSetSpoiled.Moves SameStation := by
  intro forwarding fix params s r hr
  unfold actSetSpoiled setSpoiledTo at hr
  split at hr
  · split at hr <;> cases hr
    · exact writeItem_moves (.refl s) ⟨_, rfl, rfl⟩
    · exact .refl s
  · cases hr

/-- The route tables are written and nothing else is. -/
def WritesRoutes (s t : State) : Prop := ∃ r : RouteTables, t = s.setRoutes r

theorem SameStation.writesRoutes {s t : State} (h : SameStation s t) : WritesRoutes s t :=
  let ⟨r, e, _⟩ := h
  ⟨r, e⟩

theorem actSetStation_writesRoutes : actSetStation.Moves WritesRoutes := by
  intro forwarding fix params s r hr
  unfold actSetStation at hr
  split at hr <;> cases hr
  rcases setStationTo_cases _ forwarding fix s with e | ⟨⟨mark, e⟩, _⟩ <;> rw [e]
  · exact ⟨s.routes, rfl⟩
  · exact ⟨_, rfl⟩

/-- Every row that writes the route tables writes nothing else but the response. -/
theorem body_writesRoutes {i : Instr} (h : i.writesRoutes = true) (s : State) : ∃ r : RouteTables, Alike (s.setRoutes r) (i.body s) := by
  have command : ∀ {act : SettingAct}, act.Moves WritesRoutes → ∀ c,
      ∃ r : RouteTables, Alike (s.setRoutes r) (State.runAct c (fun params s => act s.isForwarding false params s) s) := by
    intro act k c
    rcases State.runAct_cases c (fun params s => act s.isForwarding false params s) s with e | ⟨q, hq, e⟩
    · exact ⟨s.routes, e⟩
    · obtain ⟨r, w⟩ := k.host _ _ _ hq
      exact ⟨r, w ▸ e⟩
  have same : ∀ {act : SettingAct}, act.Moves SameStation → act.Moves WritesRoutes := fun k f fix =>
    (k f fix).mono fun _ _ => SameStation.writesRoutes
  cases i with
  | setStation m => exact command actSetStation_writesRoutes _
  | setBayRange m => exact command (same actSetBayRange_sameStation) _
  | setWindow m => exact command (same actSetWindow_sameStation) _
  | setDirected m => exact command (same actSetDirected_sameStation) _
  | setPermits m => exact command (same actSetPermits_sameStation) _
  | setSpoiled m => exact command (same actSetSpoiled_sameStation) _
  | _ => cases h

/-- A record in a load: the router is in START, so it does not forward, and SET STATION reads the pending-open mark (R175). -/
theorem loadAct_keepsStationLaw {kind : Byte} {act : SettingAct} (h : loadAct kind = some act) {fix : Bool} {params : List Byte}
    {s : State} {r : Reply} (idle : s.isForwarding = false) (start : s.inStart = true)
    (hr : act s.loader.pendingOpen fix params s = some r) : KeepsStationLaw s r.state := by
  have same : ∀ {a : SettingAct}, a.Moves SameStation → a s.loader.pendingOpen fix params s = some r → KeepsStationLaw s r.state :=
    fun k e => .of_sameStation (k _ _ params s r e)
  have plain : ∀ {a : SettingAct}, a.Moves Sets → a s.loader.pendingOpen fix params s = some r → KeepsStationLaw s r.state :=
    fun k e => .of_sameConfig (k _ _ params s r e).sameConfig
  have acts := loadAct_cases h
  simp only [List.mem_cons, List.not_mem_nil, or_false] at acts
  obtain rfl | rfl | rfl | rfl | rfl | rfl | rfl | rfl | rfl | rfl | rfl | rfl | rfl := acts
  · exact actSetStation_keepsStationLaw (fun unmarked => ⟨idle, unmarked⟩) hr
  · exact same actSetBayRange_sameStation hr
  · exact same actSetWindow_sameStation hr
  · exact same actSetDirected_sameStation hr
  · exact same actSetPermits_sameStation hr
  · exact same actSetSpoiled_sameStation hr
  · exact plain actSetQuota_sets hr
  · exact plain actSetExchangeTimers_sets hr
  · exact plain actSetStallLimit_sets hr
  · exact .of_sameConfig (actSetLink_sameConfig _ _ params s r hr)
  · exact plain actSetReporting_sets hr
  · exact .of_sameConfig (actSetStreams_sameConfig _ _ params s r hr)
  · rcases actOpenRoutingRecord_cases hr with e | ⟨h0, e⟩ <;> rw [e]
    · exact .refl s
    · exact fun k => ⟨fun f => absurd (idle.symm.trans f) (by decide), fun _ => ⟨start, h0⟩⟩

theorem body_keepsStationLaw (i : Instr) (s : State) (hi : i.runs s) (h : StationLaw s) : StationLaw (i.body s) := by
  have command : ∀ {act : Act}, act.Moves KeepsStationLaw → ∀ c, StationLaw (State.runAct c act s) := fun k c =>
    runAct_keeps StationLaw.law k c h
  have same : ∀ {act : SettingAct}, act.Moves SameStation → Act.Moves KeepsStationLaw fun params s => act s.isForwarding false params s :=
    fun k => k.host.mono fun _ _ e => .of_sameStation e
  cases i with
  | setStation m =>
    -- Outside START the pending-open mark is clear, by the law itself.
    have running : s.inStart = false := (hi (Option.some_ne_none _)).resolve_left Bool.false_ne_true
    rcases State.runAct_cases ⟨0x10, m⟩ (fun params s => actSetStation s.isForwarding false params s) s with e | ⟨r, hr, e⟩
    · exact StationLaw.law _ _ e h
    · refine StationLaw.law _ _ e (actSetStation_keepsStationLaw (fun idle => ⟨idle, ?_⟩) hr h)
      by_contra marked
      exact Bool.false_ne_true (running.symm.trans (h.pendingOpen (Bool.eq_true_of_not_eq_false marked)).1)
  | setBayRange m => exact command (same actSetBayRange_sameStation) _
  | setWindow m => exact command (same actSetWindow_sameStation) _
  | setDirected m => exact command (same actSetDirected_sameStation) _
  | setPermits m => exact command (same actSetPermits_sameStation) _
  | setSpoiled m => exact command (same actSetSpoiled_sameStation) _
  | setLink m => exact command (actSetLink_sameConfig.host.mono fun _ _ e => .of_sameConfig e) _
  | setStreams m => exact command (actSetStreams_sameConfig.host.mono fun _ _ e => .of_sameConfig e) _
  | resetRouter m =>
    rcases State.startReset_cases ⟨0x70, m⟩ s with e | ⟨cause, t, e⟩
    · exact StationLaw.law _ _ e h
    · exact (congrArg StationLaw e).mpr (.resetBlocks cause t)
  | openRouting m =>
    refine command (fun params t r hr => ?_) _
    rcases actOpenRouting_cases hr with e | ⟨hc, h0, e⟩ <;> rw [e]
    · exact .refl t
    · refine fun k => ⟨fun _ => h0, fun marked => ?_⟩
      have start := (k.pendingOpen marked).1
      unfold State.inStart at start
      rw [hc] at start
      cases start
  | closeRouting m =>
    refine command (fun params t r hr => ?_) _
    rcases actCloseRouting_cases hr with e | ⟨hf, e⟩ <;> rw [e]
    · exact .refl t
    · refine fun k => StationLaw.of_sameConfig (Kept.redecideAll _).sameConfig ⟨fun f => absurd f Bool.false_ne_true, fun marked => ?_⟩
      have start := (k.pendingOpen marked).1
      unfold State.inStart at start
      rw [hf] at start
      cases start
  | restarted =>
    rcases State.sendRestarted_cases s with e | ⟨o, t, report, _, k, e⟩
    · exact (congrArg StationLaw e).mpr h
    · refine (congrArg StationLaw e).mpr ⟨fun f => ?_, fun marked => absurd marked Bool.false_ne_true⟩
      have marked : s.loader.pendingOpen = true := by
        by_contra unmarked
        have closed : s.loader.entered = .configuring := if_neg unmarked
        have forwards : (s.loader.entered.name == .forwarding) = true := f
        rw [closed] at forwards
        cases forwards
      exact (congrArg (fun r : RouteTables => r.ownStation.value ≠ 0) k.routes).mpr (h.pendingOpen marked).2
  | powerOnReset r1 r0 => exact .inStart (ph := .reading) rfl fun k => absurd k Bool.false_ne_true
  | pornLow => exact .inStart (ph := .reading) rfl fun k => absurd k Bool.false_ne_true
  | resetSymbol p =>
    rcases State.resetArrives_cases p s with e | ⟨cause, t, e⟩
    · exact StationLaw.law _ _ e h
    · exact (congrArg StationLaw e).mpr (.resetBlocks cause t)
  | loadImageRead r =>
    rcases State.loadImage_cases r s with e | ⟨t, ph, _, k, e⟩
    · exact (congrArg StationLaw e).mpr h
    · exact (congrArg StationLaw e).mpr (.inStart (ph := ph) rfl fun marked => ((StationLaw.law _ _ k h).pendingOpen marked).2)
  | loadRecord =>
    rcases replay_cases s with e | ⟨n, r, rest, report, ph, hl, e⟩
    · exact (congrArg StationLaw e).mpr h
    · have start : s.inStart = true := by unfold State.inStart; rw [hl]; rfl
      have idle : s.isForwarding = false := by unfold State.isForwarding; rw [hl]; rfl
      have record : KeepsStationLaw s (runRecord r s).state := runRecord_moves r (.refl s) fun kind act hact fix params q =>
        loadAct_keepsStationLaw hact idle start
      exact (congrArg StationLaw e).mpr (.inStart (ph := ph) rfl fun marked => ((record h).pendingOpen marked).2)
  | _ => exact h.of_sameConfig (body_sameConfig rfl s)

/-- Settles O57: a station is cleared only where the router does not forward, and the mark that opens it is set only beside one. -/
theorem everyStepKeepsTheStationLaw : Obligations.EveryStepKeepsTheStationLaw := fun _ _ hs h =>
  step_keeps StationLaw.law (fun s => .of_sameConfig (Kept.elapse 1 s).sameConfig) body_keepsStationLaw hs h

end Sys2Proof.Machine
end

section
/-! The proof that every step keeps the bounds of buffers, lanes and credits (R100 to R105, R115, R129): the rows over one port, and
those over traffic, by the laws of `BufferLaw`. -/

namespace Sys2Proof.Machine

/-! ## One port -/

theorem PortLaw.withAttempts {x : PortState} (n : Nat) (h : PortLaw x) : PortLaw { x with attempts := n } :=
  ⟨h.credit, h.requestLane, h.answerLane, h.window, h.partner, h.down, h.waits⟩

/-- An owed credit return is sent: what was owed is granted (R102). -/
theorem PortLaw.returnCredit {x : PortState} {c : FrameClass} (h : PortLaw x) (up : x.link.isUp = true) (ho : 0 < x.owed.get c) :
    PortLaw { x with owed := x.owed.set c (x.owed.get c - 1), granted := x.granted.set c (x.granted.get c + 1) } := by
  refine ⟨fun d => ?_, h.requestLane, h.answerLane, h.window, h.partner, fun e => absurd up (by simpa using e), h.waits⟩
  have hd := h.credit d
  cases c <;> cases d <;> simp only [PerClass.get, PerClass.set, PortState.held] at * <;> omega

/-- A credit return arrives below the greeting's value (R105). -/
theorem PortLaw.gainPartner {x : PortState} {c : FrameClass} {g : Greeting} (h : PortLaw x) (hg : x.greeting = some g)
    (up : x.link.isUp = true) (below : x.partner.get c < g.credits c) :
    PortLaw { x with partner := x.partner.set c (x.partner.get c + 1) } := by
  refine ⟨h.credit, h.requestLane, h.answerLane, h.window, fun _ => ⟨g, hg, fun d => ?_⟩, fun e => absurd up (by simpa using e), h.waits⟩
  obtain ⟨g', hg', bound⟩ := h.partner up
  obtain rfl : g = g' := Option.some.inj (hg.symm.trans hg')
  dsimp only
  rw [PerClass.get_set]
  split
  · rename_i e; subst e; exact below
  · exact bound d

theorem PortLaw.sent {x : PortState} (h : PortLaw x) : PortLaw { x with sending := none } := by
  refine ⟨h.credit, h.requestLane, h.answerLane, h.window, h.partner, fun e => ?_, h.waits⟩
  obtain ⟨hr, ha, hrl, hal, hg, ho, hp, hw, _⟩ := h.down e
  exact ⟨hr, ha, hrl, hal, hg, ho, hp, hw, rfl⟩

theorem PortLaw.windowTail {x : PortState} (h : PortLaw x) : PortLaw { x with window := x.window.tail } := by
  refine ⟨h.credit, h.requestLane, h.answerLane, ?_, h.partner, fun e => ?_, h.waits⟩
  · have bound := h.window
    simp only [List.length_tail]
    omega
  · obtain ⟨hr, ha, hrl, hal, hg, ho, hp, hw, hs⟩ := h.down e
    exact ⟨hr, ha, hrl, hal, hg, ho, hp, by simp [hw], hs⟩

/-! ## Host requests -/

theorem BufferLaw.law : Law BufferLaw := fun _ _ e h => h.of_ports e.ports

theorem BufferLaw.emit {s : State} (h : BufferLaw s) (e : Emission) : BufferLaw (s.emit e) := h.of_ports rfl

theorem BufferLaw.awaitHost {s : State} (h : BufferLaw s) (c : Message) (r : Request Unit) (d : Port) :
    BufferLaw (s.awaitHost c r d) :=
  BufferLaw.offerRequestLane (s := { s with management :=
    { s.management with running := some ⟨c, .awaitLane r d s.stallLimit.value⟩ } }) (h.of_ports rfl) d .m

theorem BufferLaw.issueHost {s : State} (h : BufferLaw s) (c : Message) (r : Request Unit) : BufferLaw (s.issueHost c r) := by
  have ht : BufferLaw (if r.spoiled then s.detect .m .spoiled r.hostSubject else s) := by
    split
    · exact h.detect _ _ _
    · exact h
  unfold State.issueHost
  generalize (if r.spoiled then s.detect .m .spoiled r.hostSubject else s) = t at ht
  dsimp only
  split
  · exact ht.awaitHost c r _
  · unfold State.hostInbox
    split
    · split
      · exact ht.of_ports (ports_appendInbox _ t)
      · exact ht.of_ports (ports_appendInbox _ t)
    · exact ht
  · exact (ht.detect _ _ _).of_ports rfl
  · exact (ht.detect _ _ _).of_ports rfl

theorem BufferLaw.startStore {s : State} (h : BufferLaw s) (c : Message) : BufferLaw (s.startStore c) := by
  have answered : ∀ st v, BufferLaw (s.respond c st v) := fun _ _ => h.of_ports rfl
  unfold State.startStore
  split
  · exact answered _ _
  · split
    · split
      · exact answered _ _
      · exact h.issueHost c _
    · exact answered _ _

theorem BufferLaw.startNotice {s : State} (h : BufferLaw s) (c : Message) : BufferLaw (s.startNotice c) := by
  have answered : ∀ st v, BufferLaw (s.respond c st v) := fun _ _ => h.of_ports rfl
  unfold State.startNotice
  split
  · split
    · exact answered _ _
    · exact h.issueHost c _
  · exact answered _ _

theorem BufferLaw.startFetch {s : State} (h : BufferLaw s) (c : Message) : BufferLaw (s.startFetch c) := by
  have answered : ∀ st v, BufferLaw (s.respond c st v) := fun _ _ => h.of_ports rfl
  unfold State.startFetch
  split
  · dsimp only
    split
    · exact answered _ _
    · split
      · exact answered _ _
      · exact h.issueHost c _
  · exact answered _ _

/-! ## Commands run whole -/

/-- What a row does keeps the bounds. -/
def KeepsBufferLaw (s t : State) : Prop := BufferLaw s → BufferLaw t

theorem KeepsBufferLaw.refl (s : State) : KeepsBufferLaw s s := fun h => h

theorem KeepsBufferLaw.of_ports {s t : State} (e : t.ports = s.ports) : KeepsBufferLaw s t := fun h => h.of_ports e

/-- A port that is not UP goes to another state short of UP, its attempt count cleared. -/
theorem BufferLaw.relink {s : State} {p : Port} {l : Link} (h : BufferLaw s) (hp : (s.port p).link.isUp = false) (hl : l.isUp = false) :
    BufferLaw (s.modPort p fun x => { x with link := l, attempts := 0 }) :=
  h.modPort fun k => (k.withLink hp hl).withAttempts 0

theorem BufferLaw.applyEnable {s : State} (h : BufferLaw s) (p : Port) (enable : Bool) : BufferLaw (s.applyEnable p enable) := by
  unfold State.applyEnable
  split
  · rename_i e; exact h.relink (by rw [e]; rfl) rfl
  · exact h
  · exact h.leaveUp p rfl _
  · rename_i notUp
    refine h.relink ?_ rfl
    cases e : (s.port p).link with
    | up m => exact absurd e (notUp m)
    | _ => rfl
  · exact h

theorem actSetLink_keepsBufferLaw : actSetLink.Moves KeepsBufferLaw := by
  intro forwarding fix params s r hr
  unfold actSetLink setLinkTo at hr
  split at hr
  · split at hr <;> cases hr
    · split
      · exact .refl s
      · refine writeItem_moves (.refl s) fun h => ?_
        rw [done_state]
        exact BufferLaw.applyEnable (h.modPort fun k => k.withSettings _) _ _
    · exact .refl s
  · cases hr

theorem holdBayTo_keepsBufferLaw (b : Bay) (s : State) : KeepsBufferLaw s (holdBayTo b s).state := by
  intro h
  have held : (s.port b.port).link.isUp = false → BufferLaw (s.modPort b.port fun x => { x with link := .held, attempts := 0 }) :=
    fun e => h.relink e rfl
  unfold holdBayTo
  dsimp only
  split
  · rw [done_state]
    exact BufferLaw.modPort (BufferLaw.leaveUp (s := s.emit _) (h.of_ports rfl) b.port rfl _) fun k => k.withAttempts 0
  · exact h
  · exact h
  · rename_i e; exact held (by rw [e]; rfl)
  · rename_i e; exact held (by rw [e]; rfl)
  · rename_i e; exact held (by rw [e]; rfl)

theorem actHoldBay_keepsBufferLaw : actHoldBay.Moves KeepsBufferLaw := by
  intro params s r hr
  unfold actHoldBay at hr
  split at hr <;> cases hr
  split
  · exact holdBayTo_keepsBufferLaw _ s
  · exact .refl s

theorem downFrom_keepsBufferLaw {old : Link} (hold : old.isUp = false) (p : Port) (s : State) :
    KeepsBufferLaw s (downFrom old p s).state := by
  intro h
  unfold downFrom
  split
  · rename_i e; exact h.relink (by rw [e]; exact hold) rfl
  · exact h

theorem actReleaseBay_keepsBufferLaw : actReleaseBay.Moves KeepsBufferLaw := by
  intro params s r hr
  unfold actReleaseBay at hr
  split at hr <;> cases hr
  split
  · exact downFrom_keepsBufferLaw rfl _ s
  · exact .refl s

theorem actRetrain_keepsBufferLaw : actRetrain.Moves KeepsBufferLaw := by
  intro params s r hr
  unfold actRetrain at hr
  split at hr <;> cases hr
  split
  · exact downFrom_keepsBufferLaw rfl _ s
  · exact .refl s

theorem actCancelExchange_keepsBufferLaw : actCancelExchange.Moves KeepsBufferLaw := by
  intro params s r hr
  unfold actCancelExchange cancelEntry at hr
  split at hr <;> cases hr
  split
  · split
    · exact fun h => h.endAndRematch _ _
    · exact fun h => h.endAndRematch _ _
    · exact .refl s
    · exact .refl s
  · exact .refl s

theorem actReadCounters_keepsBufferLaw : actReadCounters.Moves KeepsBufferLaw := by
  intro params s r hr
  unfold actReadCounters at hr
  split at hr <;> cases hr
  split
  · rw [done_state]
    split
    · exact fun h => h.modPort fun k => k.count _
    · exact .refl s
  · rw [done_state]
    split
    · exact .of_ports rfl
    · exact .refl s
  · exact .refl s

theorem actReadInbox_ports : actReadInbox.Moves fun s t => t.ports = s.ports := by
  intro params s r hr
  unfold actReadInbox at hr
  split at hr <;> cases hr
  split <;> rfl

theorem actSetStreams_ports : actSetStreams.Moves fun s t => t.ports = s.ports := by
  intro forwarding fix params s r hr
  unfold actSetStreams setStreamsTo at hr
  split at hr <;> cases hr
  dsimp only
  split
  · rfl
  · split <;> rfl

theorem actOpenRouting_ports : actOpenRouting.Moves fun s t => t.ports = s.ports := by
  intro params s r hr
  rcases actOpenRouting_cases hr with e | ⟨_, _, e⟩ <;> rw [e]
  rfl

theorem actOpenRoutingRecord_ports : actOpenRoutingRecord.Moves fun s t => t.ports = s.ports := by
  intro forwarding fix params s r hr
  rcases actOpenRoutingRecord_cases hr with e | ⟨_, e⟩ <;> rw [e]
  rfl

theorem actCloseRouting_keepsBufferLaw : actCloseRouting.Moves KeepsBufferLaw := by
  intro params s r hr
  rcases actCloseRouting_cases hr with e | ⟨_, e⟩ <;> rw [e]
  · exact .refl s
  · exact fun h => BufferLaw.redecideAll (s := s.setRouterState _) (h.of_ports rfl)

theorem loadAct_keepsBufferLaw {kind : Byte} {act : SettingAct} (h : loadAct kind = some act) : act.Moves KeepsBufferLaw := by
  have plain : ∀ {a : SettingAct}, a.Moves Sets → a.Moves KeepsBufferLaw := fun k f fix =>
    (k f fix).mono fun _ _ e => .of_ports e.ports
  have routes : ∀ {a : SettingAct}, a.Moves WritesRoutes → a.Moves KeepsBufferLaw := fun k f fix =>
    (k f fix).mono fun _ _ ⟨_, e⟩ => .of_ports (e ▸ rfl)
  have same : ∀ {a : SettingAct}, a.Moves SameStation → a.Moves KeepsBufferLaw := fun k =>
    routes fun f fix => (k f fix).mono fun _ _ => SameStation.writesRoutes
  have acts := loadAct_cases h
  simp only [List.mem_cons, List.not_mem_nil, or_false] at acts
  obtain rfl | rfl | rfl | rfl | rfl | rfl | rfl | rfl | rfl | rfl | rfl | rfl | rfl := acts
  · exact routes actSetStation_writesRoutes
  · exact same actSetBayRange_sameStation
  · exact same actSetWindow_sameStation
  · exact same actSetDirected_sameStation
  · exact same actSetPermits_sameStation
  · exact same actSetSpoiled_sameStation
  · exact plain actSetQuota_sets
  · exact plain actSetExchangeTimers_sets
  · exact plain actSetStallLimit_sets
  · exact actSetLink_keepsBufferLaw
  · exact plain actSetReporting_sets
  · exact fun f fix => (actSetStreams_ports f fix).mono fun _ _ => .of_ports
  · exact fun f fix => (actOpenRoutingRecord_ports f fix).mono fun _ _ => .of_ports

/-! ## Events -/

theorem BufferLaw.abandon {s : State} (h : BufferLaw s) : BufferLaw s.abandon := by
  unfold State.abandon
  split
  · exact (h.elapse _).of_ports rfl
  · exact h

theorem BufferLaw.returnCredit {s : State} (h : BufferLaw s) (p : Port) (c : FrameClass) : BufferLaw (s.returnCredit p c) := by
  unfold State.returnCredit
  dsimp only
  split
  · rename_i e
    obtain ⟨up, _, owed⟩ := e
    exact BufferLaw.emit (h.modPort fun k => k.returnCredit up owed) _
  · exact h

theorem BufferLaw.creditArrives {s : State} (h : BufferLaw s) (p : Port) (c : FrameClass) : BufferLaw (s.creditArrives p c) := by
  unfold State.creditArrives
  dsimp only
  split
  · rename_i g hg
    split
    · rename_i e
      exact h.modPort fun k => k.gainPartner hg e.1 e.2
    · exact h
  · exact h

theorem BufferLaw.quarantineEnds {s : State} (h : BufferLaw s) (i : RouterTag) : BufferLaw (s.quarantineEnds i) := by
  unfold State.quarantineEnds
  split
  · exact (h.elapse _).setEntry _ _
  · exact h
  · exact h
  · exact h

theorem BufferLaw.tryTraining {s : State} (h : BufferLaw s) (p : Port) : BufferLaw (s.tryTraining p) := by
  unfold State.tryTraining
  split
  · rename_i e
    split
    · exact h.startTraining (by rw [e]; rfl)
    · exact h
  · exact h

theorem BufferLaw.quietEnds {s : State} (h : BufferLaw s) (p : Port) : BufferLaw (s.quietEnds p) := by
  unfold State.quietEnds
  split
  · rename_i q e
    refine BufferLaw.tryTraining (BufferLaw.modPort (h.elapse q) fun k => k.withLink ?_ rfl) p
    rw [State.elapse_port]
    unfold PortState.elapse
    dsimp only
    rw [e]
    rfl
  · exact h

theorem BufferLaw.progress {s : State} {p : Port} (h : BufferLaw s) (hp : (s.port p).link.isUp = false) (a : Attempt) :
    BufferLaw (s.progress p a) := by
  have training : BufferLaw (s.setLink p (.training a)) := h.modPort fun k => k.withLink hp rfl
  unfold State.progress
  split
  · split
    · exact h.comeUp hp _
    · exact training
  · exact training

theorem BufferLaw.greetingArrives {s : State} (h : BufferLaw s) (p : Port) (bytes : List Byte) :
    BufferLaw (s.greetingArrives p bytes) := by
  unfold State.greetingArrives State.greetingInTraining
  split
  · rename_i a e
    have down : (s.port p).link.isUp = false := by rw [e]; rfl
    split
    · exact h.damaged p
    · exact h.of_ports rfl
    · exact h.failAttempt down _
    · exact BufferLaw.progress (h.emit _) down _
  · split
    · exact h.damaged p
    · exact h.leaveUp p rfl _
  · exact h

theorem BufferLaw.acceptArrives {s : State} (h : BufferLaw s) (p : Port) : BufferLaw (s.acceptArrives p) := by
  unfold State.acceptArrives
  split
  · rename_i a e
    split
    · exact h.progress (by rw [e]; rfl) _
    · exact h
  · exact h

theorem BufferLaw.attemptTimesOut {s : State} (h : BufferLaw s) (p : Port) : BufferLaw (s.attemptTimesOut p) := by
  unfold State.attemptTimesOut
  split
  · rename_i a e
    refine (h.elapse a.left).failAttempt ?_ _
    rw [State.elapse_port]
    unfold PortState.elapse
    dsimp only
    rw [e]
    rfl
  · exact h

theorem BufferLaw.signalLost {s : State} (h : BufferLaw s) (p : Port) : BufferLaw (s.signalLost p) := by
  unfold State.signalLost
  split
  · exact h.leaveUp p rfl _
  · rename_i e; exact h.modPort fun k => k.withLink (by rw [e]; rfl) rfl
  · exact h

theorem BufferLaw.windowExpires {s : State} (h : BufferLaw s) (p : Port) : BufferLaw (s.windowExpires p) := by
  unfold State.windowExpires
  split
  · exact (h.elapse _).modPort fun k => k.windowTail
  · exact h

theorem BufferLaw.lastByte {s : State} (h : BufferLaw s) (p : Port) : BufferLaw (s.lastByte p) := by
  unfold State.lastByte
  split
  · exact BufferLaw.emit (h.modPort fun k => k.sent) _
  · exact h

theorem BufferLaw.reset {s : State} (h : s.ports = PerPort.const PortState.reset) : BufferLaw s := fun p => by
  unfold State.port
  rw [h, PerPort.get_const]
  exact .reset

theorem body_keepsBufferLaw (i : Instr) (s : State) (h : BufferLaw s) : BufferLaw (i.body s) := by
  have command : ∀ {act : Act}, act.Moves KeepsBufferLaw → ∀ c, BufferLaw (State.runAct c act s) := fun k c =>
    runAct_keeps BufferLaw.law k c h
  have table : i.writesRoutes = true → BufferLaw (i.body s) := fun hi =>
    let ⟨r, e⟩ := body_writesRoutes hi s
    BufferLaw.law _ _ e (h.of_ports rfl)
  cases i with
  | setStation m => exact table rfl
  | setBayRange m => exact table rfl
  | setWindow m => exact table rfl
  | setDirected m => exact table rfl
  | setPermits m => exact table rfl
  | setSpoiled m => exact table rfl
  | readInbox m => exact command (actReadInbox_ports.mono fun _ _ => .of_ports) _
  | issueStore m => exact h.startStore _
  | sendNotice m => exact h.startNotice _
  | issueFetch m => exact h.startFetch _
  | cancelExchange m => exact command actCancelExchange_keepsBufferLaw _
  | setLink m => exact command actSetLink_keepsBufferLaw.host _
  | holdBay m => exact command actHoldBay_keepsBufferLaw _
  | releaseBay m => exact command actReleaseBay_keepsBufferLaw _
  | retrain m => exact command actRetrain_keepsBufferLaw _
  | readCounters m => exact command actReadCounters_keepsBufferLaw _
  | setStreams m => exact command (actSetStreams_ports.host.mono fun _ _ => .of_ports) _
  | resetRouter m =>
    rcases State.startReset_cases ⟨0x70, m⟩ s with e | ⟨cause, t, e⟩
    · exact BufferLaw.law _ _ e h
    · exact (congrArg BufferLaw e).mpr (.reset rfl)
  | openRouting m => exact command (actOpenRouting_ports.mono fun _ _ => .of_ports) _
  | closeRouting m => exact command actCloseRouting_keepsBufferLaw _
  | messageAbandoned => exact h.abandon
  | restarted =>
    rcases State.sendRestarted_cases s with e | ⟨o, t, report, _, k, e⟩
    · exact (congrArg BufferLaw e).mpr h
    · exact (congrArg BufferLaw e).mpr (h.of_ports k.ports)
  | powerOnReset r1 r0 => exact .reset rfl
  | pornLow => exact .reset rfl
  | resetSymbol p =>
    rcases State.resetArrives_cases p s with e | ⟨cause, t, e⟩
    · exact BufferLaw.law _ _ e h
    · exact (congrArg BufferLaw e).mpr (.reset rfl)
  | loadImageRead r =>
    rcases State.loadImage_cases r s with e | ⟨t, ph, _, k, e⟩
    · exact (congrArg BufferLaw e).mpr h
    · exact (congrArg BufferLaw e).mpr (h.of_ports k.ports)
  | loadRecord =>
    rcases replay_cases s with e | ⟨n, r, rest, report, ph, _, e⟩
    · exact (congrArg BufferLaw e).mpr h
    · have record : KeepsBufferLaw s (runRecord r s).state := runRecord_moves r (.refl s) fun kind act hact fix params =>
        loadAct_keepsBufferLaw hact _ fix params s
      exact (congrArg BufferLaw e).mpr ((record h).of_ports rfl)
  | frameArrival p c bytes => exact h.frameArrives p c bytes
  | laneGrant p c => exact h.grantLane p c
  | transmitFrame p => exact h.transmit p
  | sendCreditReturn p c => exact h.returnCredit p c
  | creditReturn p c => exact h.creditArrives p c
  | stallTimerRunsOut timer => exact h.stall timer
  | deadlineRunsOut tag => exact h.deadlineEnds tag
  | quarantineRunsOut tag => exact h.quarantineEnds tag
  | quietIntervalEnd p => exact h.quietEnds p
  | partnerSignalPresent p => exact h.tryTraining p
  | greeting p bytes => exact h.greetingArrives p bytes
  | accept p => exact h.acceptArrives p
  | trainingTimeout p => exact h.attemptTimesOut p
  | partnerSignalLoss p => exact h.signalLost p
  | damagedWindowExpiry p => exact h.windowExpires p
  | frameLastByteSent p => exact h.lastByte p
  | _ => exact BufferLaw.law _ _ (body_alike rfl s) h

/-- Settles O58: each row over traffic, links and credits keeps the bounds of every port, and every other row leaves the ports alone. -/
theorem everyStepKeepsTheBufferLaw : Obligations.EveryStepKeepsTheBufferLaw := fun _ _ hs h =>
  step_keeps BufferLaw.law (fun _ k => k.elapse 1) (fun i s _ => body_keepsBufferLaw i s) hs h

end Sys2Proof.Machine
end

section
/-! What traffic does to the heads of the request classes and to the inbox (R43, R57, R61): a head that waits is there, it waits for a
lane only while the router forwards, and the inbox stays within its size. -/

namespace Sys2Proof.Machine

/-- A waiting state belongs to a head (R43), and it is for a lane only while the router forwards (R57). -/
def HeadOk (forwards : Bool) (x : PortState) : Prop :=
  (x.requestWait ≠ none → x.requests ≠ []) ∧ (forwards = false → ∀ d left, x.requestWait ≠ some (.lane d left))

theorem forwardingLaw_iff (s : State) : ForwardingLaw s ↔ ∀ p, HeadOk s.isForwarding (s.port p) :=
  ⟨fun h p => ⟨h.1 p, fun f => h.2 f p⟩, fun h => ⟨fun p => (h p).1, fun f p => (h p).2 f⟩⟩

/-- No head waits. -/
theorem HeadOk.of_none {b : Bool} {x : PortState} (h : x.requestWait = none) : HeadOk b x :=
  ⟨fun k => absurd h k, fun _ _ _ k => by rw [h] at k; cases k⟩

theorem HeadOk.congr {b : Bool} {x y : PortState} (hw : y.requestWait = x.requestWait) (hq : y.requests = x.requests)
    (h : HeadOk b x) : HeadOk b y := by
  unfold HeadOk
  rw [hw, hq]
  exact h

theorem HeadOk.elapse {b : Bool} {x : PortState} (n : Nat) (h : HeadOk b x) : HeadOk b (x.elapse n) := by
  refine ⟨fun k => h.1 fun e => k ?_, fun f d left e => ?_⟩
  · simp [PortState.elapse, e]
  · obtain ⟨w, hw, he⟩ := Option.map_eq_some_iff.mp e
    cases w with
    | lane e l => exact h.2 f e l hw
    | answerSlot st l => cases he

theorem PortState.popRequest_requestWait (x : PortState) : x.popRequest.requestWait = none := by
  rw [PortState.popRequest_eq]

/-- What a row of traffic does leaves the heads and the inbox in order. -/
structure Tidy (s t : State) : Prop where
  state : t.loader.state = s.loader.state
  heads : ∀ p b, (s.isForwarding = true → b = true) → HeadOk b (s.port p) → HeadOk b (t.port p)
  inbox : s.inbox.length ≤ 16 → t.inbox.length ≤ 16

theorem Tidy.refl (s : State) : Tidy s s := ⟨rfl, fun _ _ _ h => h, fun h => h⟩

theorem isForwarding_congr {s t : State} (h : t.loader.state = s.loader.state) : t.isForwarding = s.isForwarding := by
  unfold State.isForwarding
  rw [h]

theorem Tidy.isForwarding {s t : State} (h : Tidy s t) : t.isForwarding = s.isForwarding := isForwarding_congr h.state

theorem Tidy.trans {s t u : State} (h : Tidy s t) (k : Tidy t u) : Tidy s u :=
  ⟨k.state.trans h.state, fun p b hb hp => k.heads p b (fun f => hb (h.isForwarding ▸ f)) (h.heads p b hb hp), fun n => k.inbox (h.inbox n)⟩

theorem Tidy.forwardingLaw {s t : State} (h : Tidy s t) (k : ForwardingLaw s) : ForwardingLaw t := by
  rw [forwardingLaw_iff] at k ⊢
  rw [h.isForwarding]
  exact fun p => h.heads p _ (fun f => f) (k p)

/-! ## Small operations -/

theorem Tidy.of_blocks {s t : State} (hs : t.loader.state = s.loader.state) (hp : t.ports = s.ports) (hi : t.inbox = s.inbox) :
    Tidy s t :=
  ⟨hs, fun p _ _ k => by unfold State.port at k ⊢; rwa [hp], fun n => by rwa [hi]⟩

theorem Alike.tidy {s t : State} (h : Alike s t) : Tidy s t := .of_blocks (congrArg _ h.loader) h.ports h.inbox

theorem Tidy.modPort {p : Port} {f : PortState → PortState} {s : State}
    (h : ∀ b, (s.isForwarding = true → b = true) → HeadOk b (s.port p) → HeadOk b (f (s.port p))) : Tidy s (s.modPort p f) := by
  refine ⟨rfl, fun q b hb k => ?_, fun n => n⟩
  rw [State.port_modPort]
  split
  · rename_i e; exact h b hb (e ▸ k)
  · exact k

/-- A port changed in neither its request class nor its waiting state. -/
theorem Tidy.modPort_same {p : Port} {f : PortState → PortState} {s : State} (hw : (f (s.port p)).requestWait = (s.port p).requestWait)
    (hq : (f (s.port p)).requests = (s.port p).requests) : Tidy s (s.modPort p f) := .modPort fun _ _ k => k.congr hw hq

/-- A port in which no head waits any more. -/
theorem Tidy.modPort_idle {p : Port} {f : PortState → PortState} {s : State} (h : (f (s.port p)).requestWait = none) :
    Tidy s (s.modPort p f) := .modPort fun _ _ _ => .of_none h

theorem Tidy.popRequest (p : Port) (s : State) : Tidy s (s.modPort p PortState.popRequest) :=
  .modPort_idle (PortState.popRequest_requestWait _)

theorem Tidy.dropRequest (p : Port) (s : State) : Tidy s (s.dropRequest p) :=
  .modPort_idle (PortState.popRequest_requestWait _)

theorem Tidy.popAnswer (p : Port) (s : State) : Tidy s (s.modPort p PortState.popAnswer) :=
  .modPort_same (by rw [PortState.popAnswer_eq]) (by rw [PortState.popAnswer_eq])

theorem Tidy.dropAnswer (p : Port) (s : State) : Tidy s (s.dropAnswer p) := by
  rw [State.dropAnswer_eq]
  exact .modPort_same rfl rfl

theorem Tidy.latch (i : SetId) (c : Condition) (s : State) : Tidy s (s.latch i c) := (Alike.latch i c s).tidy

theorem Tidy.detect (o : Origin) (c : Condition) (x : Subject) (s : State) : Tidy s (s.detect o c x) := (Alike.detect o c x s).tidy

theorem Tidy.withHostFetch (h : HostFetch) (s : State) : Tidy s { s with hostFetch := h } := .of_blocks rfl rfl rfl

theorem Tidy.setEntry (i : RouterTag) (e : Entry) (s : State) : Tidy s (s.setEntry i e) := .of_blocks rfl rfl rfl

theorem Tidy.setPointer (p : Port) (c : FrameClass) (o : Origin) (s : State) : Tidy s (s.setPointer p c o) := .modPort_same rfl rfl

theorem Tidy.elapse (n : Nat) (s : State) : Tidy s (s.elapse n) :=
  ⟨rfl, fun p _ _ k => by rw [State.elapse_port]; exact k.elapse n, fun h => h⟩

/-! ## The exchange table -/

theorem Tidy.withdrawQueued (i : RouterTag) (x : Exchange) (issue : Issue) (s : State) : Tidy s (s.withdrawQueued i x issue) := by
  cases issue with
  | queued => exact .modPort_same (by rw [PortState.withdrawFetch_eq]) (by rw [PortState.withdrawFetch_eq])
  | sent => exact .refl s

theorem Tidy.tellEnd (cause : EndCause) (o : Requester) (s : State) : Tidy s (s.tellEnd cause o) := by
  unfold State.tellEnd
  split
  · split
    · exact .modPort_same rfl rfl
    · exact .refl s
  · exact .of_blocks rfl rfl rfl

theorem Tidy.endEntry (i : RouterTag) (cause : EndCause) (w : Bool) (s : State) : Tidy s (s.endEntry i cause w) := by
  have withdrawn : ∀ x issue t, Tidy t (if w = true then t.withdrawQueued i x issue else t) := by
    intro x issue t
    split
    · exact .withdrawQueued _ _ _ t
    · exact .refl t
  unfold State.endEntry State.toQuarantine
  split
  · exact ((Tidy.tellEnd _ _ s).trans (withdrawn _ _ _)).trans (.setEntry _ _ _)
  · exact (withdrawn _ _ s).trans (.setEntry _ _ _)
  · exact .refl s
  · exact .refl s

theorem Tidy.freeEntry (i : RouterTag) (x : Exchange) (issue : Issue) (s : State) : Tidy s (s.freeEntry i x issue) :=
  (Tidy.withdrawQueued _ _ _ s).trans (.setEntry _ _ _)

theorem Tidy.noteForwarded (i : RouterTag) (x : Exchange) (issue : Issue) (d : Nat) (a : Answer) (s : State) :
    Tidy s (s.noteForwarded i x issue d a) := by
  unfold State.noteForwarded
  split
  · exact .freeEntry _ _ _ s
  · exact .setEntry _ _ s

theorem Tidy.conclude (st : Status) (v : Values) (s : State) : Tidy s (s.conclude st v) := by
  unfold State.conclude
  split
  · exact (Alike.offerResponse _ _ s).tidy
  · exact .refl s

/-! ## Grants -/

theorem Tidy.grantSlot (p : Port) (s : State) : Tidy s (s.grantSlot p) := by
  unfold State.grantSlot
  split
  · exact ((Tidy.modPort_same rfl rfl).trans (.dropRequest _ _)).trans (.setPointer _ _ _ _)
  · exact .refl s

theorem Tidy.grantForward (p o : Port) (s : State) : Tidy s (s.grantForward p o) := by
  unfold State.grantForward
  split
  · split
    · split
      · exact (((Tidy.modPort_same rfl rfl).trans (.noteForwarded _ _ _ _ _ _)).trans (.popAnswer _ _)).trans (.setPointer _ _ _ _)
      · exact .refl s
    · exact .refl s
  · exact .refl s

theorem Tidy.grantAnswerLane (d : Port) (o : Origin) (s : State) : Tidy s (s.grantAnswerLane d o) := by
  unfold State.grantAnswerLane
  split
  · split
    · exact .grantSlot _ s
    · exact .grantForward _ _ s
  · exact .refl s

theorem Tidy.offerAnswerLane (d : Port) (o : Origin) (s : State) : Tidy s (s.offerAnswerLane d o) := by
  unfold State.offerAnswerLane
  split
  · exact .grantAnswerLane _ _ s
  · exact .refl s

/-- A FETCH refused waits for an answer slot at the head of its class; it must be there. -/
theorem Tidy.refuseHead {p : Port} {s : State} (hq : (s.port p).requests ≠ []) (r : Request Byte) (st : AnsStatus) (left : Nat) :
    Tidy s (s.refuseHead p r st left) := by
  cases r with
  | store a d sp => exact .dropRequest p s
  | fetch a n t sp =>
    refine Tidy.trans (.modPort fun _ _ _ => ⟨fun _ => hq, fun _ _ _ e => ?_⟩) (.offerAnswerLane _ _ _)
    cases e
  | notice t f c d sp => exact .dropRequest p s

theorem Tidy.placeRequest (d : Port) (o : Origin) (r : Request RouterTag) (s : State) : Tidy s (s.placeRequest d o r) :=
  (Tidy.modPort_same rfl rfl).trans (.setPointer _ _ _ _)

theorem Tidy.openEntry (i : RouterTag) (o : Requester) (d : Port) (a : Word32) (n : Nat) (s : State) :
    Tidy s (s.openEntry i o d a n) := .setEntry _ _ s

theorem Tidy.grantLink (d p : Port) (s : State) : Tidy s (s.grantLink d p) := by
  unfold State.grantLink
  split
  · rename_i w left r rest hw hq
    split
    · split
      · exact ((Tidy.openEntry _ _ _ _ _ s).trans (.placeRequest _ _ _ _)).trans (.popRequest _ _)
      · refine ((Tidy.setPointer _ _ _ s).trans (.detect _ _ _ _)).trans (.refuseHead ?_ _ _ _)
        rw [((SameClasses.setPointer d .request (.link p) s).trans (.detect _ _ _ _) p).1, hq]
        exact List.cons_ne_nil _ _
    · exact (Tidy.placeRequest _ _ _ s).trans (.popRequest _ _)
    · exact (Tidy.placeRequest _ _ _ s).trans (.popRequest _ _)
  · exact .refl s

theorem Tidy.grantHost (d : Port) (s : State) : Tidy s (s.grantHost d) := by
  unfold State.grantHost
  split
  · split
    · exact (((Tidy.openEntry _ _ _ _ _ s).trans (.placeRequest _ _ _ _)).trans (.withHostFetch _ _)).trans (.conclude _ _ _)
    · exact ((Tidy.setPointer _ _ _ s).trans (.detect _ _ _ _)).trans (.conclude _ _ _)
  · exact (Tidy.placeRequest _ _ _ s).trans (.conclude _ _ _)
  · exact (Tidy.placeRequest _ _ _ s).trans (.conclude _ _ _)
  · exact .refl s

theorem Tidy.grantRequestLane (d : Port) (o : Origin) (s : State) : Tidy s (s.grantRequestLane d o) := by
  cases o with
  | link p => exact .grantLink d p s
  | m => exact .grantHost d s

theorem Tidy.offerRequestLane (d : Port) (o : Origin) (s : State) : Tidy s (s.offerRequestLane d o) := by
  unfold State.offerRequestLane
  split
  · exact .grantRequestLane _ _ s
  · exact .refl s

/-! ## Heads -/

/-- A head from a link is placed only while the router forwards (step 1, N2). -/
theorem State.isForwarding_of_place {s : State} {p d : Port} {r : Request Byte} (h : s.decideHead (.link p) r = .place d) :
    s.isForwarding = true := by
  by_contra idle
  have off : s.isForwarding = false := Bool.eq_false_of_not_eq_true idle
  have request : ∀ a n, (s.routeRequest (.link p) a n).verdict = .refuse .notReady .notReadyDrop := fun a n => by
    simp [State.routeRequest, off]
  unfold State.decideHead at h
  cases r with
  | store a b sp =>
    dsimp only at h
    rw [request] at h
    cases h
  | fetch a n t sp =>
    dsimp only at h
    rw [request] at h
    cases h
  | notice st f c b sp =>
    have notice : (s.routeNotice (.link p) st).verdict = .inbox ∨ (s.routeNotice (.link p) st).verdict = .drop .notReadyDrop := by
      unfold State.routeNotice
      split
      · exact .inl rfl
      · exact .inr (by simp [off])
    dsimp only at h
    rcases notice with e | e <;> rw [e] at h <;> cases h

theorem Tidy.appendInbox (r : NoticeRecord) (s : State) : Tidy s (s.appendInbox r) := by
  unfold State.appendInbox
  split
  · exact (Tidy.latch _ _ s).trans (.of_blocks rfl rfl rfl)
  · rename_i room
    refine Tidy.trans (t := { s with inbox := s.inbox ++ [r] }) ⟨rfl, fun _ _ _ k => k, fun _ => ?_⟩ (.latch _ _ _)
    have free : ¬Config.inboxSize ≤ s.inbox.length := fun k => room (decide_eq_true k)
    simpa [Config.inboxSize] using free

theorem Tidy.inboxHead (p : Port) (r : Request Byte) (s : State) : Tidy s (s.inboxHead p r) := by
  unfold State.inboxHead
  split
  · split
    · exact (Tidy.appendInbox _ s).trans (.dropRequest _ _)
    · exact (Tidy.appendInbox _ s).trans (.popRequest _ _)
  · exact .refl s

theorem Tidy.takeUpRequest {p : Port} {s : State} (hq : (s.port p).requests ≠ []) (r : Request Byte) : Tidy s (s.takeUpRequest p r) := by
  have h : Tidy s (if r.spoiled then s.detect (.link p) .spoiled r.subject else s)
      ∧ ((if r.spoiled then s.detect (.link p) .spoiled r.subject else s).port p).requests ≠ [] := by
    split
    · exact ⟨.detect _ _ _ s, by simpa using hq⟩
    · exact ⟨.refl s, hq⟩
  unfold State.takeUpRequest
  generalize (if r.spoiled then s.detect (.link p) .spoiled r.subject else s) = t at h
  obtain ⟨h, hq⟩ := h
  refine h.trans ?_
  dsimp only
  split
  · rename_i d hd
    have forwards := State.isForwarding_of_place hd
    refine Tidy.trans (.modPort fun b hb _ => ⟨fun _ => hq, fun off => ?_⟩) (.offerRequestLane _ _ _)
    exact absurd (off.symm.trans (hb forwards)) Bool.false_ne_true
  · exact .inboxHead _ _ t
  · exact (Tidy.detect _ _ _ t).trans (.refuseHead (by simpa using hq) _ _ _)
  · exact .dropRequest _ t
  · exact (Tidy.detect _ _ _ t).trans (.dropRequest _ _)

theorem Tidy.serveRequestsUpTo (n : Nat) (p : Port) (s : State) : Tidy s (s.serveRequestsUpTo n p) := by
  induction n generalizing s with
  | zero => exact .refl s
  | succ n ih =>
    unfold State.serveRequestsUpTo
    split
    · rename_i hq
      exact (Tidy.takeUpRequest (by rw [hq]; exact List.cons_ne_nil _ _) _).trans (ih _)
    · exact .refl s

theorem Tidy.serveRequests (p : Port) (s : State) : Tidy s (s.serveRequests p) := .serveRequestsUpTo _ _ s

theorem Tidy.matchOpen (p : Port) (a : Answer) (i : RouterTag) (x : Exchange) (issue : Issue) (d : Nat) (s : State) :
    Tidy s (s.matchOpen p a i x issue d) := by
  have discarded : ∀ c y cause, Tidy s (((s.detect (.link p) c y).dropAnswer p).endEntry i cause true) := fun _ _ _ =>
    ((Tidy.detect _ _ _ s).trans (.dropAnswer _ _)).trans (.endEntry _ _ _ _)
  unfold State.matchOpen
  dsimp only
  split
  · exact discarded _ _ _
  · split
    · exact ((Tidy.noteForwarded _ _ _ _ _ s).trans (.withHostFetch _ _)).trans (.popAnswer _ _)
    · split
      · exact discarded _ _ _
      · exact (Tidy.modPort_same rfl rfl).trans (.offerAnswerLane _ _ _)

theorem Tidy.matchAnswer (p : Port) (a : Answer) (s : State) : Tidy s (s.matchAnswer p a) := by
  have stray : Tidy s ((s.detect (.link p) .strayAnswer (s.answerSubject a)).dropAnswer p) :=
    (Tidy.detect _ _ _ s).trans (.dropAnswer _ _)
  unfold State.matchAnswer
  dsimp only
  split
  · exact stray
  · exact stray
  · split
    · exact .matchOpen _ _ _ _ _ _ s
    · exact stray
  · split
    · split
      · exact (Tidy.dropAnswer _ s).trans (.freeEntry _ _ _ _)
      · exact .dropAnswer _ s
    · exact stray
  · split
    · exact (Tidy.detect _ _ _ s).trans (.dropAnswer _ _)
    · exact stray

theorem Tidy.takeUpAnswer (p : Port) (a : Answer) (s : State) : Tidy s (s.takeUpAnswer p a) := by
  unfold State.takeUpAnswer
  split
  · exact (Tidy.detect _ _ _ s).trans (.matchAnswer _ _ _)
  · exact .matchAnswer _ _ s

theorem Tidy.serveAnswersUpTo (n : Nat) (p : Port) (s : State) : Tidy s (s.serveAnswersUpTo n p) := by
  induction n generalizing s with
  | zero => exact .refl s
  | succ n ih =>
    unfold State.serveAnswersUpTo
    split
    · exact (Tidy.takeUpAnswer _ _ s).trans (ih _)
    · exact .refl s

theorem Tidy.serveAnswers (p : Port) (s : State) : Tidy s (s.serveAnswers p) := .serveAnswersUpTo _ _ s

theorem Tidy.rematch (p : Port) (s : State) : Tidy s (s.rematch p) := by
  unfold State.rematch
  split
  · split
    · exact .refl s
    · exact (Tidy.matchAnswer _ _ s).trans (.serveAnswers _ _)
  · exact .refl s

theorem Tidy.endAndRematch (i : RouterTag) (cause : EndCause) (s : State) : Tidy s (s.endAndRematch i cause) := by
  unfold State.endAndRematch
  split
  · exact (Tidy.endEntry _ _ _ s).trans (.rematch _ _)
  · exact .refl s

theorem Tidy.redecideLink (p : Port) (st : AnsStatus) (c : Condition) (s : State) : Tidy s (s.redecideLink p st c) := by
  unfold State.redecideLink
  split
  · rename_i hq
    refine ((Tidy.detect _ _ _ s).trans (.refuseHead ?_ _ _ _)).trans (.serveRequests _ _)
    rw [State.detect_port, hq]
    exact List.cons_ne_nil _ _
  · exact .refl s

theorem Tidy.redecideHost (s : State) : Tidy s s.redecideHost := by
  unfold State.redecideHost
  split
  · exact (Tidy.detect _ _ _ s).trans (.conclude _ _ _)
  · exact .refl s

theorem Tidy.foldl {α : Type} (l : List α) (f : State → α → State) (h : ∀ s a, Tidy s (f s a)) (s : State) : Tidy s (l.foldl f s) := by
  induction l generalizing s with
  | nil => exact .refl s
  | cons a l ih => exact (h s a).trans (ih _)

theorem Tidy.redecideFor (d : Port) (s : State) : Tidy s (s.redecideFor d) := by
  have links : Tidy s (Port.all.foldl
      (fun s p => if s.wantsRequestLane d (.link p) then s.redecideLink p .portDown .noRoute else s) s) := by
    refine .foldl _ _ (fun s p => ?_) s
    split
    · exact .redecideLink _ _ _ s
    · exact .refl s
  unfold State.redecideFor
  refine links.trans ?_
  dsimp only
  split
  · exact .redecideHost _
  · exact .refl _

theorem Tidy.serveOrigin (c : FrameClass) (o : Origin) (s : State) : Tidy s (s.serveOrigin c o) := by
  unfold State.serveOrigin
  split
  · exact .serveRequests _ s
  · exact (Tidy.serveAnswers _ s).trans (.serveRequests _ _)
  · exact .refl s

theorem Tidy.grantDown (d : Port) (l : List Origin) (s : State) : Tidy s (s.grantDown d l) := by
  induction l generalizing s with
  | nil => exact .refl s
  | cons o l ih =>
    unfold State.grantDown
    split
    · dsimp only
      split
      · exact ((Tidy.grantRequestLane _ _ s).trans (.serveOrigin _ _ _)).trans (ih _)
      · exact (Tidy.grantRequestLane _ _ s).trans (.serveOrigin _ _ _)
    · exact ih s

theorem Tidy.grantLane (d : Port) (c : FrameClass) (s : State) : Tidy s (s.grantLane d c) := by
  unfold State.grantLane
  split
  · exact .grantDown _ _ s
  · split
    · exact (Tidy.grantAnswerLane _ _ s).trans (.serveOrigin _ _ _)
    · exact .refl s

/-! ## Links -/

theorem Tidy.endLinkLost (p : Port) (s : State) : Tidy s (s.endLinkLost p) := by
  refine .foldl _ _ (fun s i => ?_) s
  split
  · exact .endEntry _ _ _ s
  · exact .refl s

theorem Tidy.orphan (p : Port) (s : State) : Tidy s (s.orphan p) := .of_blocks rfl rfl rfl

theorem Tidy.leaveUp (p : Port) (l : Link) (cause : DownCause) (s : State) : Tidy s (s.leaveUp p l cause) := by
  have emptied : Tidy s ((s.latch (.origin (.link p)) .linkDown).modPort p (PortState.leaveUp l cause)) :=
    (Tidy.latch _ _ s).trans (.modPort_idle rfl)
  unfold State.leaveUp
  exact (((emptied.trans (.endLinkLost p _)).trans (.orphan p _)).trans (.redecideFor p _)).trans
    (.foldl _ _ (fun s q => .rematch q s) _)

theorem Tidy.damaged (p : Port) (s : State) : Tidy s (s.damaged p) := by
  have counted : Tidy s (s.modPort p (PortState.count Counters.addDamaged)) := .modPort_same rfl rfl
  unfold State.damaged
  refine counted.trans ?_
  dsimp only
  split
  · split
    · exact .leaveUp _ _ _ _
    · exact .modPort_same rfl rfl
  · exact .refl _

theorem Tidy.startTraining (p : Port) (s : State) : Tidy s (s.startTraining p) :=
  (Tidy.modPort_same rfl rfl).trans (Alike.emit _ _).tidy

theorem Tidy.tryTraining (p : Port) (s : State) : Tidy s (s.tryTraining p) := by
  unfold State.tryTraining
  split
  · split
    · exact .startTraining p s
    · exact .refl s
  · exact .refl s

theorem Tidy.setLink (p : Port) (l : Link) (s : State) : Tidy s (s.setLink p l) := .modPort_same rfl rfl

theorem Tidy.quietEnds (p : Port) (s : State) : Tidy s (s.quietEnds p) := by
  unfold State.quietEnds
  split
  · exact ((Tidy.elapse _ s).trans (.setLink _ _ _)).trans (.tryTraining _ _)
  · exact .refl s

theorem Tidy.comeUp (p : Port) (g : Greeting) (s : State) : Tidy s (s.comeUp p g) := (Tidy.modPort_same rfl rfl).trans (.latch _ _ _)

theorem Tidy.progress (p : Port) (a : Attempt) (s : State) : Tidy s (s.progress p a) := by
  unfold State.progress
  split
  · split
    · exact .comeUp _ _ s
    · exact .setLink _ _ s
  · exact .setLink _ _ s

theorem Tidy.failAttempt (p : Port) (cause : FailCause) (s : State) : Tidy s (s.failAttempt p cause) := by
  unfold State.failAttempt
  dsimp only
  split
  · exact (Tidy.modPort_same rfl rfl).trans (.setLink _ _ _)
  · exact ((Tidy.modPort_same rfl rfl).trans (.setLink _ _ _)).trans (.latch _ _ _)

theorem Tidy.greetingArrives (p : Port) (bytes : List Byte) (s : State) : Tidy s (s.greetingArrives p bytes) := by
  unfold State.greetingArrives State.greetingInTraining
  split
  · split
    · exact .damaged _ s
    · exact (Alike.emit _ s).tidy
    · exact .failAttempt _ _ s
    · exact (Alike.emit _ s).tidy.trans (.progress _ _ _)
  · split
    · exact .damaged _ s
    · exact .leaveUp _ _ _ s
  · exact .refl s

theorem Tidy.acceptArrives (p : Port) (s : State) : Tidy s (s.acceptArrives p) := by
  unfold State.acceptArrives
  split
  · split
    · exact .progress _ _ s
    · exact .refl s
  · exact .refl s

theorem Tidy.attemptTimesOut (p : Port) (s : State) : Tidy s (s.attemptTimesOut p) := by
  unfold State.attemptTimesOut
  split
  · exact (Tidy.elapse _ s).trans (.failAttempt _ _ _)
  · exact .refl s

theorem Tidy.signalLost (p : Port) (s : State) : Tidy s (s.signalLost p) := by
  unfold State.signalLost
  split
  · exact .leaveUp _ _ _ s
  · exact .setLink _ _ s
  · exact .refl s

/-! ## Arrivals, sending, run-outs -/

theorem Tidy.malformed (p : Port) (s : State) : Tidy s (s.malformed p) := (Tidy.latch _ _ s).trans (.modPort_same rfl rfl)

theorem Tidy.oweCredit (p : Port) (c : FrameClass) (s : State) : Tidy s (s.modPort p (PortState.oweCredit c)) := by
  refine .modPort_same ?_ ?_
  · unfold PortState.oweCredit; split <;> rfl
  · unfold PortState.oweCredit; split <;> rfl

/-- A frame enters the tail of its class: a head that waits is still there. -/
theorem Tidy.accept (p : Port) (f : Frame) (s : State) : Tidy s (s.modPort p (PortState.accept f)) := by
  cases f with
  | request r => exact .modPort fun _ _ k => ⟨fun _ => by simp [PortState.accept, PortState.count], k.2⟩
  | answer a => exact .modPort_same rfl rfl

theorem Tidy.frameArrives (p : Port) (c : FrameClass) (bytes : List Byte) (s : State) : Tidy s (s.frameArrives p c bytes) := by
  unfold State.frameArrives
  split
  · split
    · exact .malformed _ s
    · refine Tidy.trans (t := s.modPort p (PortState.useGranted c)) (.modPort_same rfl rfl) ?_
      unfold State.frameInCredit
      dsimp only
      split
      · exact (Tidy.oweCredit _ _ _).trans (.damaged _ _)
      · split
        · exact (Tidy.malformed _ _).trans (.oweCredit _ _ _)
        · rename_i f _
          refine (Tidy.accept p f _).trans ?_
          cases f with
          | request r => exact .serveRequests _ _
          | answer a => exact .serveAnswers _ _
  · split
    · exact .modPort_same rfl rfl
    · exact .damaged _ s

theorem Tidy.sendAnswer (p : Port) (a : LaneAnswer) (rest : List LaneAnswer) (s : State) : Tidy s (s.sendAnswer p a rest) := by
  refine .modPort_same ?_ ?_
  · dsimp only; split <;> rfl
  · dsimp only; split <;> rfl

theorem Tidy.sendRequest (p : Port) (r : LaneRequest) (rest : List LaneRequest) (s : State) : Tidy s (s.sendRequest p r rest) := by
  unfold State.sendRequest
  dsimp only
  split
  · exact Tidy.trans (.modPort_same rfl rfl) (.setEntry _ _ _)
  · exact .modPort_same rfl rfl
  · exact .modPort_same rfl rfl

theorem Tidy.transmit (p : Port) (s : State) : Tidy s (s.transmit p) := by
  unfold State.transmit
  dsimp only
  split
  · split
    · split
      · exact .sendAnswer _ _ _ s
      · split
        · split
          · exact .sendRequest _ _ _ s
          · exact .refl s
        · exact .refl s
    · split
      · exact .sendRequest _ _ _ s
      · exact .refl s
    · exact .refl s
  · exact .refl s

theorem Tidy.stall (t : StallTimer) (s : State) : Tidy s (s.stall t) := by
  unfold State.stall
  split
  · unfold State.stallRequest
    split
    · exact (((Tidy.elapse _ s).trans (.detect _ _ _ _)).trans (.dropRequest _ _)).trans (.serveRequests _ _)
    · exact .refl s
  · unfold State.stallAnswer
    split
    · dsimp only
      refine Tidy.trans (t := (_ : State)) ?_ (.serveAnswers _ _)
      split
      · exact (((Tidy.elapse _ s).trans (.detect _ _ _ _)).trans (.dropAnswer _ _)).trans (.endEntry _ _ _ _)
      · exact ((Tidy.elapse _ s).trans (.detect _ _ _ _)).trans (.dropAnswer _ _)
    · exact .refl s
  · unfold State.stallHost
    split
    · exact ((Tidy.elapse _ s).trans (.detect _ _ _ _)).trans (.conclude _ _ _)
    · exact .refl s

theorem Tidy.deadlineEnds (i : RouterTag) (s : State) : Tidy s (s.deadlineEnds i) := by
  unfold State.deadlineEnds
  split
  · exact ((Tidy.elapse _ s).trans (.detect _ _ _ _)).trans (.endAndRematch _ _ _)
  · exact (Tidy.elapse _ s).trans (.endAndRematch _ _ _)
  · exact .refl s
  · exact .refl s

theorem Tidy.quarantineEnds (i : RouterTag) (s : State) : Tidy s (s.quarantineEnds i) := by
  unfold State.quarantineEnds
  split
  · exact (Tidy.elapse _ s).trans (.setEntry _ _ _)
  · exact .refl s
  · exact .refl s
  · exact .refl s

theorem Tidy.abandon (s : State) : Tidy s s.abandon := by
  unfold State.abandon
  split
  · exact (Tidy.elapse _ s).trans (.of_blocks rfl rfl rfl)
  · exact .refl s

theorem Tidy.returnCredit (p : Port) (c : FrameClass) (s : State) : Tidy s (s.returnCredit p c) := by
  unfold State.returnCredit
  dsimp only
  split
  · exact Tidy.trans (.modPort_same rfl rfl) (Alike.emit _ _).tidy
  · exact .refl s

theorem Tidy.creditArrives (p : Port) (c : FrameClass) (s : State) : Tidy s (s.creditArrives p c) := by
  unfold State.creditArrives
  dsimp only
  split
  · split
    · exact .modPort_same rfl rfl
    · exact .refl s
  · exact .refl s

theorem Tidy.windowExpires (p : Port) (s : State) : Tidy s (s.windowExpires p) := by
  unfold State.windowExpires
  split
  · exact (Tidy.elapse _ s).trans (.modPort_same rfl rfl)
  · exact .refl s

theorem Tidy.lastByte (p : Port) (s : State) : Tidy s (s.lastByte p) := by
  unfold State.lastByte
  split
  · exact Tidy.trans (.modPort_same rfl rfl) (Alike.emit _ _).tidy
  · exact .refl s

/-! ## Host requests -/

theorem Tidy.respond (c : Message) (st : Status) (v : Values) (s : State) : Tidy s (s.respond c st v) := .of_blocks rfl rfl rfl

theorem Tidy.awaitHost (c : Message) (r : Request Unit) (d : Port) (s : State) : Tidy s (s.awaitHost c r d) :=
  Tidy.trans (t := { s with management := { s.management with running := some ⟨c, .awaitLane r d s.stallLimit.value⟩ } })
    (.of_blocks rfl rfl rfl) (.offerRequestLane d .m _)

theorem Tidy.hostInbox (c : Message) (r : Request Unit) (s : State) : Tidy s (s.hostInbox c r) := by
  unfold State.hostInbox
  split
  · split
    · exact (Tidy.appendInbox _ s).trans (.respond _ _ _ _)
    · exact (Tidy.appendInbox _ s).trans (.respond _ _ _ _)
  · exact .refl s

theorem Tidy.issueHost (c : Message) (r : Request Unit) (s : State) : Tidy s (s.issueHost c r) := by
  have h : Tidy s (if r.spoiled then s.detect .m .spoiled r.hostSubject else s) := by
    split
    · exact .detect _ _ _ s
    · exact .refl s
  unfold State.issueHost
  generalize (if r.spoiled then s.detect .m .spoiled r.hostSubject else s) = t at h
  refine h.trans ?_
  dsimp only
  split
  · exact .awaitHost c r _ t
  · exact .hostInbox c r t
  · exact (Tidy.detect _ _ _ t).trans (.respond _ _ _ _)
  · exact (Tidy.detect _ _ _ t).trans (.respond _ _ _ _)

theorem Tidy.startStore (c : Message) (s : State) : Tidy s (s.startStore c) := by
  unfold State.startStore
  split
  · exact .respond _ _ _ s
  · split
    · split
      · exact .respond _ _ _ s
      · exact .issueHost c _ s
    · exact .respond _ _ _ s

theorem Tidy.startNotice (c : Message) (s : State) : Tidy s (s.startNotice c) := by
  unfold State.startNotice
  split
  · split
    · exact .respond _ _ _ s
    · exact .issueHost c _ s
  · exact .respond _ _ _ s

theorem Tidy.startFetch (c : Message) (s : State) : Tidy s (s.startFetch c) := by
  unfold State.startFetch
  split
  · dsimp only
    split
    · exact .respond _ _ _ s
    · split
      · exact .respond _ _ _ s
      · exact .issueHost c _ s
  · exact .respond _ _ _ s

/-! ## Commands run whole -/

theorem Act.Moves.runAct_tidy {act : Act} (h : act.Moves Tidy) (c : Message) (s : State) : Tidy s (State.runAct c act s) :=
  runAct_keeps (P := Tidy s) (fun _ _ k hs => hs.trans k.tidy) (h.mono fun _ _ k hs => hs.trans k) c (.refl s)

theorem actReadInbox_tidy : actReadInbox.Moves Tidy := by
  intro params s r hr
  unfold actReadInbox at hr
  split at hr <;> cases hr
  split
  · exact .refl s
  · refine ⟨rfl, fun _ _ _ k => k, fun n => ?_⟩
    simp only [done_state, List.length_drop]
    omega

theorem actReadCounters_tidy : actReadCounters.Moves Tidy := by
  intro params s r hr
  unfold actReadCounters at hr
  split at hr <;> cases hr
  split
  · rw [done_state]
    split
    · exact .modPort_same rfl rfl
    · exact .refl s
  · rw [done_state]
    split
    · exact .of_blocks rfl rfl rfl
    · exact .refl s
  · exact .refl s

theorem actCancelExchange_tidy : actCancelExchange.Moves Tidy := by
  intro params s r hr
  unfold actCancelExchange cancelEntry at hr
  split at hr <;> cases hr
  split
  · split
    · exact .endAndRematch _ _ s
    · exact .endAndRematch _ _ s
    · exact .refl s
    · exact .refl s
  · exact .refl s

theorem applyEnable_tidy (p : Port) (enable : Bool) (s : State) : Tidy s (s.applyEnable p enable) := by
  unfold State.applyEnable
  split
  · exact .modPort_same rfl rfl
  · exact .refl s
  · exact .leaveUp _ _ _ s
  · exact .modPort_same rfl rfl
  · exact .refl s

theorem actSetLink_tidy : actSetLink.Moves Tidy := by
  intro forwarding fix params s r hr
  unfold actSetLink setLinkTo at hr
  split at hr
  · split at hr <;> cases hr
    · split
      · exact .refl s
      · refine writeItem_moves (.refl s) ?_
        rw [done_state]
        exact Tidy.trans (.modPort_same rfl rfl) (applyEnable_tidy _ _ _)
    · exact .refl s
  · cases hr

theorem holdBayTo_tidy (b : Bay) (s : State) : Tidy s (holdBayTo b s).state := by
  have held : Tidy s (s.modPort b.port fun x => { x with link := .held, attempts := 0 }) := .modPort_same rfl rfl
  unfold holdBayTo
  dsimp only
  split
  · rw [done_state]
    exact ((Alike.emit _ s).tidy.trans (.leaveUp _ _ _ _)).trans (.modPort_same rfl rfl)
  · exact .refl s
  · exact .refl s
  · exact held
  · exact held
  · exact held

theorem actHoldBay_tidy : actHoldBay.Moves Tidy := by
  intro params s r hr
  unfold actHoldBay at hr
  split at hr <;> cases hr
  split
  · exact holdBayTo_tidy _ s
  · exact .refl s

theorem downFrom_tidy (old : Link) (p : Port) (s : State) : Tidy s (downFrom old p s).state := by
  unfold downFrom
  split
  · rw [done_state]; exact .modPort_same rfl rfl
  · exact .refl s

theorem actReleaseBay_tidy : actReleaseBay.Moves Tidy := by
  intro params s r hr
  unfold actReleaseBay at hr
  split at hr <;> cases hr
  split
  · exact downFrom_tidy _ _ s
  · exact .refl s

theorem actRetrain_tidy : actRetrain.Moves Tidy := by
  intro params s r hr
  unfold actRetrain at hr
  split at hr <;> cases hr
  split
  · exact downFrom_tidy _ _ s
  · exact .refl s

/-- The rows of traffic leave the heads and the inbox in order. -/
theorem body_tidy {i : Instr} (h : i.isTraffic = true) (s : State) : Tidy s (i.body s) := by
  cases i with
  | readInbox m => exact actReadInbox_tidy.runAct_tidy _ s
  | issueStore m => exact .startStore _ s
  | sendNotice m => exact .startNotice _ s
  | cancelExchange m => exact actCancelExchange_tidy.runAct_tidy _ s
  | issueFetch m => exact .startFetch _ s
  | holdBay m => exact actHoldBay_tidy.runAct_tidy _ s
  | releaseBay m => exact actReleaseBay_tidy.runAct_tidy _ s
  | retrain m => exact actRetrain_tidy.runAct_tidy _ s
  | readCounters m => exact actReadCounters_tidy.runAct_tidy _ s
  | messageAbandoned => exact .abandon s
  | frameArrival p c bytes => exact .frameArrives p c bytes s
  | laneGrant p c => exact .grantLane p c s
  | transmitFrame p => exact .transmit p s
  | sendCreditReturn p c => exact .returnCredit p c s
  | creditReturn p c => exact .creditArrives p c s
  | stallTimerRunsOut timer => exact .stall timer s
  | deadlineRunsOut tag => exact .deadlineEnds tag s
  | quarantineRunsOut tag => exact .quarantineEnds tag s
  | quietIntervalEnd p => exact .quietEnds p s
  | partnerSignalPresent p => exact .tryTraining p s
  | greeting p bytes => exact .greetingArrives p bytes s
  | accept p => exact .acceptArrives p s
  | trainingTimeout p => exact .attemptTimesOut p s
  | partnerSignalLoss p => exact .signalLost p s
  | damagedWindowExpiry p => exact .windowExpires p s
  | frameLastByteSent p => exact .lastByte p s
  | _ => cases h

end Sys2Proof.Machine
end

section
/-! The proof that while the router is not FORWARDING no link head waits for a request lane (R43, R57). -/

namespace Sys2Proof.Machine

/-! ## The router leaves FORWARDING -/

/-- What is asked of a head is asked of it also where the router forwards. -/
theorem HeadOk.weaken {b c : Bool} {x : PortState} (h : HeadOk b x) (hbc : b = true → c = true) : HeadOk c x :=
  ⟨h.1, fun k => h.2 (Bool.eq_false_of_not_eq_true fun e => absurd (k.symm.trans (hbc e)) Bool.false_ne_true)⟩

/-- A head that is refused waits for no lane any more. -/
theorem HeadOk.refuseHead {b : Bool} {p : Port} {s : State} (idle : s.isForwarding = false) (hq : (s.port p).requests ≠ [])
    (r : Request Byte) (st : AnsStatus) (left : Nat) : HeadOk b ((s.refuseHead p r st left).port p) := by
  have dropped : HeadOk b ((s.dropRequest p).port p) := by
    refine .of_none ?_
    rw [State.dropRequest, State.port_modPort_same]
    exact PortState.popRequest_requestWait _
  cases r with
  | store a d sp => exact dropped
  | fetch a n t sp =>
    refine (Tidy.offerAnswerLane _ _ _).heads p b (fun k => absurd (idle.symm.trans k) Bool.false_ne_true) ?_
    rw [State.port_modPort_same]
    exact ⟨fun _ => hq, fun _ _ _ e => by cases e⟩
  | notice t f c d sp => exact dropped

theorem HeadOk.redecideLink {p : Port} {s : State} (idle : s.isForwarding = false) (st : AnsStatus) (c : Condition)
    (h : HeadOk true (s.port p)) : HeadOk false ((s.redecideLink p st c).port p) := by
  unfold State.redecideLink
  split
  · rename_i d left r rest _ hq
    have t := Tidy.detect (.link p) c r.subject s
    have hq : ((s.detect (.link p) c r.subject).port p).requests ≠ [] := by rw [State.detect_port, hq]; exact List.cons_ne_nil _ _
    have refused := HeadOk.refuseHead (b := false) (t.isForwarding.trans idle) hq r st left
    refine (Tidy.serveRequests _ _).heads p false (fun k => ?_) refused
    have same := (t.trans (.refuseHead hq r st left)).isForwarding.trans idle
    exact same.symm.trans k
  · rename_i noLane
    refine ⟨h.1, fun _ d left e => ?_⟩
    obtain ⟨r, rest, hq⟩ := List.exists_cons_of_ne_nil (h.1 (by rw [e]; exact Option.some_ne_none _))
    exact noLane d left r rest e hq

/-- After the heads of these ports were decided again none of them waits for a lane. -/
theorem HeadOk.redecideLinks (l : List Port) {s : State} (idle : s.isForwarding = false) (h : ∀ p, HeadOk true (s.port p)) :
    ∀ p, HeadOk (!decide (p ∈ l)) ((l.foldl (fun s p => s.redecideLink p .notReady .notReadyDrop) s).port p) := by
  induction l generalizing s with
  | nil => exact h
  | cons q l ih =>
    have t := Tidy.redecideLink q .notReady .notReadyDrop s
    have idle' := t.isForwarding.trans idle
    have rest := ih idle' fun p => t.heads p true (fun _ => rfl) (h p)
    intro p
    by_cases e : p = q
    · subst e
      have first := HeadOk.redecideLink idle .notReady .notReadyDrop (h p)
      refine HeadOk.weaken (b := false) ?_ fun k => absurd k Bool.false_ne_true
      exact (Tidy.foldl l _ (fun s q => .redecideLink q _ _ s) _).heads p false (fun k => idle'.symm.trans k) first
    · have same : (p ∈ q :: l) ↔ p ∈ l := by simp [e]
      simpa [same] using rest p

theorem ForwardingLaw.redecideAll {s : State} (idle : s.isForwarding = false) (h : ∀ p, HeadOk true (s.port p)) :
    ForwardingLaw s.redecideAll := by
  rw [forwardingLaw_iff]
  intro p
  have all := HeadOk.redecideLinks Port.all idle h p
  have mem : p ∈ Port.all := by cases p <;> decide
  rw [decide_eq_true mem] at all
  exact all.weaken fun k => absurd k Bool.false_ne_true

/-! ## The rows -/

/-- What a row does keeps the law of the heads. -/
def KeepsForwardingLaw (s t : State) : Prop := ForwardingLaw s → ForwardingLaw t

theorem ForwardingLaw.law : Law ForwardingLaw := fun _ _ e h => e.tidy.forwardingLaw h

/-- The ports are the same, and the router forwards wherever it did. -/
theorem ForwardingLaw.of_ports {s t : State} (h : ForwardingLaw s) (e : t.ports = s.ports)
    (hf : s.isForwarding = true → t.isForwarding = true) : ForwardingLaw t := by
  rw [forwardingLaw_iff] at h ⊢
  intro p
  have same : t.port p = s.port p := by unfold State.port; rw [e]
  rw [same]
  exact (h p).weaken hf

theorem ForwardingLaw.reset {s : State} (h : s.ports = PerPort.const PortState.reset) : ForwardingLaw s := by
  rw [forwardingLaw_iff]
  intro p
  unfold State.port
  rw [h, PerPort.get_const]
  exact .of_none rfl

theorem isForwarding_of_start {s : State} {ph : LoadPhase} (h : s.loader.state = .start ph) : s.isForwarding = false := by
  unfold State.isForwarding
  rw [h]
  rfl

theorem actSetStreams_tidy : actSetStreams.Moves Tidy := by
  intro forwarding fix params s r hr
  have config := actSetStreams_sameConfig forwarding fix params s r hr
  have ports := actSetStreams_ports forwarding fix params s r hr
  refine .of_blocks (congrArg _ config.loader) ports ?_
  unfold actSetStreams setStreamsTo at hr
  split at hr <;> cases hr
  dsimp only
  split
  · rfl
  · split <;> rfl

theorem actCloseRouting_keepsForwardingLaw : actCloseRouting.Moves KeepsForwardingLaw := by
  intro params s r hr
  rcases actCloseRouting_cases hr with e | ⟨_, e⟩ <;> rw [e]
  · exact fun h => h
  · exact fun h => .redecideAll rfl fun p => ((forwardingLaw_iff s).mp h p).weaken fun _ => rfl

/-- The act of every record leaves the heads and the inbox in order. -/
theorem loadAct_tidy {kind : Byte} {act : SettingAct} (h : loadAct kind = some act) : act.Moves Tidy := by
  have plain : ∀ {a : SettingAct}, a.Moves Sets → a.Moves Tidy := fun k f fix => (k f fix).mono fun _ _ e => e.tidy
  have routes : ∀ {a : SettingAct}, a.Moves WritesRoutes → a.Moves Tidy := fun k f fix =>
    (k f fix).mono fun _ _ ⟨_, e⟩ => e ▸ .of_blocks rfl rfl rfl
  have same : ∀ {a : SettingAct}, a.Moves SameStation → a.Moves Tidy := fun k =>
    routes fun f fix => (k f fix).mono fun _ _ => SameStation.writesRoutes
  have acts := loadAct_cases h
  simp only [List.mem_cons, List.not_mem_nil, or_false] at acts
  obtain rfl | rfl | rfl | rfl | rfl | rfl | rfl | rfl | rfl | rfl | rfl | rfl | rfl := acts
  · exact routes actSetStation_writesRoutes
  · exact same actSetBayRange_sameStation
  · exact same actSetWindow_sameStation
  · exact same actSetDirected_sameStation
  · exact same actSetPermits_sameStation
  · exact same actSetSpoiled_sameStation
  · exact plain actSetQuota_sets
  · exact plain actSetExchangeTimers_sets
  · exact plain actSetStallLimit_sets
  · exact actSetLink_tidy
  · exact plain actSetReporting_sets
  · exact actSetStreams_tidy
  · intro f fix params s r hr
    rcases actOpenRoutingRecord_cases hr with e | ⟨_, e⟩ <;> rw [e]
    · exact .refl s
    · exact .of_blocks rfl rfl rfl

theorem runRecord_tidy (r : LoadRecord) (s : State) : Tidy s (runRecord r s).state :=
  runRecord_moves r (.refl s) fun _ _ hact fix params => loadAct_tidy hact _ fix params s

theorem body_keepsForwardingLaw (i : Instr) (s : State) (h : ForwardingLaw s) : ForwardingLaw (i.body s) := by
  have tidy : ∀ {act : Act}, act.Moves Tidy → ∀ c, ForwardingLaw (State.runAct c act s) := fun k c =>
    (k.runAct_tidy c s).forwardingLaw h
  by_cases plain : i.isPlain = true
  · exact ForwardingLaw.law _ _ (body_alike plain s) h
  by_cases traffic : i.isTraffic = true
  · exact (body_tidy traffic s).forwardingLaw h
  by_cases table : i.writesRoutes = true
  · obtain ⟨r, e⟩ := body_writesRoutes table s
    exact ForwardingLaw.law _ _ e (h.of_ports rfl fun k => k)
  have other : ¬(i.isPlain || i.isTraffic || i.writesRoutes) = true := by simp [plain, traffic, table]
  cases i with
  | setLink m => exact tidy actSetLink_tidy.host _
  | setStreams m => exact tidy actSetStreams_tidy.host _
  | resetRouter m =>
    rcases State.startReset_cases ⟨0x70, m⟩ s with e | ⟨cause, t, e⟩
    · exact ForwardingLaw.law _ _ e h
    · exact (congrArg ForwardingLaw e).mpr (.reset rfl)
  | openRouting m =>
    refine runAct_keeps ForwardingLaw.law (fun params t r hr k => ?_) _ h
    rcases actOpenRouting_cases hr with e | ⟨_, _, e⟩ <;> rw [e]
    · exact k
    · exact k.of_ports rfl fun _ => rfl
  | closeRouting m => exact runAct_keeps ForwardingLaw.law actCloseRouting_keepsForwardingLaw _ h
  | restarted =>
    rcases State.sendRestarted_cases s with e | ⟨o, t, report, hs, k, e⟩
    · exact (congrArg ForwardingLaw e).mpr h
    · exact (congrArg ForwardingLaw e).mpr
        (h.of_ports k.ports fun f => absurd ((isForwarding_of_start hs).symm.trans f) Bool.false_ne_true)
  | powerOnReset r1 r0 => exact .reset rfl
  | pornLow => exact .reset rfl
  | resetSymbol p =>
    rcases State.resetArrives_cases p s with e | ⟨cause, t, e⟩
    · exact ForwardingLaw.law _ _ e h
    · exact (congrArg ForwardingLaw e).mpr (.reset rfl)
  | loadImageRead r =>
    rcases State.loadImage_cases r s with e | ⟨t, ph, hs, k, e⟩
    · exact (congrArg ForwardingLaw e).mpr h
    · exact (congrArg ForwardingLaw e).mpr
        (h.of_ports k.ports fun f => absurd ((isForwarding_of_start hs).symm.trans f) Bool.false_ne_true)
  | loadRecord =>
    rcases replay_cases s with e | ⟨n, r, rest, report, ph, hs, e⟩
    · exact (congrArg ForwardingLaw e).mpr h
    · have t := runRecord_tidy r s
      have idle := t.isForwarding.trans (isForwarding_of_start hs)
      exact (congrArg ForwardingLaw e).mpr
        ((t.forwardingLaw h).of_ports rfl fun f => absurd (idle.symm.trans f) Bool.false_ne_true)
  | _ => exact absurd rfl other

/-- Settles O59: the only rows that let a head wait for a lane decide it while the router forwards, and CLOSE ROUTING decides every
waiting head again before the step ends. -/
theorem everyStepKeepsTheForwardingLaw : Obligations.EveryStepKeepsTheForwardingLaw := fun _ _ hs h =>
  step_keeps ForwardingLaw.law (fun s k => (Tidy.elapse 1 s).forwardingLaw k) (fun i s _ => body_keepsForwardingLaw i s) hs h

end Sys2Proof.Machine
end

section
/-! The rows and the management link: which of them leave it, and which put one response in the outgoing queue (R186, R188, R189). -/

namespace Sys2Proof.Machine

/-! ## What a row does to the queues -/

/-- The receive queue is as it was, and at most one response enters the outgoing queue. -/
structure Served (s t : State) : Prop where
  responded : Responded s.management t.management
  received : t.management.receiveQueue = s.management.receiveQueue

theorem Served.of_eq {s t : State} (h : t.management = s.management) : Served s t := ⟨.of_eq h, congrArg _ h⟩

theorem Served.refl (s : State) : Served s s := .of_eq rfl

theorem ManagementLink.elapse_running_isSome (n : Nat) (m : ManagementLink) :
    (m.elapse n).running.isSome = m.running.isSome := by
  cases e : m.running <;> simp [ManagementLink.elapse, e]

/-- What is served from a state whose link has the same queues and a command in progress alike. -/
theorem Served.after_elapse {s t : State} (n : Nat) (h : Served (s.elapse n) t) : Served s t :=
  ⟨.of_same (m' := (s.elapse n).management) rfl rfl (ManagementLink.elapse_running_isSome n s.management) h.responded, h.received⟩

theorem Served.then {s t u : State} (h : Served s t) (k : u.management = t.management) : Served s u :=
  ⟨by rw [k]; exact h.responded, (congrArg _ k).trans h.received⟩

theorem Served.after {s t u : State} (k : t.management = s.management) (h : Served t u) : Served s u :=
  ⟨by rw [← k]; exact h.responded, by rw [← k]; exact h.received⟩

theorem Served.leaveUp (p : Port) (l : Link) (cause : DownCause) (s : State) : Served s (s.leaveUp p l cause) :=
  ⟨(State.leaveUp_done p l cause s).1, (Kept.leaveUp p l cause s).receiveQueue⟩

/-- The row may be taken: no command is in progress and a response may enter (R186). -/
def State.takes (s : State) : Prop := s.management.running = none ∧ s.management.mayEnter .response = true

theorem Served.respond {s t : State} (c : Message) (st : Status) (v : Values) (h : t.management = s.management) (may : s.takes) :
    Served s (t.respond c st v) :=
  ⟨State.respond_responded c st v h may.2, by show t.management.receiveQueue = _; rw [h]⟩

theorem State.takes.hostHead {s : State} (h : s.takes) : s.hostHead = none := by
  unfold State.hostHead
  rw [h.1]

/-! ## Acts that leave the management link -/

/-- Taken, the act leaves the management link as it is. -/
def Quiet (s t : State) : Prop := s.takes → t.management = s.management

theorem Quiet.of_eq {s t : State} (h : t.management = s.management) : Quiet s t := fun _ => h

theorem Sets.quiet {s t : State} (h : Sets s t) : Quiet s t := .of_eq h.management

theorem Act.Moves.quiet {act : Act} (h : act.Moves fun s t => t = s) : act.Moves Quiet := h.mono fun _ _ e => .of_eq (e ▸ rfl)

theorem WritesRoutes.management {s t : State} (h : WritesRoutes s t) : t.management = s.management := by
  obtain ⟨r, rfl⟩ := h
  rfl

theorem Act.Moves.runAct_served {act : Act} (h : act.Moves Quiet) (c : Message) {s : State} (may : s.takes) :
    Served s (State.runAct c act s) := by
  unfold State.runAct
  split
  · exact .respond _ _ _ rfl may
  · rename_i r hr
    exact .respond _ _ _ (h _ _ _ hr may) may

theorem actReadInbox_management : actReadInbox.Moves fun s t => t.management = s.management := by
  intro params s r hr
  unfold actReadInbox at hr
  split at hr <;> cases hr
  split <;> rfl

theorem actReadCounters_management : actReadCounters.Moves fun s t => t.management = s.management := by
  intro params s r hr
  unfold actReadCounters at hr
  split at hr <;> cases hr
  split
  · rw [done_state]; split <;> rfl
  · rw [done_state]; split <;> rfl
  · rfl

theorem actCancelExchange_management : actCancelExchange.Moves fun s t => t.management = s.management := by
  intro params s r hr
  unfold actCancelExchange cancelEntry at hr
  split at hr <;> cases hr
  split
  · split
    · exact State.endAndRematch_management _ _ s
    · exact State.endAndRematch_management _ _ s
    · rfl
    · rfl
  · rfl

theorem actSetStreams_management : actSetStreams.Moves fun s t => t.management = s.management := by
  intro forwarding fix params s r hr
  unfold actSetStreams setStreamsTo at hr
  split at hr <;> cases hr
  dsimp only
  split
  · rfl
  · split <;> rfl

theorem actOpenRouting_management : actOpenRouting.Moves fun s t => t.management = s.management := by
  intro params s r hr
  rcases actOpenRouting_cases hr with e | ⟨_, _, e⟩ <;> rw [e]
  rfl

theorem actOpenRoutingRecord_management : actOpenRoutingRecord.Moves fun s t => t.management = s.management := by
  intro forwarding fix params s r hr
  rcases actOpenRoutingRecord_cases hr with e | ⟨_, e⟩ <;> rw [e]
  rfl

theorem actCloseRouting_management : actCloseRouting.Moves fun s t => t.management = s.management := by
  intro params s r hr
  rcases actCloseRouting_cases hr with e | ⟨_, e⟩ <;> rw [e]
  exact State.redecideAll_management _

theorem downFrom_management (old : Link) (p : Port) (s : State) : (downFrom old p s).state.management = s.management := by
  unfold downFrom
  split <;> rfl

theorem actReleaseBay_management : actReleaseBay.Moves fun s t => t.management = s.management := by
  intro params s r hr
  unfold actReleaseBay at hr
  split at hr <;> cases hr
  split
  · exact downFrom_management _ _ s
  · rfl

theorem actRetrain_management : actRetrain.Moves fun s t => t.management = s.management := by
  intro params s r hr
  unfold actRetrain at hr
  split at hr <;> cases hr
  split
  · exact downFrom_management _ _ s
  · rfl

theorem actHoldBay_quiet : actHoldBay.Moves Quiet := by
  intro params s r hr
  unfold actHoldBay at hr
  split at hr <;> cases hr
  split
  · rename_i b _
    intro may
    unfold holdBayTo
    dsimp only
    split
    · have idle : (s.emit (.resetSymbol b.port)).hostHead = none := may.hostHead
      rw [done_state, State.modPort_management]
      exact State.leaveUp_quiet idle
    · rfl
    · rfl
    · rfl
    · rfl
    · rfl
  · exact fun _ => rfl

/-- Enabling or disabling a port does nothing to the management link, or makes the link leave UP. -/
theorem applyEnable_management_cases (p : Port) (enable : Bool) (s : State) :
    (s.applyEnable p enable).management = s.management ∨ ∃ l cause, s.applyEnable p enable = s.leaveUp p l cause := by
  unfold State.applyEnable
  split
  · exact .inl rfl
  · exact .inl rfl
  · exact .inr ⟨_, _, rfl⟩
  · exact .inl rfl
  · exact .inl rfl

theorem actSetLink_management {R : State → State → Prop} (same : ∀ s t, t.management = s.management → R s t)
    (down : ∀ (s t : State) p l cause, t.management = s.management → R s (t.leaveUp p l cause)) : actSetLink.Moves R := by
  intro forwarding fix params s r hr
  unfold actSetLink setLinkTo at hr
  split at hr
  · split at hr <;> cases hr
    · split
      · exact same _ _ rfl
      · refine writeItem_moves (same _ _ rfl) ?_
        rw [done_state]
        rcases applyEnable_management_cases _ _ (s.modPort _ _) with e | ⟨l, cause, e⟩
        · exact same _ _ (e.trans rfl)
        · rw [e]
          exact down _ _ _ _ _ rfl
    · exact same _ _ rfl
  · cases hr

theorem actSetLink_quiet : actSetLink.Moves Quiet :=
  actSetLink_management (fun _ _ => .of_eq) fun _ _ _ _ _ e may =>
    (State.leaveUp_quiet (State.hostHead_congr e ▸ may.hostHead)).trans e

theorem actSetLink_served : actSetLink.Moves Served :=
  actSetLink_management (fun _ _ => .of_eq) fun _ t p l cause e => .after e (.leaveUp p l cause t)

/-- A record puts at most the response of M's waiting head in the queue, where its link leaves UP. -/
theorem runRecord_served (r : LoadRecord) (s : State) : Served s (runRecord r s).state := by
  refine runRecord_moves r (.refl s) fun kind act h fix params q hq => ?_
  have sets : ∀ {a : SettingAct}, a.Moves Sets → a.Moves Served := fun k f x => (k f x).mono fun _ _ e => .of_eq e.management
  have routes : ∀ {a : SettingAct}, a.Moves WritesRoutes → a.Moves Served := fun k f x =>
    (k f x).mono fun _ _ e => .of_eq e.management
  have same : ∀ {a : SettingAct}, a.Moves SameStation → a.Moves Served := fun k =>
    routes fun f x => (k f x).mono fun _ _ => SameStation.writesRoutes
  have acts := loadAct_cases h
  simp only [List.mem_cons, List.not_mem_nil, or_false] at acts
  revert hq
  refine fun hq => (?_ : act.Moves Served) _ fix params s q hq
  obtain rfl | rfl | rfl | rfl | rfl | rfl | rfl | rfl | rfl | rfl | rfl | rfl | rfl := acts
  · exact routes actSetStation_writesRoutes
  · exact same actSetBayRange_sameStation
  · exact same actSetWindow_sameStation
  · exact same actSetDirected_sameStation
  · exact same actSetPermits_sameStation
  · exact same actSetSpoiled_sameStation
  · exact sets actSetQuota_sets
  · exact sets actSetExchangeTimers_sets
  · exact sets actSetStallLimit_sets
  · exact actSetLink_served
  · exact sets actSetReporting_sets
  · exact fun f x => (actSetStreams_management f x).mono fun _ _ => .of_eq
  · exact fun f x => (actOpenRoutingRecord_management f x).mono fun _ _ => .of_eq

/-! ## Commands that are not run whole -/

theorem State.startStore_served (c : Message) {s : State} (may : s.takes) : Served s (s.startStore c) := by
  refine ⟨?_, (Kept.startStore c s).receiveQueue⟩
  have answered : ∀ st v, Responded s.management (s.respond c st v).management := fun _ _ => State.respond_responded _ _ _ rfl may.2
  unfold State.startStore
  split
  · exact answered _ _
  · split
    · split
      · exact answered _ _
      · exact State.issueHost_responded c _ may.2
    · exact answered _ _

theorem State.startNotice_served (c : Message) {s : State} (may : s.takes) : Served s (s.startNotice c) := by
  refine ⟨?_, (Kept.startNotice c s).receiveQueue⟩
  have answered : ∀ st v, Responded s.management (s.respond c st v).management := fun _ _ => State.respond_responded _ _ _ rfl may.2
  unfold State.startNotice
  split
  · split
    · exact answered _ _
    · exact State.issueHost_responded c _ may.2
  · exact answered _ _

theorem State.startFetch_served (c : Message) {s : State} (may : s.takes) : Served s (s.startFetch c) := by
  refine ⟨?_, (Kept.startFetch c s).receiveQueue⟩
  have answered : ∀ st v, Responded s.management (s.respond c st v).management := fun _ _ => State.respond_responded _ _ _ rfl may.2
  unfold State.startFetch
  split
  · dsimp only
    split
    · exact answered _ _
    · split
      · exact answered _ _
      · exact State.issueHost_responded c _ may.2
  · exact answered _ _

theorem State.startReset_served (c : Message) {s : State} (may : s.takes) : Served s (s.startReset c) := by
  unfold State.startReset
  split
  · exact (Served.respond c .done .empty rfl may).then (State.resetBlocks_management _ _)
  · exact .respond _ _ _ rfl may

/-! ## Events -/

theorem State.offerRunning_served (s : State) : Served s s.offerRunning := by
  unfold State.offerRunning
  split
  · split
    · rename_i may; exact ⟨State.enterResponse_responded _ _ may, rfl⟩
    · exact .refl s
  · exact .refl s

theorem Kept.trunkReset_receiveQueue (s : State) : s.trunkReset.management.receiveQueue = s.management.receiveQueue := by
  unfold State.trunkReset
  rw [State.resetBlocks_management]
  have host : ∀ t : State, t.endHostHead.management.receiveQueue = t.management.receiveQueue := fun t => by
    unfold State.endHostHead
    split
    · exact (Kept.conclude _ _ t).receiveQueue
    · rfl
  rw [host, State.resetBays_management]

theorem State.resetArrives_served (p : Port) (s : State) : Served s (s.resetArrives p) := by
  unfold State.resetArrives
  split
  · exact .refl s
  · split
    · exact ⟨(State.trunkReset_done s).1, Kept.trunkReset_receiveQueue s⟩
    · exact .of_eq (State.latch_management _ _ s)

theorem State.loadImage_management (r : ImageRead) (s : State) : (s.loadImage r).management = s.management := by
  unfold State.loadImage State.imageRead
  split
  · split
    · rfl
    · split
      · exact State.latch_management _ _ _
      · rfl
      · rfl
  · rfl

theorem State.replay_served (s : State) : Served s s.replay := by
  rcases replay_cases s with e | ⟨n, r, rest, report, ph, _, e⟩
  · exact (congrArg (Served s) e).mpr (.refl s)
  · exact (congrArg (Served s) e).mpr ((runRecord_served r s).then rfl)

theorem State.greetingArrives_served (p : Port) (bytes : List Byte) (s : State) : Served s (s.greetingArrives p bytes) := by
  refine ⟨?_, (Kept.greetingArrives p bytes s).receiveQueue⟩
  unfold State.greetingArrives State.greetingInTraining
  split
  · split
    · exact (State.damaged_done p s).1
    · exact .of_eq rfl
    · exact .of_eq (State.failAttempt_management _ _ s)
    · exact .of_eq (State.progress_management _ _ _)
  · split
    · exact (State.damaged_done p s).1
    · exact (State.leaveUp_done _ _ _ s).1
  · exact .of_eq rfl

theorem State.signalLost_served (p : Port) (s : State) : Served s (s.signalLost p) := by
  unfold State.signalLost
  split
  · exact .leaveUp _ _ _ s
  · exact .of_eq rfl
  · exact .refl s

/-- The clock comes forward, and what follows leaves the management link. -/
theorem Served.elapsed {s t : State} (n : Nat) (h : t.management = (s.elapse n).management) : Served s t :=
  .after_elapse n (.of_eq h)

theorem State.abandon_served (s : State) : Served s s.abandon := by
  unfold State.abandon
  split
  · rename_i g _
    exact .after_elapse (s := s) g.left ⟨.inl ⟨rfl, rfl⟩, rfl⟩
  · exact .refl s

theorem State.deadlineEnds_served (i : RouterTag) (s : State) : Served s (s.deadlineEnds i) := by
  unfold State.deadlineEnds
  split
  · exact .elapsed _ (by rw [State.endAndRematch_management, State.detect_management])
  · exact .elapsed _ (State.endAndRematch_management _ _ _)
  · exact .refl s
  · exact .refl s

theorem State.quarantineEnds_served (i : RouterTag) (s : State) : Served s (s.quarantineEnds i) := by
  unfold State.quarantineEnds
  split
  · exact .elapsed _ rfl
  · exact .refl s
  · exact .refl s
  · exact .refl s

theorem State.quietEnds_served (p : Port) (s : State) : Served s (s.quietEnds p) := by
  unfold State.quietEnds
  split
  · exact .elapsed _ (State.tryTraining_management _ _)
  · exact .refl s

theorem State.attemptTimesOut_served (p : Port) (s : State) : Served s (s.attemptTimesOut p) := by
  unfold State.attemptTimesOut
  split
  · exact .elapsed _ (State.failAttempt_management _ _ _)
  · exact .refl s

theorem State.windowExpires_served (p : Port) (s : State) : Served s (s.windowExpires p) := by
  unfold State.windowExpires
  split
  · exact .elapsed _ rfl
  · exact .refl s

theorem State.acceptArrives_management (p : Port) (s : State) : (s.acceptArrives p).management = s.management := by
  unfold State.acceptArrives
  split
  · split
    · exact State.progress_management _ _ s
    · rfl
  · rfl

theorem State.lastByte_management (p : Port) (s : State) : (s.lastByte p).management = s.management := by
  unfold State.lastByte
  split <;> rfl

theorem State.returnCredit_management (p : Port) (c : FrameClass) (s : State) : (s.returnCredit p c).management = s.management := by
  unfold State.returnCredit
  dsimp only
  split <;> rfl

theorem State.creditArrives_management (p : Port) (c : FrameClass) (s : State) : (s.creditArrives p c).management = s.management := by
  unfold State.creditArrives
  dsimp only
  split
  · split <;> rfl
  · rfl

theorem State.repeatGreeting_management (p : Port) (s : State) : (s.repeatGreeting p).management = s.management := by
  unfold State.repeatGreeting
  split
  · split <;> rfl
  · rfl

/-! ## Bytes at the receiver that bring no message -/

/-- Bytes that the receiver finds nothing in leave the queues. -/
theorem State.receive_served {bytes : List Byte} {s : State} (h : (scan 0 (s.management.stream bytes)).1 = []) :
    Served s (s.receive bytes) := by
  unfold State.receive
  split
  · exact .refl s
  · unfold State.afterScan
    rw [h]
    exact ⟨.inl ⟨rfl, rfl⟩, rfl⟩

/-- A start byte with at most one byte after it is not yet a message. -/
theorem scan_short {bytes : List Byte} (h : bytes.length ≤ 1) : (scan 0 (Config.startByte :: bytes)).1 = [] := by
  rw [scan_start]
  match bytes, h with
  | [], _ => rfl
  | [b], _ => rfl

/-- Two bytes hold no message. -/
theorem scan_pair (hi lo : Byte) : (scan 0 [hi, lo]).1 = [] := by
  by_cases first : hi = Config.startByte
  · rw [first]
    exact scan_short (Nat.le_refl 1)
  · rw [scan_of_ne _ first]
    by_cases second : lo = Config.startByte
    · rw [second]
      exact scan_short (Nat.zero_le 1)
    · rw [scan_of_ne _ second]
      rfl

theorem State.startByteArrives_served (s : State) : Served s s.startByteArrives := by
  unfold State.startByteArrives
  split
  · rename_i hunting
    refine State.receive_served ?_
    unfold ManagementLink.stream
    rw [Option.isNone_iff_eq_none.mp hunting]
    exact scan_short (Nat.zero_le 1)
  · exact .refl s

theorem State.lengthArrives_served (hi lo : Byte) (s : State) : Served s (s.lengthArrives hi lo) := by
  unfold State.lengthArrives
  split
  · rename_i left gathered
    split
    · rename_i out
      refine State.receive_served ?_
      unfold ManagementLink.stream
      rw [gathered]
      show (scan 0 (Config.startByte :: [hi, lo])).1 = []
      rw [scan_start, gather_lengthOut [] out]
      exact scan_pair hi lo
    · exact .refl s
  · exact .refl s


end Sys2Proof.Machine
end

section
/-! What every row does to the queues of the management link, and the proof that every step keeps their sizes (R185, R189). -/

namespace Sys2Proof

open Machine

/-- The rows that put something else than one response into the queues or out of them: the receiver's, those that send or release a
message, and the two of PORN. -/
def Instr.movesMessages : Instr → Bool
  | .messageReceive _ | .messageSent | .notify _ | .fetchDone | .restarted | .powerOnReset _ _ | .pornLow => true
  | .ackNotify _ first | .unmaskStream _ first => first
  | _ => false

end Sys2Proof

namespace Sys2Proof.Machine

/-! ## ACK NOTIFY and UNMASK STREAM (R162) -/

theorem State.notifyBefore_false (params : List Byte) (s : State) : s.notifyBefore false params = s := by
  unfold State.notifyBefore
  split <;> rfl

theorem Act.Moves.runReleasing_served {act : Act} (h : act.Moves Quiet) (c : Message) {s : State} (may : s.takes) :
    Served s (State.runReleasing c act false s) := by
  unfold State.runReleasing
  split
  · exact .respond _ _ _ rfl may
  · rename_i r hr
    have same : r.state.management = s.management := h _ _ _ hr may
    split
    · rw [State.notifyBefore_false, State.offerResponse_enters _ _ (by rw [same]; exact may.2)]
      exact .respond _ _ _ same may
    · exact .respond _ _ _ same may

/-- The row serves: at most one response enters, and the receive queue is as it was. -/
theorem body_served {i : Instr} (h : i.movesMessages = false) {s : State} (may : i.message ≠ none → s.takes) : Served s (i.body s) := by
  have command : ∀ {m}, i.message = some m → s.takes := fun e => may (by rw [e]; exact Option.some_ne_none _)
  have routes : ∀ {a : SettingAct}, a.Moves WritesRoutes → Act.Moves Quiet fun params s => a s.isForwarding false params s := fun k =>
    k.host.mono fun _ _ e => .of_eq e.management
  have same : ∀ {a : SettingAct}, a.Moves SameStation → Act.Moves Quiet fun params s => a s.isForwarding false params s := fun k =>
    k.host.mono fun _ _ e => .of_eq e.writesRoutes.management
  have sets : ∀ {a : SettingAct}, a.Moves Sets → Act.Moves Quiet fun params s => a s.isForwarding false params s := fun k =>
    k.host.mono fun _ _ => Sets.quiet
  have moved : ∀ {a : Act}, (a.Moves fun s t => t.management = s.management) → a.Moves Quiet := fun k => k.mono fun _ _ => .of_eq
  cases i with
  | setStation m => exact (routes actSetStation_writesRoutes).runAct_served _ (command rfl)
  | setBayRange m => exact (same actSetBayRange_sameStation).runAct_served _ (command rfl)
  | setWindow m => exact (same actSetWindow_sameStation).runAct_served _ (command rfl)
  | setDirected m => exact (same actSetDirected_sameStation).runAct_served _ (command rfl)
  | setPermits m => exact (same actSetPermits_sameStation).runAct_served _ (command rfl)
  | setSpoiled m => exact (same actSetSpoiled_sameStation).runAct_served _ (command rfl)
  | readRoutes m => exact actReadRoutes_reads.quiet.runAct_served _ (command rfl)
  | probeRoute m => exact actProbeRoute_reads.quiet.runAct_served _ (command rfl)
  | readInbox m => exact (moved actReadInbox_management).runAct_served _ (command rfl)
  | issueStore m => exact State.startStore_served _ (command rfl)
  | sendNotice m => exact State.startNotice_served _ (command rfl)
  | setQuota m => exact (sets actSetQuota_sets).runAct_served _ (command rfl)
  | setExchangeTimers m => exact (sets actSetExchangeTimers_sets).runAct_served _ (command rfl)
  | cancelExchange m => exact (moved actCancelExchange_management).runAct_served _ (command rfl)
  | issueFetch m => exact State.startFetch_served _ (command rfl)
  | listExchanges m => exact actListExchanges_reads.quiet.runAct_served _ (command rfl)
  | setStallLimit m => exact (sets actSetStallLimit_sets).runAct_served _ (command rfl)
  | readLanes m => exact actReadLanes_reads.quiet.runAct_served _ (command rfl)
  | setLink m => exact actSetLink_quiet.host.runAct_served _ (command rfl)
  | holdBay m => exact actHoldBay_quiet.runAct_served _ (command rfl)
  | releaseBay m => exact (moved actReleaseBay_management).runAct_served _ (command rfl)
  | retrain m => exact (moved actRetrain_management).runAct_served _ (command rfl)
  | readLink m => exact actReadLink_reads.quiet.runAct_served _ (command rfl)
  | setReporting m => exact (sets actSetReporting_sets).runAct_served _ (command rfl)
  | readConditions m => exact actReadConditions_reads.quiet.runAct_served _ (command rfl)
  | clearConditions m => exact (actClearConditions_sets.mono fun _ _ => Sets.quiet).runAct_served _ (command rfl)
  | readCapture m => exact actReadCapture_reads.quiet.runAct_served _ (command rfl)
  | releaseCapture m => exact (actReleaseCapture_sets.mono fun _ _ => Sets.quiet).runAct_served _ (command rfl)
  | readCounters m => exact (moved actReadCounters_management).runAct_served _ (command rfl)
  | setStreams m => exact (moved actSetStreams_management.host).runAct_served _ (command rfl)
  | ackNotify m first =>
    cases (show first = false from h)
    exact (actAckNotify_sets.mono fun _ _ => Sets.quiet).runReleasing_served _ (command rfl)
  | maskStream m => exact (actMaskStream_sets.mono fun _ _ => Sets.quiet).runAct_served _ (command rfl)
  | unmaskStream m first =>
    cases (show first = false from h)
    exact (actUnmaskStream_sets.mono fun _ _ => Sets.quiet).runReleasing_served _ (command rfl)
  | resetRouter m => exact State.startReset_served _ (command rfl)
  | readLoadReport m => exact actReadLoadReport_reads.quiet.runAct_served _ (command rfl)
  | openRouting m => exact (moved actOpenRouting_management).runAct_served _ (command rfl)
  | closeRouting m => exact (moved actCloseRouting_management).runAct_served _ (command rfl)
  | identify m => exact actIdentify_reads.quiet.runAct_served _ (command rfl)
  | echo m => exact actEcho_reads.quiet.runAct_served _ (command rfl)
  | badKindMessage kind m => exact .respond _ _ _ rfl (command rfl)
  | messageAbandoned => exact State.abandon_served s
  | responseEntersQueue => exact State.offerRunning_served s
  | resetSymbol p => exact State.resetArrives_served p s
  | loadImageRead r => exact .of_eq (State.loadImage_management r s)
  | loadRecord => exact State.replay_served s
  | frameArrival p c bytes => exact ⟨(State.frameArrives_done p c bytes s).1, (Kept.frameArrives p c bytes s).receiveQueue⟩
  | laneGrant p c => exact ⟨(State.grantLane_done p c s).1, (Kept.grantLane p c s).receiveQueue⟩
  | transmitFrame p => exact .of_eq (State.transmit_management p s)
  | sendCreditReturn p c => exact .of_eq (State.returnCredit_management p c s)
  | creditReturn p c => exact .of_eq (State.creditArrives_management p c s)
  | stallTimerRunsOut timer => exact ⟨State.stall_responded timer s, (Kept.stall timer s).receiveQueue⟩
  | deadlineRunsOut tag => exact State.deadlineEnds_served tag s
  | quarantineRunsOut tag => exact State.quarantineEnds_served tag s
  | quietIntervalEnd p => exact State.quietEnds_served p s
  | partnerSignalPresent p => exact .of_eq (State.tryTraining_management p s)
  | greetingRepeat p => exact .of_eq (State.repeatGreeting_management p s)
  | greeting p bytes => exact State.greetingArrives_served p bytes s
  | accept p => exact .of_eq (State.acceptArrives_management p s)
  | trainingTimeout p => exact State.attemptTimesOut_served p s
  | partnerSignalLoss p => exact State.signalLost_served p s
  | damagedWindowExpiry p => exact State.windowExpires_served p s
  | frameLastByteSent p => exact .of_eq (State.lastByte_management p s)
  | startByteFound => exact State.startByteArrives_served s
  | bodyLengthOutOfRange hi lo => exact State.lengthArrives_served hi lo s
  | _ => cases h

/-! ## Taking a command -/

/-- A message is taken out of the receive queue, or past it, only when no command is in progress and a response may enter (R186). -/
theorem State.takeHead_cases {c : Message} {s t : State} (h : s.takeHead c = some t) :
    s.takes ∧ ∃ q, q.length ≤ s.management.receiveQueue.length ∧ t = { s with management := { s.management with receiveQueue := q } } := by
  unfold State.takeHead at h
  dsimp only at h
  split at h
  · rename_i ready
    simp only [Bool.and_eq_true, Option.isNone_iff_eq_none] at ready
    refine ⟨ready, ?_⟩
    split at h <;> rename_i queue <;> split at h <;> cases h
    · exact ⟨s.management.receiveQueue, Nat.le_refl _, rfl⟩
    · exact ⟨_, by rw [queue]; exact Nat.le_succ _, rfl⟩
  · cases h

theorem State.takes_of_queue {s : State} (q : List Message) (h : s.takes) :
    State.takes { s with management := { s.management with receiveQueue := q } } :=
  ⟨h.1, (ManagementLink.mayEnter_congr rfl rfl rfl _).trans h.2⟩

/-- A command is left, or its message leaves the receive queue and a response enters, or its body is run. -/
theorem State.take_takes (c : Message) (inStart : Bool) (run : State → State) (s : State) :
    s.take c inStart run = s
    ∨ ∃ q, q.length ≤ s.management.receiveQueue.length ∧ s.takes
        ∧ ((∃ x m, s.take c inStart run = { s with management := m } ∧ m.receiveQueue = q
              ∧ m.outgoing = s.management.outgoing ++ [x] ∧ m.waiting = s.management.without .response ∧ m.running = none)
          ∨ s.take c inStart run = run { s with management := { s.management with receiveQueue := q } }) := by
  unfold State.take
  split
  · exact .inl rfl
  · rename_i t ht
    obtain ⟨takes, q, hq, rfl⟩ := State.takeHead_cases ht
    refine .inr ⟨q, hq, takes, ?_⟩
    split
    · exact .inl ⟨_, _, rfl, rfl, rfl, rfl, takes.1⟩
    · split
      · exact .inl ⟨_, _, rfl, rfl, rfl, rfl, rfl⟩
      · exact .inr rfl

/-! ## The sizes of the queues -/

/-- The two queues are within their sizes. -/
structure ManagementLink.Fits (m : ManagementLink) : Prop where
  receiveQueue : m.receiveQueue.length ≤ 4
  outgoing : m.outgoing.length ≤ 8

/-- What may enter finds a place. -/
theorem ManagementLink.room {m : ManagementLink} {w : Waiter} (h : m.mayEnter w = true) : m.outgoing.length < 8 := by
  have size : Config.outgoingQueueSize = 8 := rfl
  cases w <;> simp only [ManagementLink.mayEnter, Bool.and_eq_true, decide_eq_true_eq] at h <;> omega

theorem ManagementLink.Fits.enter {m : ManagementLink} (h : m.Fits) {w v : Waiter} (may : m.mayEnter w = true) (x : OutMessage) :
    (m.enter v x).Fits :=
  ⟨h.receiveQueue, by
    have room := ManagementLink.room may
    simp only [ManagementLink.enter, List.length_append, List.length_singleton]
    omega⟩

theorem ManagementLink.Fits.of_lengths {m n : ManagementLink} (h : m.Fits) (hq : n.receiveQueue.length ≤ m.receiveQueue.length)
    (ho : n.outgoing.length ≤ m.outgoing.length) : n.Fits := ⟨hq.trans h.receiveQueue, ho.trans h.outgoing⟩

theorem ManagementLink.Fits.served {s t : State} (h : s.management.Fits) (k : Served s t) : t.management.Fits := by
  obtain ⟨responded, received⟩ := k
  rcases responded with ⟨out, _⟩ | ⟨may, ⟨x, out⟩, _, _⟩
  · exact h.of_lengths (by rw [received]) (by rw [out])
  · have entered := h.enter may (v := .response) x
    exact entered.of_lengths (by rw [received]; rfl) (by rw [out]; rfl)

theorem Fits.sendUnsolicited {s : State} (h : s.management.Fits) {w : Waiter} (may : s.management.mayEnter w = true) (k : Byte)
    (b : Body) : (s.sendUnsolicited w k b).management.Fits :=
  (h.enter may (v := w) ⟨k, s.management.unsolicited, b⟩).of_lengths (Nat.le_refl _) (Nat.le_refl _)

theorem Fits.sendNotify {s : State} (h : s.management.Fits) (k : Fin 4) : (s.sendNotify k).management.Fits := by
  unfold State.sendNotify
  dsimp only
  split
  · rename_i may
    exact Fits.sendUnsolicited h (Bool.and_eq_true_iff.mp may).2 _ _
  · exact h

theorem Fits.offerResponse {s : State} (h : s.management.Fits) (c : Message) (r : OutMessage) :
    (s.offerResponse c r).management.Fits := by
  unfold State.offerResponse
  split
  · rename_i may; exact (h.enter may (v := .response) r).of_lengths (Nat.le_refl _) (Nat.le_refl _)
  · exact h.of_lengths (Nat.le_refl _) (Nat.le_refl _)

theorem Fits.runReleasing {act : Act} (hact : act.Moves Sets) (c : Message) (first : Bool) {s : State} (h : s.management.Fits)
    (may : s.takes) : (State.runReleasing c act first s).management.Fits := by
  unfold State.runReleasing
  split
  · exact h.served (.respond _ _ _ rfl may)
  · rename_i r hr
    have same := (hact _ _ _ hr).management
    split
    · refine Fits.offerResponse ?_ _ _
      unfold State.notifyBefore
      split
      · split
        · exact Fits.sendNotify (same ▸ h) _
        · exact same ▸ h
      · exact same ▸ h
    · exact h.served (.respond _ _ _ same may)

theorem Fits.messageArrives {s : State} (h : s.management.Fits) (c : Message) : (s.messageArrives c).management.Fits := by
  unfold State.messageArrives
  dsimp only
  split
  · rename_i room
    refine ⟨?_, h.outgoing⟩
    simp only [List.length_append, List.length_singleton]
    exact room
  · split
    · rename_i room
      refine ⟨h.receiveQueue, ?_⟩
      have size : Config.outgoingQueueSize = 8 := rfl
      simp only [ManagementLink.busyRoom, Bool.and_eq_true, decide_eq_true_eq] at room
      simp only [State.countRouter_management, List.length_append, List.length_singleton]
      omega
    · exact h

theorem Fits.receive {s : State} (h : s.management.Fits) (bytes : List Byte) : (s.receive bytes).management.Fits := by
  have received : ∀ (t : State) e, t.management.Fits → (t.received e).noteWaiting.management.Fits := fun t e ht => by
    cases e with
    | message c => exact (Fits.messageArrives ht c).of_lengths (Nat.le_refl _) (Nat.le_refl _)
    | framingError => exact ht.of_lengths (Nat.le_refl _) (Nat.le_refl _)
  have all : ∀ (es : List ReceiverEvent) (t : State), t.management.Fits →
      (es.foldl (fun s e => (s.received e).noteWaiting) t).management.Fits := by
    intro es
    induction es with
    | nil => exact fun _ ht => ht
    | cons e es ih => exact fun t ht => ih _ (received t e ht)
  unfold State.receive
  split
  · exact h
  · exact (all _ s h).of_lengths (Nat.le_refl _) (Nat.le_refl _)

theorem body_fits (i : Instr) {s : State} (h : s.management.Fits) (may : i.message ≠ none → s.takes) : (i.body s).management.Fits := by
  by_cases served : i.movesMessages = false
  · exact h.served (body_served served may)
  have command : ∀ {m}, i.message = some m → s.takes := fun e => may (by rw [e]; exact Option.some_ne_none _)
  have other := Bool.eq_true_of_not_eq_false served
  cases i with
  | messageReceive bytes => exact Fits.receive h bytes
  | messageSent =>
    unfold Instr.body State.messageGone
    dsimp only
    split
    · rename_i x rest out
      exact h.of_lengths (Nat.le_refl _) (by rw [out]; exact Nat.le_succ _)
    · exact h
  | notify k => exact Fits.sendNotify h k
  | fetchDone =>
    unfold Instr.body State.sendFetchDone
    dsimp only
    split
    · split
      · rename_i enters; exact Fits.sendUnsolicited h enters _ _
      · exact h
    · exact h
    · exact h
  | restarted =>
    unfold Instr.body State.sendRestarted
    dsimp only
    split
    · split
      · rename_i enters; exact Fits.sendUnsolicited h enters _ _
      · exact h
    · exact h
  | powerOnReset r1 r0 => exact ⟨Nat.zero_le _, Nat.zero_le _⟩
  | pornLow => exact ⟨Nat.zero_le _, Nat.zero_le _⟩
  | ackNotify m first => exact Fits.runReleasing actAckNotify_sets _ first h (command rfl)
  | unmaskStream m first => exact Fits.runReleasing actUnmaskStream_sets _ first h (command rfl)
  | _ => cases other

theorem step_fits {s t : State} (hs : s.management.Fits) (h : s.stepsTo t) : t.management.Fits := by
  have event : ∀ (f : State → State) (u : State), u.management.Fits → (f u).management.Fits →
      ∀ v, Machine.event f u = .next v → v.management.Fits := by
    intro f u hu hf v hv
    unfold Machine.event at hv
    split at hv <;> cases hv
    · exact hf.of_lengths (Nat.le_refl _) (Nat.le_refl _)
    · exact hu
  unfold State.stepsTo step at h
  split at h
  · cases h
    unfold State.tick
    split
    · exact hs.of_lengths (Nat.le_refl _) (Nat.le_refl _)
    · exact hs
  · rename_i i rest _
    have hu : State.management { s with pending := rest } |>.Fits := hs
    generalize { s with pending := rest } = u at h hu
    have answered := exec_answered i u
    rw [h] at answered
    generalize hout : (Host.Outcome.next t : Host.Outcome State Fault Refusal) = out at answered
    cases answered with
    | command kind m hm =>
      refine event _ u hu ?_ t hout.symm
      rcases State.take_takes ⟨kind, m⟩ i.inStart i.body u with e | ⟨q, hq, takes, ⟨x, n, e, received, out, _, _⟩ | e⟩
      · rw [e]; exact hu
      · rw [e]
        refine (hu.enter takes.2 (v := .response) x).of_lengths ?_ ?_
        · show n.receiveQueue.length ≤ u.management.receiveQueue.length
          rw [received]
          exact hq
        · show n.outgoing.length ≤ (u.management.outgoing ++ [x]).length
          rw [out]
      · rw [e]
        exact body_fits i (ManagementLink.Fits.of_lengths hu hq (Nat.le_refl _)) fun _ => State.takes_of_queue q takes
    | commandKind kind m _ => exact event id u hu hu t hout.symm
    | event hm => exact event _ u hu (body_fits i hu fun k => absurd hm k) t hout.symm
    | signal p level hi =>
      refine event _ (u.setSignal p level) hu (body_fits i (s := u.setSignal p level) hu fun k => absurd ?_ k) t hout.symm
      rcases hi with rfl | rfl <;> rfl
    | power hi =>
      cases hout
      refine body_fits i hu fun k => absurd ?_ k
      rcases hi with ⟨r1, r0, rfl⟩ | rfl <;> rfl

/-! ## The inbox and the streams -/

/-- The inbox and the granted streams are within their sizes. -/
structure StoreLaw (s : State) : Prop where
  inbox : s.inbox.length ≤ 16
  streams : s.notification.streams.length ∈ [0, 1, 2, 4]

theorem StoreLaw.law : Law StoreLaw := fun _ _ e h => ⟨e.inbox ▸ h.inbox, e.streams ▸ h.streams⟩

theorem StoreLaw.of_tidy {s t : State} (h : StoreLaw s) (k : Tidy s t) (e : t.notification.streams = s.notification.streams) :
    StoreLaw t := ⟨k.inbox h.inbox, by rw [e]; exact h.streams⟩

/-- What a row does keeps these sizes. -/
def KeepsStoreLaw (s t : State) : Prop := StoreLaw s → StoreLaw t

theorem grantedCount_mem (n : Nat) : grantedCount n ∈ [0, 1, 2, 4] := by
  unfold grantedCount
  split_ifs <;> decide

theorem actSetStreams_keepsStoreLaw : actSetStreams.Moves KeepsStoreLaw := by
  intro forwarding fix params s r hr
  unfold actSetStreams setStreamsTo at hr
  split at hr <;> cases hr
  dsimp only
  split
  · exact fun h => h
  · split
    · exact fun h => h
    · refine fun h => ⟨h.inbox, ?_⟩
      show (regroup _ _).length ∈ _
      rw [length_regroup]
      exact grantedCount_mem _

theorem actSetLink_keepsStoreLaw : actSetLink.Moves KeepsStoreLaw := by
  intro forwarding fix params s r hr
  have tidy := actSetLink_tidy forwarding fix params s r hr
  refine fun h => h.of_tidy tidy ?_
  unfold actSetLink setLinkTo at hr
  split at hr
  · split at hr <;> cases hr
    · split
      · rfl
      · refine writeItem_moves (R := fun s t => t.notification.streams = s.notification.streams) rfl ?_
        rw [done_state]
        exact (applyEnable_kept _ _ (s.modPort _ _)).streams
    · rfl
  · cases hr

theorem loadAct_keepsStoreLaw {kind : Byte} {act : SettingAct} (h : loadAct kind = some act) : act.Moves KeepsStoreLaw := by
  have sets : ∀ {a : SettingAct}, a.Moves Sets → a.Moves KeepsStoreLaw := fun k f fix =>
    (k f fix).mono fun _ _ e => StoreLaw.law _ _ e.toAlike
  have routes : ∀ {a : SettingAct}, a.Moves WritesRoutes → a.Moves KeepsStoreLaw := fun k f fix =>
    (k f fix).mono fun _ _ ⟨_, e⟩ h => e ▸ ⟨h.inbox, h.streams⟩
  have same : ∀ {a : SettingAct}, a.Moves SameStation → a.Moves KeepsStoreLaw := fun k =>
    routes fun f fix => (k f fix).mono fun _ _ => SameStation.writesRoutes
  have acts := loadAct_cases h
  simp only [List.mem_cons, List.not_mem_nil, or_false] at acts
  obtain rfl | rfl | rfl | rfl | rfl | rfl | rfl | rfl | rfl | rfl | rfl | rfl | rfl := acts
  · exact routes actSetStation_writesRoutes
  · exact same actSetBayRange_sameStation
  · exact same actSetWindow_sameStation
  · exact same actSetDirected_sameStation
  · exact same actSetPermits_sameStation
  · exact same actSetSpoiled_sameStation
  · exact sets actSetQuota_sets
  · exact sets actSetExchangeTimers_sets
  · exact sets actSetStallLimit_sets
  · exact actSetLink_keepsStoreLaw
  · exact sets actSetReporting_sets
  · exact actSetStreams_keepsStoreLaw
  · intro f fix params s r hr
    rcases actOpenRoutingRecord_cases hr with e | ⟨_, e⟩ <;> rw [e]
    · exact fun h => h
    · exact fun h => ⟨h.inbox, h.streams⟩

theorem StoreLaw.of_reset {s : State} (hi : s.inbox = []) (hn : s.notification = .reset) : StoreLaw s :=
  ⟨by rw [hi]; exact Nat.zero_le _, by rw [hn]; decide⟩

theorem body_keepsStoreLaw (i : Instr) (s : State) (h : StoreLaw s) : StoreLaw (i.body s) := by
  by_cases plain : i.isPlain = true
  · exact StoreLaw.law _ _ (body_alike plain s) h
  by_cases traffic : i.isTraffic = true
  · exact h.of_tidy (body_tidy traffic s) (body_kept traffic s).streams
  by_cases table : i.writesRoutes = true
  · obtain ⟨r, e⟩ := body_writesRoutes table s
    exact StoreLaw.law _ _ e ⟨h.inbox, h.streams⟩
  have other : ¬(i.isPlain || i.isTraffic || i.writesRoutes) = true := by simp [plain, traffic, table]
  cases i with
  | setLink m => exact runAct_keeps StoreLaw.law actSetLink_keepsStoreLaw.host _ h
  | setStreams m => exact runAct_keeps StoreLaw.law actSetStreams_keepsStoreLaw.host _ h
  | resetRouter m =>
    rcases State.startReset_cases ⟨0x70, m⟩ s with e | ⟨cause, t, e⟩
    · exact StoreLaw.law _ _ e h
    · exact (congrArg StoreLaw e).mpr (.of_reset rfl rfl)
  | openRouting m =>
    refine runAct_keeps StoreLaw.law (fun params t r hr k => ?_) _ h
    rcases actOpenRouting_cases hr with e | ⟨_, _, e⟩ <;> rw [e]
    · exact k
    · exact ⟨k.inbox, k.streams⟩
  | closeRouting m =>
    refine runAct_keeps StoreLaw.law (fun params t r hr k => ?_) _ h
    rcases actCloseRouting_cases hr with e | ⟨_, e⟩ <;> rw [e]
    · exact k
    · exact StoreLaw.of_tidy (s := t.setRouterState .configuring) ⟨k.inbox, k.streams⟩
        (.foldl _ _ (fun _ _ => .redecideLink _ _ _ _) _) (Kept.redecideAll _).streams
  | restarted =>
    rcases State.sendRestarted_cases s with e | ⟨o, t, report, hs, k, e⟩
    · exact (congrArg StoreLaw e).mpr h
    · have kept := StoreLaw.law _ _ k h
      exact (congrArg StoreLaw e).mpr ⟨kept.inbox, kept.streams⟩
  | powerOnReset r1 r0 => exact .of_reset rfl rfl
  | pornLow => exact .of_reset rfl rfl
  | resetSymbol p =>
    rcases State.resetArrives_cases p s with e | ⟨cause, t, e⟩
    · exact StoreLaw.law _ _ e h
    · exact (congrArg StoreLaw e).mpr (.of_reset rfl rfl)
  | loadImageRead r =>
    rcases State.loadImage_cases r s with e | ⟨t, ph, hs, k, e⟩
    · exact (congrArg StoreLaw e).mpr h
    · have kept := StoreLaw.law _ _ k h
      exact (congrArg StoreLaw e).mpr ⟨kept.inbox, kept.streams⟩
  | loadRecord =>
    rcases replay_cases s with e | ⟨n, r, rest, report, ph, hs, e⟩
    · exact (congrArg StoreLaw e).mpr h
    · have record : KeepsStoreLaw s (runRecord r s).state := runRecord_moves r (fun h => h) fun kind act hact fix params =>
        loadAct_keepsStoreLaw hact _ fix params s
      have kept := record h
      exact (congrArg StoreLaw e).mpr ⟨kept.inbox, kept.streams⟩
  | _ => exact absurd rfl other

/-- Settles O60: what enters a queue finds a place, the inbox takes a record only below its size, and SET STREAMS grants 0, 1, 2 or 4. -/
theorem everyStepKeepsTheQueueLaw : Obligations.EveryStepKeepsTheQueueLaw := by
  intro s t hs h
  have link := step_fits ⟨hs.receiveQueue, hs.outgoing⟩ h
  have store : StoreLaw t :=
    step_keeps StoreLaw.law (fun _ k => ⟨k.inbox, k.streams⟩) (fun i s _ => body_keepsStoreLaw i s) ⟨hs.inbox, hs.streams⟩ h
  exact ⟨link.receiveQueue, link.outgoing, store.inbox, store.streams⟩

end Sys2Proof.Machine
end

section
/-! The proof about the places of the outgoing queue, what waits for one, and what every command puts there (R161 to R163, R187 to
R189). -/

namespace Sys2Proof.Machine

/-! ## Places (R176, R189) -/

theorem bne_eq_decide (w v : Waiter) : (v != w) = decide (v ≠ w) := by
  by_cases h : v = w <;> simp [h]

theorem not_isEmpty_eq_decide (g : List Waiter) : (!g.isEmpty) = decide (g ≠ []) := by cases g <;> simp

theorem ManagementLink.without_eq (w : Waiter) (m : ManagementLink) :
    m.without w = (m.waiting.map fun g => g.filter (· ≠ w)).filter (· ≠ []) := by
  simp only [ManagementLink.without, bne_eq_decide, not_isEmpty_eq_decide]

theorem ManagementLink.mayEnter_restarted_iff (m : ManagementLink) :
    m.mayEnter .restarted = true ↔ m.outgoing.length < 8 ∧ m.running = none := by
  have size : Config.outgoingQueueSize = 8 := rfl
  simp [ManagementLink.mayEnter, size]

/-- A message other than RESTARTED: its place, and what waits before it. -/
theorem ManagementLink.mayEnter_iff {m : ManagementLink} {w : Waiter} (hw : w ≠ .restarted) :
    m.mayEnter w = true ↔ m.outgoing.length < 7
      ∧ if m.restartedWaits = true then w = .response ∧ m.running ≠ none else m.isNext w = true := by
  have size : ∀ n, n + 1 < Config.outgoingQueueSize ↔ n < 7 := fun n => by
    have size : Config.outgoingQueueSize = 8 := rfl
    omega
  by_cases h : m.restartedWaits = true <;> cases w <;> simp_all [ManagementLink.mayEnter, Option.isSome_iff_ne_none]

theorem ManagementLink.isNext_of_nothing {m : ManagementLink} (h : m.waiting = []) (w : Waiter) : m.isNext w = true := by
  unfold ManagementLink.isNext ManagementLink.without
  rw [h]
  rfl

theorem ManagementLink.restartedWaits_iff (m : ManagementLink) : m.restartedWaits = true ↔ .restarted ∈ m.waiting.flatten := by
  simp [ManagementLink.restartedWaits, List.mem_flatten]

/-- The oldest group may enter, and no other. -/
theorem ManagementLink.isNext_iff {m : ManagementLink} {g : List Waiter} {later : List (List Waiter)} (h : m.waiting = g :: later)
    (hg : g ≠ []) (hr : .restarted ∉ m.waiting.flatten) (w : Waiter) : m.isNext w = true ↔ w ∈ g := by
  have whole : g.filter (· != .restarted) = g := by
    rw [List.filter_eq_self]
    intro v hv
    have : v ≠ .restarted := fun e => hr (by rw [h]; exact List.mem_flatten.mpr ⟨g, List.mem_cons_self, e ▸ hv⟩)
    simp [this]
  unfold ManagementLink.isNext ManagementLink.without
  rw [h, List.map_cons, whole, List.filter_cons_of_pos (by simp [hg])]
  simp

/-! ## What waits (R189) -/

theorem State.stillWaiting_eq (s : State) :
    s.stillWaiting = (s.management.waiting.map fun g => g.filter (· ∈ s.ready)).filter (· ≠ []) := by
  have contains : ∀ w, s.ready.contains w = decide (w ∈ s.ready) := fun w => by simp
  simp only [State.stillWaiting, not_isEmpty_eq_decide]
  congr 2
  funext g
  congr 1
  funext w
  exact contains w

theorem State.noteWaiting_eq_stillWaiting (s : State) :
    s.noteWaiting = s.withWaiting (s.stillWaiting ++ (if s.beginToWait = [] then [] else [s.beginToWait])) := by
  rw [State.noteWaiting_eq, State.noteWaiting_waiting]
  split
  · rw [List.append_nil]
  · rfl

theorem State.mem_ready_iff (s : State) (w : Waiter) :
    w ∈ s.ready ↔
      match w with
      | .response =>
        (∃ c x, s.management.running = some ⟨c, .answered x⟩)
          ∨ (s.management.running = none ∧ s.management.receiveQueue ≠ [])
      | .fetchDone => ∃ i n d st, s.hostFetch = .holding i n d st
      | .notify k => s.notification.ready k.val = true
      | .restarted => ∃ o, s.loader.state = .start (.offering o) := by
  cases w with
  | response => rw [State.response_mem_ready]; exact s.management.responseReady_iff
  | fetchDone =>
    rw [State.fetchDone_mem_ready]
    cases e : s.hostFetch <;> simp [HostFetch.isHolding]
  | notify k => exact State.notify_mem_ready s k
  | restarted =>
    rw [State.restarted_mem_ready]
    unfold RouterState.offersRestarted
    split
    · rename_i o e; rw [e]; exact ⟨fun _ => ⟨o, rfl⟩, fun _ => rfl⟩
    · rename_i no; exact ⟨fun k => absurd k Bool.false_ne_true, fun ⟨o, e⟩ => absurd e (no o)⟩

/-! ## What a row puts in the queue -/

/-- The link `after`, as far as its queue and what waits go, is what this row makes of `m`, and leaves this command in progress. -/
def Puts (i : Instr) (m : ManagementLink) (running : Option Running) (after : ManagementLink) : Prop :=
  (after = m ∧ i ≠ .messageSent)
  ∨ (after = { m with outgoing := m.outgoing.tail } ∧ i = .messageSent)
  ∨ (∃ w x, after = m.enter w x ∧ m.mayEnter w = true
    ∧ match w with
      | .response => running = none ∧ i ≠ .fetchDone ∧ i ≠ .restarted ∧ i ≠ .messageSent ∧ ∀ k, i ≠ .notify k
      | .fetchDone => i = .fetchDone ∧ ∃ tag st d, x = ⟨0xFB, m.unsolicited, .fetchDone tag st d⟩
      | .restarted => i = .restarted ∧ ∃ report name, x = ⟨0xFC, m.unsolicited, .restarted report name⟩
      | .notify k =>
        (i = .notify k
          ∨ ((∃ c, i = .ackNotify c true ∨ i = .unmaskStream c true) ∧ ∃ c y, running = some ⟨c, .answered y⟩))
        ∧ ∃ n cats, x = ⟨0xFA, m.unsolicited, .notify n k cats⟩)
  ∨ ∃ k x y, after = (m.enter (.notify k) x).enter .response y ∧ m.mayEnter (.notify k) = true
    ∧ (m.enter (.notify k) x).mayEnter .response = true ∧ running = none
    ∧ (∃ c, i = .ackNotify c true ∨ i = .unmaskStream c true) ∧ ∃ n cats, x = ⟨0xFA, m.unsolicited, .notify n k cats⟩

/-- The row has left the link `n`: its queue and what waits are as `Puts` says. -/
def Put (i : Instr) (m n : ManagementLink) : Prop :=
  ∃ after : ManagementLink, n.waiting = after.waiting ∧ n.outgoing = after.outgoing ∧ Puts i m n.running after

theorem Put.same {i : Instr} {m n : ManagementLink} (hi : i ≠ .messageSent) (hw : n.waiting = m.waiting) (ho : n.outgoing = m.outgoing) :
    Put i m n := ⟨m, hw, ho, .inl ⟨rfl, hi⟩⟩

/-- None of the rows that put another message in the queue, or take one out. -/
def AnswersOnly (i : Instr) : Prop := i ≠ .fetchDone ∧ i ≠ .restarted ∧ i ≠ .messageSent ∧ ∀ k, i ≠ .notify k

theorem AnswersOnly.of_movesMessages {i : Instr} (h : i.movesMessages = false) : AnswersOnly i := by
  refine ⟨?_, ?_, ?_, fun k => ?_⟩ <;> rintro rfl <;> cases h

theorem AnswersOnly.of_message {i : Instr} (h : i.message ≠ none) : AnswersOnly i := by
  refine ⟨?_, ?_, ?_, fun k => ?_⟩ <;> rintro rfl <;> exact h rfl

/-- At most one response enters. -/
theorem Put.of_responded {i : Instr} {m n : ManagementLink} (hi : AnswersOnly i) (h : Responded m n) : Put i m n := by
  obtain ⟨notFetch, notRestarted, notSent, notNotify⟩ := hi
  rcases h with ⟨out, wait⟩ | ⟨may, ⟨x, out⟩, wait, idle⟩
  · exact .same notSent wait out
  · exact ⟨m.enter .response x, wait, out,
      .inr (.inr (.inl ⟨.response, x, rfl, may, idle, notFetch, notRestarted, notSent, notNotify⟩))⟩

/-- What is put from a link with the same queue, the same waiting messages and the same counter. -/
theorem Put.of_queue {i : Instr} {m n : ManagementLink} (q : List Message) (hi : i ≠ .messageSent)
    (h : Put i { m with receiveQueue := q } n) : Put i m n := by
  have may : ∀ w, { m with receiveQueue := q }.mayEnter w = m.mayEnter w := fun w => ManagementLink.mayEnter_congr rfl rfl rfl w
  obtain ⟨after, wait, out, puts⟩ := h
  rcases puts with ⟨rfl, _⟩ | ⟨_, sent⟩ | ⟨w, x, rfl, enters, rows⟩ | ⟨k, x, y, rfl, first, second, idle, rows, form⟩
  · exact .same hi wait out
  · exact absurd sent hi
  · exact ⟨m.enter w x, wait, out, .inr (.inr (.inl ⟨w, x, rfl, (may w).symm.trans enters, rows⟩))⟩
  · refine ⟨(m.enter (.notify k) x).enter .response y, wait, out, .inr (.inr (.inr ⟨k, x, y, rfl, (may _).symm.trans first, ?_, idle, rows, form⟩))⟩
    exact (ManagementLink.mayEnter_congr rfl rfl rfl _).symm.trans second

/-- ACK NOTIFY and UNMASK STREAM with the NOTIFY first: the NOTIFY enters where it may, and the response behind it or not yet. -/
theorem Put.runReleasing {i : Instr} {act : Act} (hact : act.Moves Sets) (hi : ∃ c, i = .ackNotify c true ∨ i = .unmaskStream c true)
    (c : Message) {s : State} (may : s.takes) : Put i s.management (State.runReleasing c act true s).management := by
  have answers : AnswersOnly i := by
    obtain ⟨m, rfl | rfl⟩ := hi <;> exact .of_message (Option.some_ne_none _)
  have respond : ∀ (t : State) st v, t.management = s.management → Put i s.management (t.respond c st v).management :=
    fun t st v same => .of_responded answers (Served.respond c st v same may).responded
  unfold State.runReleasing
  split
  · exact respond _ _ _ rfl
  · rename_i r hr
    have same := (hact _ _ _ hr).management
    split
    · have offered : ∀ t : State, t.management = s.management →
          Put i s.management (t.offerResponse c (c.response r.status r.values)).management := fun t e => by
        rw [State.offerResponse_enters _ _ (by rw [e]; exact may.2)]
        exact respond t _ _ e
      unfold State.notifyBefore
      split
      · rename_i k _
        rw [if_pos rfl]
        rcases State.sendNotify_management k r.state with e | ⟨enters, n, cats, e⟩
        · exact offered _ (e.trans same)
        · rw [same] at enters e
          generalize r.state.sendNotify k = t at e
          cases second : t.management.mayEnter .response with
          | true =>
            rw [State.offerResponse_enters _ _ second]
            rw [e] at second
            refine ⟨_, ?_, ?_, .inr (.inr (.inr ⟨k, ⟨0xFA, s.management.unsolicited, .notify n k cats⟩, c.response r.status r.values, rfl, enters,
              (ManagementLink.mayEnter_congr rfl rfl rfl _).trans second, rfl, hi, n, cats, rfl⟩))⟩
            · show t.management.without .response = _
              rw [e]
              rfl
            · show t.management.outgoing ++ _ = _
              rw [e]
              rfl
          | false =>
            rw [State.offerResponse_waits _ _ second]
            refine ⟨_, ?_, ?_, .inr (.inr (.inl ⟨.notify k, ⟨0xFA, s.management.unsolicited, .notify n k cats⟩, rfl, enters,
              .inr ⟨hi, c, c.response r.status r.values, rfl⟩, n, cats, rfl⟩))⟩
            · show t.management.waiting = _
              rw [e]
            · show t.management.outgoing = _
              rw [e]
      · exact offered _ same
    · exact respond _ _ _ same

theorem Put.sendNotify (k : Fin 4) (s : State) : Put (.notify k) s.management (s.sendNotify k).management := by
  rcases State.sendNotify_management k s with e | ⟨enters, n, cats, e⟩
  · rw [e]
    exact .same (fun h => by cases h) rfl rfl
  · rw [e]
    exact ⟨s.management.enter (.notify k) ⟨0xFA, s.management.unsolicited, .notify n k cats⟩, rfl, rfl,
      .inr (.inr (.inl ⟨.notify k, _, rfl, enters, .inl rfl, n, cats, rfl⟩))⟩

theorem Put.sendFetchDone (s : State) : Put .fetchDone s.management s.sendFetchDone.management := by
  unfold State.sendFetchDone
  split
  · split
    · rename_i tag n d st _ enters
      exact ⟨s.management.enter .fetchDone ⟨0xFB, s.management.unsolicited, .fetchDone tag st d⟩, rfl, rfl,
        .inr (.inr (.inl ⟨.fetchDone, _, rfl, enters, rfl, tag, st, d, rfl⟩))⟩
    · exact .same (fun h => by cases h) rfl rfl
  · exact .same (fun h => by cases h) rfl rfl
  · exact .same (fun h => by cases h) rfl rfl

theorem Put.sendRestarted (s : State) : Put .restarted s.management s.sendRestarted.management := by
  unfold State.sendRestarted
  split
  · split
    · rename_i o _ enters
      exact ⟨s.management.enter .restarted
          ⟨0xFC, s.management.unsolicited, .restarted { s.loader.report with outcome := some o } s.loader.entered.name⟩, rfl, rfl,
        .inr (.inr (.inl ⟨.restarted, _, rfl, enters, rfl, _, _, rfl⟩))⟩
    · exact .same (fun h => by cases h) rfl rfl
  · exact .same (fun h => by cases h) rfl rfl

theorem Put.messageGone (s : State) : Put .messageSent s.management s.messageGone.management := by
  refine ⟨{ s.management with outgoing := s.management.outgoing.tail }, ?_, ?_, .inr (.inl ⟨rfl, rfl⟩)⟩
  · unfold State.messageGone
    split <;> rfl
  · unfold State.messageGone
    split
    · rename_i x rest out
      show rest = _
      rw [out]
      rfl
    · rename_i out
      rw [out]
      rfl

/-- What every body but the receiver's and the two of PORN puts in the queue. -/
theorem body_put {i : Instr} (hp : i ≠ .pornLow) (hr : ∀ r1 r0, i ≠ .powerOnReset r1 r0) (hb : ∀ bytes, i ≠ .messageReceive bytes)
    {s : State} (may : i.message ≠ none → s.takes) : Put i s.management (i.body s).management := by
  by_cases served : i.movesMessages = false
  · exact .of_responded (.of_movesMessages served) (body_served served may).responded
  have command : ∀ {m}, i.message = some m → s.takes := fun e => may (by rw [e]; exact Option.some_ne_none _)
  have other := Bool.eq_true_of_not_eq_false served
  cases i with
  | messageReceive bytes => exact absurd rfl (hb bytes)
  | messageSent => exact .messageGone s
  | notify k => exact .sendNotify k s
  | fetchDone => exact .sendFetchDone s
  | restarted => exact .sendRestarted s
  | powerOnReset r1 r0 => exact absurd rfl (hr r1 r0)
  | pornLow => exact absurd rfl hp
  | ackNotify m first =>
    cases (show first = true from other)
    exact .runReleasing actAckNotify_sets ⟨m, .inl rfl⟩ _ (command rfl)
  | unmaskStream m first =>
    cases (show first = true from other)
    exact .runReleasing actUnmaskStream_sets ⟨m, .inr rfl⟩ _ (command rfl)
  | _ => cases other

/-- What a row with PORN high puts in the queue, before what waits is noted. -/
theorem exec_put {i : Instr} {s t : State} (porn : s.pins.porn = true) (hp : i ≠ .pornLow) (hr : ∀ r1 r0, i ≠ .powerOnReset r1 r0)
    (hb : ∀ bytes, i ≠ .messageReceive bytes) (h : exec i s = .next t) :
    ∃ u : State, t = u.noteWaiting ∧ Put i s.management u.management := by
  have noted : ∀ (f : State → State) (u : State), u.pins.porn = true → Machine.event f u = .next t → t = (f u).noteWaiting := by
    intro f u hu hf
    rw [event_high f hu] at hf
    cases hf
    rfl
  have answered := exec_answered i s
  rw [h] at answered
  generalize hout : (Host.Outcome.next t : Host.Outcome State Fault Refusal) = out at answered
  cases answered with
  | command kind m hm =>
    have named : i.message ≠ none := by rw [hm]; exact Option.some_ne_none _
    have answers := AnswersOnly.of_message named
    refine ⟨_, noted _ s porn hout.symm, ?_⟩
    rcases State.take_takes ⟨kind, m⟩ i.inStart i.body s with e | ⟨q, _, takes, ⟨x, n, e, _, out, wait, idle⟩ | e⟩ <;> rw [e]
    · exact .same answers.2.2.1 rfl rfl
    · exact .of_responded answers (.inr ⟨takes.2, ⟨x, out⟩, wait, idle⟩)
    · exact .of_queue q answers.2.2.1 (body_put hp hr hb fun _ => State.takes_of_queue q takes)
  | commandKind kind m hi =>
    refine ⟨s, noted id s porn hout.symm, .same ?_ rfl rfl⟩
    rintro rfl
    cases hi
  | event hm => exact ⟨_, noted _ s porn hout.symm, body_put hp hr hb fun k => absurd hm k⟩
  | signal p level hi =>
    refine ⟨_, noted _ (s.setSignal p level) porn hout.symm, body_put (s := s.setSignal p level) hp hr hb fun k => absurd ?_ k⟩
    rcases hi with rfl | rfl <;> rfl
  | power hi =>
    rcases hi with ⟨r1, r0, rfl⟩ | rfl
    · exact absurd rfl (hr r1 r0)
    · exact absurd rfl hp

/-! ## MESSAGE RECEIVE (R183, R185) -/

theorem State.received_waiting (e : ReceiverEvent) (s : State) : (s.received e).management.waiting = s.management.waiting := by
  unfold State.received State.messageArrives
  split
  · dsimp only
    split
    · rfl
    · split <;> rfl
  · rfl

theorem ManagementLink.stream_eq (bytes : List Byte) (m : ManagementLink) :
    m.stream bytes = match m.gathered with | none => bytes | some g => 0x9C :: g.taken ++ bytes := by
  unfold ManagementLink.stream
  cases m.gathered <;> rfl

/-! ## A row whose message may not enter -/

theorem State.sendNotify_waits {k : Fin 4} {s : State} (h : s.management.mayEnter (.notify k) = false) : s.sendNotify k = s := by
  unfold State.sendNotify
  simp only [h, Bool.and_false, Bool.false_eq_true, if_false]

theorem State.sendFetchDone_waits {s : State} (h : s.management.mayEnter .fetchDone = false) : s.sendFetchDone = s := by
  unfold State.sendFetchDone
  simp only [h, Bool.false_eq_true, if_false]
  split <;> rfl

theorem State.sendRestarted_waits {s : State} (h : s.management.mayEnter .restarted = false) : s.sendRestarted = s := by
  unfold State.sendRestarted
  simp only [h, Bool.false_eq_true, if_false]
  split <;> rfl

theorem State.offerRunning_enters {c : Message} {x : OutMessage} {s : State} (running : s.management.running = some ⟨c, .answered x⟩)
    (may : s.management.mayEnter .response = true) : s.offerRunning = s.enterResponse c x := by
  unfold State.offerRunning
  rw [running]
  simp only [may, if_true]

theorem State.offerRunning_waits {s : State} (h : s.management.mayEnter .response = false) : s.offerRunning = s := by
  unfold State.offerRunning
  simp only [h, Bool.false_eq_true, if_false]
  split <;> rfl

theorem State.offerRunning_undecided {s : State} (h : ∀ c x, s.management.running ≠ some ⟨c, .answered x⟩) : s.offerRunning = s := by
  unfold State.offerRunning
  split
  · rename_i c x running; exact absurd running (h c x)
  · rfl

theorem State.messageGone_cons {x : OutMessage} {rest : List OutMessage} {s : State} (h : s.management.outgoing = x :: rest) :
    s.messageGone = { s with management := { s.management with outgoing := rest }, wire := s.wire ++ [.message x.bytes] } := by
  unfold State.messageGone
  rw [h]
  rfl

theorem State.messageGone_nil {s : State} (h : s.management.outgoing = []) : s.messageGone = s := by
  unfold State.messageGone
  rw [h]

theorem State.receive_eq {bytes : List Byte} (h : bytes ≠ []) (s : State) :
    s.receive bytes = s.afterScan (scan 0 (s.management.stream bytes)) := by
  cases bytes with
  | nil => exact absurd rfl h
  | cons b bs => rfl

/-- Settles O54: a place is counted once for all messages; noting what waits filters and appends; a row answers at most one response,
but for those that send or release a message of their own. -/
theorem outgoingQueuePlacesAndMoves : Obligations.OutgoingQueuePlacesAndMoves := by
  refine ⟨⟨fun x rest s out => happens_of_event rfl (State.messageGone_cons out), fun c response s running may =>
      happens_of_event' rfl ⟨s.management.without .response, State.offerRunning_enters running may⟩⟩,
    fun m => ⟨m.mayEnter_restarted_iff, fun w hw h => ((ManagementLink.mayEnter_iff hw).mp h).1, fun w hw none room => ?_,
      fun w waits hw h => ?_, fun w g later hm hg hr hw => ?_, fun w x => ?_⟩,
    fun s => ⟨⟨s.beginToWait, fun w => ?_, ?_⟩, s.mem_ready_iff⟩,
    fun i s t porn hp hr hb h => ?_,
    fun bytes s porn => ⟨fun none => ?_, fun some => ?_, fun u e => State.received_waiting e u⟩,
    fun s => ⟨fun h => happens_of_event rfl (State.offerRunning_waits h), fun h => happens_of_event rfl (State.sendFetchDone_waits h),
      fun k h => happens_of_event rfl (State.sendNotify_waits h), fun h => happens_of_event rfl (State.sendRestarted_waits h),
      fun h => happens_of_event rfl (State.messageGone_nil h), fun h => happens_of_event rfl (State.offerRunning_undecided h)⟩⟩
  · have idle : m.restartedWaits = false := by unfold ManagementLink.restartedWaits; rw [none]; rfl
    refine (ManagementLink.mayEnter_iff hw).mpr ⟨room, ?_⟩
    rw [idle]
    exact ManagementLink.isNext_of_nothing none w
  · have next := ((ManagementLink.mayEnter_iff hw).mp h).2
    rwa [if_pos waits] at next
  · have idle : ¬m.restartedWaits = true := fun k => hr ((ManagementLink.restartedWaits_iff m).mp k)
    rw [ManagementLink.mayEnter_iff hw, if_neg idle, ManagementLink.isNext_iff hm hg hr]
  · unfold ManagementLink.enter
    rw [ManagementLink.without_eq]
  · rw [State.mem_beginToWait, State.stillWaiting_eq]
  · rw [State.noteWaiting_eq_stillWaiting, State.stillWaiting_eq]
  · obtain ⟨u, rfl, after, wait, out, puts⟩ := exec_put porn hp hr hb h
    refine ⟨after, ?_, out, puts⟩
    rw [← wait]
    rfl
  · subst none
    exact event_high _ porn
  · refine (event_high _ porn).trans ?_
    rw [State.receive_eq some, ManagementLink.stream_eq]
    rfl

end Sys2Proof.Machine
end

section
/-! The proofs about the step, the clock, PORN, and the values and laws after a power-on reset (R118, R168, R171, R182, R184, R194). -/

namespace Sys2Proof.Machine

/-- Settles O1, by the step's own case of a front command. -/
theorem stepTakesTheFrontCommand : Obligations.StepTakesTheFrontCommand := fun _ _ _ => rfl

/-- Settles O4: each value is what the reset state's own definition holds; the maps hold one value in every place. -/
theorem resetValues : Obligations.ResetValues := by
  unfold Obligations.ResetValues
  refine ⟨rfl, rfl, fun b => ?_, fun p => ?_, rfl, rfl, fun i => ?_, fun p => ?_, rfl, rfl, fun p => ?_, fun i => ?_, fun c => ?_,
    rfl, rfl, rfl, rfl, rfl, rfl⟩
  · cases b <;> rfl
  · cases p <;> rfl
  · simp [State.entry, State.reset, ExchangeTable.reset]
  · cases p <;> rfl
  · cases p <;> rfl
  · match i with
    | .origin (.link p) => exact PerPort.get_const _ p
    | .origin .m => rfl
    | .router => rfl
  · cases c <;> rfl

/-- Settles O55: the tables hold no range and no open window, START has no pending-open mark, and every queue and port is empty. -/
theorem lawsHoldAtReset : Obligations.LawsHoldAtReset :=
  ⟨.reset, .inStart (ph := .reading) rfl fun k => absurd k Bool.false_ne_true, .reset rfl, .reset rfl,
    Nat.zero_le _, Nat.zero_le _, Nat.zero_le _, by decide⟩

/-! ## The clock (R85, R86, R111, R123, R124, R129, R184) -/

/-- A link in no quiet interval and no attempt is left by the clock. -/
theorem Link.elapse_same {l : Link} (n : Nat) (hd : ∀ left, l ≠ .down (some left)) (ht : ∀ a, l ≠ .training a) : l.elapse n = l := by
  cases l with
  | down q =>
    cases q with
    | none => rfl
    | some left => exact absurd rfl (hd left)
  | training a => exact absurd rfl (ht a)
  | _ => rfl

/-- Settles O2: the clock is a map over the entries, the ports and the management link, and each countdown's case is an equation. -/
theorem stepOnEmptyQueueIsAMillisecond : Obligations.StepOnEmptyQueueIsAMillisecond := by
  refine ⟨fun s h => ?_, fun n s => ⟨rfl, fun i => ?_, ?_, ?_, ?_, ?_, fun g h => ⟨fun k => ?_, fun k => ?_⟩⟩, fun n s p => ?_⟩
  · unfold step
    rw [h]
    rfl
  · rw [State.elapse_entry]
    refine ⟨fun h => ?_, fun x issue d h => ?_, fun x issue d h => ?_, fun x c left h => ?_⟩ <;> rw [h] <;> rfl
  · intro h
    rw [State.elapse_running, h]
    rfl
  · intro c h p left e
    rw [State.elapse_running, e]
    rfl
  · intro c x e
    rw [State.elapse_running, e]
    rfl
  · intro h
    rw [State.elapse_gathered, h]
    rfl
  · rw [State.elapse_gathered, h]
    exact Gathering.elapse_within k
  · rw [State.elapse_gathered, h]
    exact Gathering.elapse_beyond k
  · dsimp only
    rw [State.elapse_port]
    generalize s.port p = x
    have request : ∀ w, x.requestWait = some w → (x.elapse n).requestWait = some (w.elapse n) := fun w e => by
      show x.requestWait.map _ = _
      rw [e]
      rfl
    have link : ∀ l, x.link = l → (x.elapse n).link = l.elapse n := fun l e => congrArg (Link.elapse n) e
    refine ⟨rfl, rfl, fun e => ?_, fun d left e => request _ e, fun st left e => request _ e, fun e => ?_, fun left e => ?_,
      fun left e => link _ e, fun a e => link _ e, fun hd ht => Link.elapse_same n hd ht⟩
    · show x.requestWait.map _ = _
      rw [e]
      rfl
    · show x.answerWait.map _ = _
      rw [e]
      rfl
    · show x.answerWait.map _ = _
      rw [e]
      rfl

/-! ## PORN (R168) -/

/-- While PORN is low every row but those of PORN and of a partner signal leaves the state. -/
theorem exec_low {c : Instr} {s : State} (low : s.pins.porn = false) (hp : ∀ r1 r0, c ≠ .powerOnReset r1 r0) (hl : c ≠ .pornLow)
    (hs : ∀ p, c ≠ .partnerSignalPresent p) (ht : ∀ p, c ≠ .partnerSignalLoss p) : exec c s = .next s := by
  have answered := exec_answered c s
  generalize exec c s = out at answered
  cases answered with
  | command kind m hm => exact event_low _ low
  | commandKind kind m hi => exact event_low _ low
  | event hm => exact event_low _ low
  | signal p level hi => exact (hi.elim (hs p) (ht p)).elim
  | power hi =>
    rcases hi with ⟨r1, r0, e⟩ | e
    · exact absurd e (hp r1 r0)
    · exact absurd e hl

/-- Settles O3: a row is an event, which PORN low stops, but the rows of PORN itself and of a partner signal. -/
theorem pornHoldsAndTakesThePowerOnReset : Obligations.PornHoldsAndTakesThePowerOnReset :=
  ⟨fun _ _ low hp hl hs ht => exec_low low hp hl hs ht, fun _ _ _ => rfl, fun _ => rfl⟩

end Sys2Proof.Machine
end

section
/-! The proofs about the commands that write the route tables (R26 to R32): what each check asks, and what is written. -/

namespace Sys2Proof.Machine

/-! ## Commands taken outside START -/

/-- A command taken outside START whose act leaves the management link alone is answered with what its act replies. -/
theorem TakenOutsideStart.answers {i : Instr} {s t : State} {c : Message} {act : Act} {params : List Byte} {st : Status} {v : Values}
    (h : TakenOutsideStart s c) (he : exec i s = event (State.take c false (State.runAct c act)) s) (hparams : c.msg.params = params)
    (hact : act params s.taken = some ⟨{ t with management := s.taken.management }, st, v⟩) : Answers i s c st v t :=
  answers_of_act he h.toTaken (.inr h.running) (hparams ▸ hact)

theorem TakenOutsideStart.refused {i : Instr} {s : State} {c : Message} {act : Act} {params : List Byte} {st : Status}
    (h : TakenOutsideStart s c) (he : exec i s = event (State.take c false (State.runAct c act)) s) (hparams : c.msg.params = params)
    (hact : act params s.taken = some (refuse st s.taken)) : Answers i s c st .empty s :=
  h.answers he hparams hact

theorem TakenOutsideStart.badLength {i : Instr} {s : State} {c : Message} {act : Act}
    (h : TakenOutsideStart s c) (he : exec i s = event (State.take c false (State.runAct c act)) s)
    (hact : act c.msg.params s.taken = none) : Answers i s c .badLength .empty s :=
  answers_badLength he h.toTaken (.inr h.running) hact

/-! ## Bytes that name nothing (R195) -/

theorem Bay.ofByte_eq_none {b : Byte} (h : b = 0 ∨ 6 < b.toNat) : Bay.ofByte b = none := by
  unfold Bay.ofByte
  rcases h with rfl | h
  · rfl
  · rw [Port.ofByte_of_six_lt h]
    rfl

theorem WindowKind.ofByte_eq_none {k : Byte} (h : 1 < k.toNat) : WindowKind.ofByte k = none := by
  unfold WindowKind.ofByte
  split
  case h_3 => rfl
  all_goals omega

/-! ## SET STATION (R26) -/

theorem exec_setStation (m : HostMsg) (s : State) :
    exec (.setStation m) s = event (State.take ⟨0x10, m⟩ false
      (State.runAct ⟨0x10, m⟩ fun params s => actSetStation s.isForwarding false params s)) s := rfl

theorem setStationTo_badValue (forwarding fix : Bool) (s : State) : setStationTo 255 forwarding fix s = refuse .badValue s := rfl

theorem setStationTo_fixed {st : Byte} {s : State} (forwarding fix : Bool) (h : st ≠ 255) (hf : s.routes.ownStation.fixed = true)
    (hv : s.routes.ownStation.value ≠ st) : setStationTo st forwarding fix s = refuse .fixed s :=
  (if_neg h).trans (writeItem_fixed hf hv)

/-- A station that may be written as far as its mark goes is put to the checks of R26. -/
theorem setStationTo_taken {st : Byte} {s : State} (forwarding fix : Bool) (h : st ≠ 255)
    (hf : s.routes.ownStation.fixed = true → s.routes.ownStation.value = st) :
    setStationTo st forwarding fix s
      = if st ≠ 0 ∧ s.routes.inSomeRange st then refuse .conflict s
        else if st = 0 ∧ forwarding then refuse .wrongState s
        else done .empty (s.setRoutes { s.routes with ownStation := ⟨st, s.routes.ownStation.fixed || fix⟩ }) :=
  (if_neg h).trans (writeItem_taken hf)

theorem RouteTables.inSomeRange_iff (r : RouteTables) (st : Byte) :
    r.inSomeRange st = true ↔ ∃ b, (r.bays.get b).range.value.holds st = true := by
  simp [RouteTables.inSomeRange, List.any_eq_true, Bay.mem_all]

/-- Settles O6, check by check in the order of R25. -/
theorem setStationResults : Obligations.SetStationResults := by
  refine ⟨fun m st s h hp hst hf hr hw => ?_, fun m s h => ⟨fun hl => ?_, fun st hp => ⟨fun hst => ?_, fun hst hf hv => ?_,
    fun hst hf h0 hr => ?_, fun h0 hf hw => ?_⟩⟩⟩
  · have free : ¬(st ≠ 0 ∧ s.routes.inSomeRange st = true) := fun ⟨h0, k⟩ => by
      obtain ⟨b, hb⟩ := (RouteTables.inSomeRange_iff _ _).mp k
      exact absurd hb (by rw [hr h0 b]; exact Bool.false_ne_true)
    have idle : ¬(st = 0 ∧ s.isForwarding = true) := fun ⟨h0, k⟩ => absurd k (by rw [hw h0]; exact Bool.false_ne_true)
    have reply := (setStationTo_taken (s := s.taken) s.isForwarding false hst hf).trans ((if_neg free).trans (if_neg idle))
    rw [Bool.or_false] at reply
    exact h.answers (exec_setStation m s) hp (congrArg some reply)
  · refine h.badLength (exec_setStation m s) ?_
    unfold actSetStation
    split
    · rename_i st e; exact absurd (congrArg List.length e) hl
    · rfl
  · subst hst
    exact h.refused (exec_setStation m s) hp (congrArg some (setStationTo_badValue _ _ _))
  · exact h.refused (exec_setStation m s) hp (congrArg some (setStationTo_fixed (s := s.taken) _ _ hst hf hv))
  · have reply := (setStationTo_taken (s := s.taken) s.isForwarding false hst hf).trans
      (if_pos ⟨h0, (RouteTables.inSomeRange_iff _ _).mpr hr⟩)
    exact h.refused (exec_setStation m s) hp (congrArg some reply)
  · subst h0
    have reply := (setStationTo_taken (st := 0) (s := s.taken) s.isForwarding false (by decide) hf).trans
      ((if_neg (fun k => absurd rfl k.1)).trans (if_pos ⟨rfl, hw⟩))
    exact h.refused (exec_setStation m s) hp (congrArg some reply)

/-! ## SET BAY RANGE (R27) -/

theorem exec_setBayRange (m : HostMsg) (s : State) :
    exec (.setBayRange m) s = event (State.take ⟨0x11, m⟩ false
      (State.runAct ⟨0x11, m⟩ fun params s => actSetBayRange s.isForwarding false params s)) s := rfl

theorem actSetBayRange_some {b f l : Byte} {bay : Bay} (hb : Bay.ofByte b = some bay) (forwarding fix : Bool) (s : State) :
    actSetBayRange forwarding fix [b, f, l] s = some (setBayRangeTo bay ⟨f, l⟩ fix s) := by
  simp only [actSetBayRange, hb]

theorem actSetBayRange_none {b f l : Byte} (hb : Bay.ofByte b = none) (forwarding fix : Bool) (s : State) :
    actSetBayRange forwarding fix [b, f, l] s = some (refuse .badValue s) := by
  simp only [actSetBayRange, hb]

theorem setBayRangeTo_badValue {x : StationRange} (h : x.first = 255 ∨ x.last = 255) (b : Bay) (fix : Bool) (s : State) :
    setBayRangeTo b x fix s = refuse .badValue s := if_pos h

theorem setBayRangeTo_fixed {x : StationRange} {b : Bay} {s : State} (hx : ¬(x.first = 255 ∨ x.last = 255)) (fix : Bool)
    (hf : (s.routes.bays.get b).range.fixed = true) (hv : (s.routes.bays.get b).range.value ≠ x) :
    setBayRangeTo b x fix s = refuse .fixed s := (if_neg hx).trans (writeItem_fixed hf hv)

/-- A range that may be written as far as its mark goes is put to the check of R27. -/
theorem setBayRangeTo_taken {x : StationRange} {b : Bay} {s : State} (hx : ¬(x.first = 255 ∨ x.last = 255)) (fix : Bool)
    (hf : (s.routes.bays.get b).range.fixed = true → (s.routes.bays.get b).range.value = x) :
    setBayRangeTo b x fix s
      = if s.routes.rangeConflict b x then refuse .conflict s
        else done .empty (s.setRoutes { s.routes with
          bays := s.routes.bays.set b { s.routes.bays.get b with range := ⟨x, (s.routes.bays.get b).range.fixed || fix⟩ } }) :=
  (if_neg hx).trans (writeItem_taken hf)

/-- Two ranges share a station when one lies in both. -/
theorem StationRange.shares_iff (x y : StationRange) : x.shares y = true ↔ ∃ st, x.holds st = true ∧ y.holds st = true := by
  refine ⟨fun h => ?_, fun ⟨st, hx, hy⟩ => StationRange.shares_of_holds hx hy⟩
  simp only [StationRange.shares, StationRange.isEmpty, Bool.and_eq_true, Bool.not_eq_true', Bool.or_eq_false_iff,
    beq_eq_false_iff_ne, decide_eq_false_iff_not, decide_eq_true_eq, BitVec.not_lt] at h
  obtain ⟨⟨⟨⟨x0, hx⟩, y0, hy⟩, hxy⟩, hyx⟩ := h
  by_cases first : x.first ≤ y.first
  · exact ⟨y.first, (x.holds_iff _).mpr ⟨x0, first, hyx⟩, (y.holds_iff _).mpr ⟨y0, BitVec.le_refl _, hy⟩⟩
  · have first : y.first ≤ x.first := BitVec.le_of_lt (BitVec.not_le.mp first)
    exact ⟨x.first, (x.holds_iff _).mpr ⟨x0, BitVec.le_refl _, hx⟩, (y.holds_iff _).mpr ⟨y0, first, hxy⟩⟩

theorem RouteTables.rangeConflict_iff (r : RouteTables) (b : Bay) (x : StationRange) :
    r.rangeConflict b x = true ↔
      (∃ c st, c ≠ b ∧ x.holds st = true ∧ (r.bays.get c).range.value.holds st = true)
        ∨ (r.ownStation.value ≠ 0 ∧ x.holds r.ownStation.value = true) := by
  simp [RouteTables.rangeConflict, List.any_eq_true, Bay.mem_all, StationRange.shares_iff]

/-! ## SET WINDOW (R28, R29) -/

theorem exec_setWindow (m : HostMsg) (s : State) :
    exec (.setWindow m) s = event (State.take ⟨0x12, m⟩ false
      (State.runAct ⟨0x12, m⟩ fun params s => actSetWindow s.isForwarding false params s)) s := rfl

theorem actSetWindow_some {b k b3 b2 b1 b0 l3 l2 l1 l0 : Byte} {bay : Bay} {kind : WindowKind} (hb : Bay.ofByte b = some bay)
    (hk : WindowKind.ofByte k = some kind) (forwarding fix : Bool) (s : State) :
    actSetWindow forwarding fix [b, k, b3, b2, b1, b0, l3, l2, l1, l0] s
      = some (setWindowTo bay kind ⟨word32 b3 b2 b1 b0, word32 l3 l2 l1 l0⟩ fix s) := by
  simp only [actSetWindow, hb, hk]

theorem actSetWindow_none {b k b3 b2 b1 b0 l3 l2 l1 l0 : Byte} (h : Bay.ofByte b = none ∨ WindowKind.ofByte k = none)
    (forwarding fix : Bool) (s : State) :
    actSetWindow forwarding fix [b, k, b3, b2, b1, b0, l3, l2, l1, l0] s = some (refuse .badValue s) := by
  unfold actSetWindow
  dsimp only
  split
  · rename_i bay kind hb hk
    rcases h with h | h
    · rw [h] at hb; cases hb
    · rw [h] at hk; cases hk
  · rfl

theorem setWindowTo_badValue {w : Window} {k : WindowKind} (h : w.aligned k = false) (b : Bay) (fix : Bool) (s : State) :
    setWindowTo b k w fix s = refuse .badValue s := if_pos (by rw [h]; rfl)

theorem setWindowTo_fixed {w : Window} {k : WindowKind} {b : Bay} {s : State} (h : w.aligned k = true) (fix : Bool)
    (hf : ((s.routes.bays.get b).window k).fixed = true) (hv : ((s.routes.bays.get b).window k).value ≠ w) :
    setWindowTo b k w fix s = refuse .fixed s := (if_neg (by rw [h]; decide)).trans (writeItem_fixed hf hv)

/-- A window that may be written as far as its mark goes is put to the check of R29. -/
theorem setWindowTo_taken {w : Window} {k : WindowKind} {b : Bay} {s : State} (h : w.aligned k = true) (fix : Bool)
    (hf : ((s.routes.bays.get b).window k).fixed = true → ((s.routes.bays.get b).window k).value = w) :
    setWindowTo b k w fix s
      = if s.routes.windowConflict b k w then refuse .conflict s
        else done .empty (s.setRoutes { s.routes with
          bays := s.routes.bays.set b ((s.routes.bays.get b).setWindow k ⟨w, ((s.routes.bays.get b).window k).fixed || fix⟩) }) :=
  (if_neg (by rw [h]; decide)).trans (writeItem_taken hf)

/-- Two windows share a point when one lies in both. -/
theorem Window.shares_iff (x y : Window) : x.shares y = true ↔ ∃ a, x.holds a = true ∧ y.holds a = true := by
  refine ⟨fun h => ?_, fun ⟨a, hx, hy⟩ => Window.shares_of_holds hx hy⟩
  simp only [Window.shares, Window.isOpen, Bool.and_eq_true, decide_eq_true_eq] at h
  obtain ⟨⟨⟨hx, hy⟩, hxy⟩, hyx⟩ := h
  by_cases first : x.base ≤ y.base
  · exact ⟨y.base, (x.holds_iff _).mpr ⟨first, hyx⟩, (y.holds_iff _).mpr ⟨BitVec.le_refl _, hy⟩⟩
  · have first : y.base ≤ x.base := BitVec.le_of_lt (BitVec.not_le.mp first)
    exact ⟨x.base, (x.holds_iff _).mpr ⟨BitVec.le_refl _, hx⟩, (y.holds_iff _).mpr ⟨first, hxy⟩⟩

theorem RouteTables.windowConflict_iff (r : RouteTables) (b : Bay) (k : WindowKind) (w : Window) :
    r.windowConflict b k w = true ↔
      ∃ c l a, (c ≠ b ∨ l ≠ k) ∧ w.holds a = true ∧ ((r.bays.get c).window l).value.holds a = true := by
  have kinds : ∀ f : WindowKind → Prop, (∃ l, f l) ↔ f .general ∨ f .bulk := fun f =>
    ⟨fun ⟨l, h⟩ => by cases l <;> simp [h], fun h => h.elim (fun h => ⟨_, h⟩) (fun h => ⟨_, h⟩)⟩
  simp only [RouteTables.windowConflict, List.any_eq_true, Bay.mem_all, true_and, Bool.or_eq_true, Bool.and_eq_true,
    bne_iff_ne, Window.shares_iff, kinds, BayRecord.window, exists_and_left]
  simp only [ne_comm (a := k)]

/-- Settles O7, check by check in the order of R25; two ranges or windows share what lies in both. -/
theorem setBayRangeAndSetWindowWriteOrConflict : Obligations.SetBayRangeAndSetWindowWriteOrConflict := by
  refine ⟨fun m b f l bay s h hp hb => ?_, fun m b f l s h hp hb => ?_, fun m b k b3 b2 b1 b0 l3 l2 l1 l0 s h hp hn => ?_,
    fun m b k b3 b2 b1 b0 l3 l2 l1 l0 bay kind s h hp hb hk => ?_⟩
  · have act := fun t => actSetBayRange_some (f := f) (l := l) hb s.isForwarding false t
    refine ⟨fun hx => ?_, fun hf hl fixed value => ?_, fun hf hl fixed => ⟨fun conflict => ?_, fun free => ?_⟩⟩
    · exact h.refused (exec_setBayRange m s) hp ((act _).trans (congrArg some (setBayRangeTo_badValue hx _ _ _)))
    · exact h.refused (exec_setBayRange m s) hp ((act _).trans (congrArg some
        (setBayRangeTo_fixed (x := ⟨f, l⟩) (s := s.taken) (not_or.mpr ⟨hf, hl⟩) _ fixed value)))
    · have reply := (setBayRangeTo_taken (x := ⟨f, l⟩) (s := s.taken) (not_or.mpr ⟨hf, hl⟩) false fixed).trans
        (if_pos ((RouteTables.rangeConflict_iff _ _ _).mpr conflict))
      exact h.refused (exec_setBayRange m s) hp ((act _).trans (congrArg some reply))
    · have reply := (setBayRangeTo_taken (x := ⟨f, l⟩) (s := s.taken) (not_or.mpr ⟨hf, hl⟩) false fixed).trans
        (if_neg fun k => free ((RouteTables.rangeConflict_iff _ _ _).mp k))
      rw [Bool.or_false] at reply
      exact h.answers (exec_setBayRange m s) hp ((act _).trans (congrArg some reply))
  · exact h.refused (exec_setBayRange m s) hp (actSetBayRange_none (Bay.ofByte_eq_none hb) _ _ _)
  · refine h.refused (exec_setWindow m s) hp (actSetWindow_none ?_ _ _ _)
    rcases hn with hb | hb | hk
    · exact .inl (Bay.ofByte_eq_none (.inl hb))
    · exact .inl (Bay.ofByte_eq_none (.inr hb))
    · exact .inr (WindowKind.ofByte_eq_none hk)
  · have act := fun t => actSetWindow_some (b3 := b3) (b2 := b2) (b1 := b1) (b0 := b0) (l3 := l3) (l2 := l2) (l1 := l1) (l0 := l0) hb hk
      s.isForwarding false t
    refine ⟨fun hw => ?_, fun hw fixed value => ?_, fun hw fixed => ⟨fun conflict => ?_, fun free => ?_⟩⟩
    · exact h.refused (exec_setWindow m s) hp ((act _).trans (congrArg some (setWindowTo_badValue hw _ _ _)))
    · exact h.refused (exec_setWindow m s) hp ((act _).trans (congrArg some (setWindowTo_fixed (s := s.taken) hw _ fixed value)))
    · have reply := (setWindowTo_taken (s := s.taken) hw false fixed).trans
        (if_pos ((RouteTables.windowConflict_iff _ _ _ _).mpr conflict))
      exact h.refused (exec_setWindow m s) hp ((act _).trans (congrArg some reply))
    · have reply := (setWindowTo_taken (s := s.taken) hw false fixed).trans
        (if_neg fun k => free ((RouteTables.windowConflict_iff _ _ _ _).mp k))
      rw [Bool.or_false] at reply
      exact h.answers (exec_setWindow m s) hp ((act _).trans (congrArg some reply))

/-! ## SET DIRECTED, SET PERMITS, SET SPOILED (R30 to R32) -/

theorem exec_setDirected (m : HostMsg) (s : State) :
    exec (.setDirected m) s = event (State.take ⟨0x13, m⟩ false
      (State.runAct ⟨0x13, m⟩ fun params s => actSetDirected s.isForwarding false params s)) s := rfl

theorem exec_setPermits (m : HostMsg) (s : State) :
    exec (.setPermits m) s = event (State.take ⟨0x14, m⟩ false
      (State.runAct ⟨0x14, m⟩ fun params s => actSetPermits s.isForwarding false params s)) s := rfl

theorem exec_setSpoiled (m : HostMsg) (s : State) :
    exec (.setSpoiled m) s = event (State.take ⟨0x15, m⟩ false
      (State.runAct ⟨0x15, m⟩ fun params s => actSetSpoiled s.isForwarding false params s)) s := rfl

theorem actSetDirected_some {b3 b2 b1 b0 l3 l2 l1 l0 t f : Byte} {bay : Bay} {on : Bool} (ht : Bay.ofByte t = some bay)
    (hf : flagOfByte f = some on) (forwarding fix : Bool) (s : State) :
    actSetDirected forwarding fix [b3, b2, b1, b0, l3, l2, l1, l0, t, f] s
      = some (setDirectedTo ⟨word32 b3 b2 b1 b0, word32 l3 l2 l1 l0, bay, on⟩ fix s) := by
  simp only [actSetDirected, ht, hf]

theorem actSetDirected_none {b3 b2 b1 b0 l3 l2 l1 l0 t f : Byte} (h : Bay.ofByte t = none ∨ flagOfByte f = none)
    (forwarding fix : Bool) (s : State) :
    actSetDirected forwarding fix [b3, b2, b1, b0, l3, l2, l1, l0, t, f] s = some (refuse .badValue s) := by
  unfold actSetDirected
  dsimp only
  split
  · rename_i bay on ht hf
    rcases h with h | h
    · rw [h] at ht; cases ht
    · rw [h] at hf; cases hf
  · rfl

theorem actSetPermits_some {b u p : Byte} {bay : Bay} {upstream peer : Bool} (hb : Bay.ofByte b = some bay)
    (hu : flagOfByte u = some upstream) (hp : flagOfByte p = some peer) (forwarding fix : Bool) (s : State) :
    actSetPermits forwarding fix [b, u, p] s = some (setPermitsTo bay ⟨upstream, peer⟩ fix s) := by
  simp only [actSetPermits, hb, hu, hp]

theorem actSetPermits_none {b u p : Byte} (h : Bay.ofByte b = none ∨ flagOfByte u = none ∨ flagOfByte p = none)
    (forwarding fix : Bool) (s : State) : actSetPermits forwarding fix [b, u, p] s = some (refuse .badValue s) := by
  unfold actSetPermits
  dsimp only
  split
  · rename_i bay upstream peer hb hu hp
    rcases h with h | h | h
    · rw [h] at hb; cases hb
    · rw [h] at hu; cases hu
    · rw [h] at hp; cases hp
  · rfl

theorem actSetSpoiled_some {p d : Byte} {port : Port} {drop : Bool} (hp : Port.ofByte p = some port) (hd : flagOfByte d = some drop)
    (forwarding fix : Bool) (s : State) :
    actSetSpoiled forwarding fix [p, d] s = some (setSpoiledTo port drop fix s) := by
  simp only [actSetSpoiled, hp, hd]

theorem actSetSpoiled_none {p d : Byte} (h : Port.ofByte p = none ∨ flagOfByte d = none) (forwarding fix : Bool) (s : State) :
    actSetSpoiled forwarding fix [p, d] s = some (refuse .badValue s) := by
  unfold actSetSpoiled
  dsimp only
  split
  · rename_i port drop hp hd
    rcases h with h | h
    · rw [h] at hp; cases hp
    · rw [h] at hd; cases hd
  · rfl

theorem setDirectedTo_badValue {d : Directed} (h : d.aligned = false) (fix : Bool) (s : State) :
    setDirectedTo d fix s = refuse .badValue s := if_pos (by rw [h]; rfl)

theorem setDirectedTo_aligned {d : Directed} (h : d.aligned = true) (fix : Bool) (s : State) :
    setDirectedTo d fix s
      = writeItem s.routes.directed d fix s fun y => done .empty (s.setRoutes { s.routes with directed := y }) :=
  if_neg (by rw [h]; decide)

/-- Settles O8: each act writes its one item as the item's mark allows, or names no item. -/
theorem directedPermitsSpoiledWritten : Obligations.DirectedPermitsSpoiledWritten := by
  refine ⟨fun m b3 b2 b1 b0 l3 l2 l1 l0 t f bay on s h hp ht hf => ?directed, fun m b u p upstream peer s h hp hu hr => ?permits,
    fun m b3 b2 b1 b0 l3 l2 l1 l0 t f s h hp hn => ?noDirected, fun m b u p s h hp hn => ?noPermits, fun m p d s h hp hn => ?noSpoiled,
    fun m p d drop s h hp hd => ?spoiled⟩
  case directed =>
    have act := fun q => actSetDirected_some (b3 := b3) (b2 := b2) (b1 := b1) (b0 := b0) (l3 := l3) (l2 := l2) (l1 := l1) (l0 := l0) ht hf
      s.isForwarding false q
    refine ⟨fun hd => ?_, fun hd fixed value => ?_, fun hd fixed => ?_⟩
    · exact h.refused (exec_setDirected m s) hp ((act _).trans (congrArg some (setDirectedTo_badValue hd _ _)))
    · exact h.refused (exec_setDirected m s) hp ((act _).trans (congrArg some
        ((setDirectedTo_aligned hd _ _).trans (writeItem_fixed fixed value))))
    · have reply := (setDirectedTo_aligned hd false s.taken).trans (writeItem_taken fixed)
      rw [Bool.or_false] at reply
      exact h.answers (exec_setDirected m s) hp ((act _).trans (congrArg some reply))
  case permits =>
    refine ⟨fun hb => ?_, fun bay hb => ⟨fun fixed value => ?_, fun fixed => ?_⟩⟩
    · exact h.refused (exec_setPermits m s) hp (actSetPermits_none (.inl hb) _ _ _)
    · exact h.refused (exec_setPermits m s) hp ((actSetPermits_some hb hu hr _ _ _).trans (congrArg some (writeItem_fixed fixed value)))
    · have reply : setPermitsTo bay ⟨upstream, peer⟩ false s.taken = _ := writeItem_taken fixed
      rw [Bool.or_false] at reply
      exact h.answers (exec_setPermits m s) hp ((actSetPermits_some hb hu hr _ _ _).trans (congrArg some reply))
  case noDirected =>
    refine h.refused (exec_setDirected m s) hp (actSetDirected_none ?_ _ _ _)
    rcases hn with ht | ht | hf
    · exact .inl (Bay.ofByte_eq_none (.inl ht))
    · exact .inl (Bay.ofByte_eq_none (.inr ht))
    · exact .inr (flagOfByte_of_one_lt hf)
  case noPermits =>
    refine h.refused (exec_setPermits m s) hp (actSetPermits_none ?_ _ _ _)
    rcases hn with hb | hb | hu | hr
    · exact .inl (Bay.ofByte_eq_none (.inl hb))
    · exact .inl (Bay.ofByte_eq_none (.inr hb))
    · exact .inr (.inl (flagOfByte_of_one_lt hu))
    · exact .inr (.inr (flagOfByte_of_one_lt hr))
  case noSpoiled =>
    refine h.refused (exec_setSpoiled m s) hp (actSetSpoiled_none ?_ _ _ _)
    rcases hn with hp | hd
    · exact .inl (Port.ofByte_of_six_lt hp)
    · exact .inr (flagOfByte_of_one_lt hd)
  case spoiled =>
    refine ⟨fun hn => ?_, fun port hport => ⟨fun fixed value => ?_, fun fixed => ?_⟩⟩
    · exact h.refused (exec_setSpoiled m s) hp (actSetSpoiled_none (.inl hn) _ _ _)
    · exact h.refused (exec_setSpoiled m s) hp ((actSetSpoiled_some hport hd _ _ _).trans (congrArg some (writeItem_fixed fixed value)))
    · have reply : setSpoiledTo port drop false s.taken = _ := writeItem_taken fixed
      rw [Bool.or_false] at reply
      exact h.answers (exec_setSpoiled m s) hp ((actSetSpoiled_some hport hd _ _ _).trans (congrArg some reply))

end Sys2Proof.Machine
end

section
/-! The proofs about the commands that read the tables, lanes and links, the inbox and the small settings, credits, and the ends of START
and of a run (R37 to R39, R63, R71, R72, R102, R105, R113, R117, R136, R167, R170, R176). -/

namespace Sys2Proof.Machine

/-! ## READ ROUTES (R37) -/

theorem exec_readRoutes (m : HostMsg) (s : State) :
    exec (.readRoutes m) s = event (State.take ⟨0x16, m⟩ false (State.runAct ⟨0x16, m⟩ actReadRoutes)) s := rfl

theorem Bay.ofByte_eq_some_iff (b : Byte) (bay : Bay) : Bay.ofByte b = some bay ↔ Port.ofByte b = some bay.port := by
  have named : ∀ p : Port, p.bay? = some bay ↔ p = bay.port := fun p => by cases p <;> cases bay <;> decide
  unfold Bay.ofByte
  rw [Option.bind_eq_some_iff]
  constructor
  · rintro ⟨p, hp, hb⟩
    rw [hp, (named p).mp hb]
  · exact fun h => ⟨bay.port, h, (named _).mpr rfl⟩

theorem actReadRoutes_bay {sel : Byte} {bay : Bay} (h : Bay.ofByte sel = some bay) (s : State) :
    actReadRoutes [sel] s = some (done (.routesBay (s.routes.bays.get bay) (s.routes.dropSpoiled.get bay.port)) s) := by
  have named : bay.port.bay? = some bay := by cases bay <;> rfl
  simp only [actReadRoutes, SetId.ofByte_of_port ((Bay.ofByte_eq_some_iff _ _).mp h), named]

theorem actReadRoutes_none {sel : Byte} (h : sel = 7 ∨ 8 < sel.toNat) (s : State) :
    actReadRoutes [sel] s = some (refuse .badValue s) := by
  rcases h with rfl | h
  · rfl
  · simp only [actReadRoutes, SetId.ofByte_of_eight_lt h]

/-! ## PROBE ROUTE (R38, R39) -/

theorem exec_probeRoute (m : HostMsg) (s : State) :
    exec (.probeRoute m) s = event (State.take ⟨0x17, m⟩ false (State.runAct ⟨0x17, m⟩ actProbeRoute)) s := rfl

theorem actProbeRoute_request (i a3 a2 a1 a0 n1 n0 : Byte) (s : State) :
    actProbeRoute [i, 0, 1, a3, a2, a1, a0, 1, n1, n0, 0] s
      = some (probeRequest i (word32 a3 a2 a1 a0) (word16 n1 n0).toNat s) := rfl

theorem actProbeRoute_notice (i st : Byte) (s : State) : actProbeRoute [i, 1, 0, 0, 1, st] s = some (probeNotice i st s) := rfl

/-- A kind that is neither request nor notice. -/
theorem actProbeRoute_badKind {i k : Byte} {rest : List Byte} (hk : 1 < k.toNat) (hr : (probeFields rest).isSome = true) (s : State) :
    actProbeRoute (i :: k :: rest) s = some (refuse .badValue s) := by
  obtain ⟨f, hf⟩ := Option.isSome_iff_exists.mp hr
  obtain ⟨n, hn⟩ := Nat.exists_eq_add_of_le' hk
  unfold actProbeRoute
  dsimp only
  rw [hf, hn]
  rfl

theorem probeRequest_done {i : Byte} {o : Origin} {n : Nat} (hi : Origin.ofByte i = some o) (h1 : 1 ≤ n) (h2 : n ≤ 4096) (a : Word32)
    (s : State) : probeRequest i a n s = done (.probe (s.probeReport (s.routeRequest o a n))) s := by
  have within : ¬(n = 0 ∨ Config.fetchMax < n) := by
    have max : Config.fetchMax = 4096 := rfl
    omega
  simp only [probeRequest, hi, if_neg within]

theorem probeRequest_badValue {i : Byte} {n : Nat} (h : 7 < i.toNat ∨ n = 0 ∨ 4096 < n) (a : Word32) (s : State) :
    probeRequest i a n s = refuse .badValue s := by
  unfold probeRequest
  split
  · rename_i o hi
    refine if_pos (h.resolve_left fun k => ?_)
    rw [Origin.ofByte_of_seven_lt k] at hi
    cases hi
  · rfl

theorem probeNotice_done {i st : Byte} {o : Origin} (hi : Origin.ofByte i = some o) (h : st ≠ 0) (s : State) :
    probeNotice i st s = done (.probe (s.probeReport (s.routeNotice o st))) s := by
  simp only [probeNotice, hi, if_neg h]

theorem probeNotice_badValue {i st : Byte} (h : 7 < i.toNat ∨ st = 0) (s : State) : probeNotice i st s = refuse .badValue s := by
  unfold probeNotice
  split
  · rename_i o hi
    refine if_pos (h.resolve_left fun k => ?_)
    rw [Origin.ofByte_of_seven_lt k] at hi
    cases hi
  · rfl

/-- Settles O9: each act answers from its selector or its fields, and a verdict of each kind gives its record. -/
theorem readRoutesAndProbeRouteAnswer : Obligations.ReadRoutesAndProbeRouteAnswer := by
  refine ⟨fun m sel s h hp => ⟨fun bay hb => ?_, fun hs => ?_, fun hs => ?_, fun hs => ?_⟩,
    ⟨fun m i a3 a2 a1 a0 n1 n0 o s h hp hi h1 h2 => ?_, fun m i st o s h hp hi h0 => ?_⟩,
    fun m i k a3 a2 a1 a0 n1 n0 s h hp hk => ?_, fun m i k st s h hp hk => ?_, fun s claim target => ⟨fun p most hl => ?_, rfl, fun _ _ => rfl, fun _ => rfl⟩,
    rfl, fun a ha => ?_⟩
  · exact h.answers (exec_readRoutes m s) hp (actReadRoutes_bay hb s.taken)
  · subst hs
    exact h.answers (exec_readRoutes m s) hp rfl
  · subst hs
    exact h.answers (exec_readRoutes m s) hp rfl
  · exact h.refused (exec_readRoutes m s) hp (actReadRoutes_none hs s.taken)
  · exact h.answers (exec_probeRoute m s) hp ((actProbeRoute_request ..).trans (congrArg some (probeRequest_done hi h1 h2 _ s.taken)))
  · exact h.answers (exec_probeRoute m s) hp ((actProbeRoute_notice ..).trans (congrArg some (probeNotice_done hi h0 s.taken)))
  · rcases hk with hk | ⟨rfl, hv⟩
    · exact h.refused (exec_probeRoute m s) hp (actProbeRoute_badKind hk rfl s.taken)
    · exact h.refused (exec_probeRoute m s) hp ((actProbeRoute_request ..).trans (congrArg some (probeRequest_badValue hv _ s.taken)))
  · rcases hk with hk | ⟨rfl, hv⟩
    · exact h.refused (exec_probeRoute m s) hp (actProbeRoute_badKind hk rfl s.taken)
    · exact h.refused (exec_probeRoute m s) hp ((actProbeRoute_notice ..).trans (congrArg some (probeNotice_badValue hv s.taken)))
  · unfold State.probeReport
    dsimp only
    rw [hl]
    rfl
  · cases a with
    | notReady => exact absurd rfl ha
    | _ => rfl

/-! ## READ INBOX, and host requests out of range (R63 to R66) -/

theorem exec_readInbox (m : HostMsg) (s : State) :
    exec (.readInbox m) s = event (State.take ⟨0x20, m⟩ false (State.runAct ⟨0x20, m⟩ actReadInbox)) s := rfl

theorem exec_issueStore (m : HostMsg) (s : State) :
    exec (.issueStore m) s = event (State.take ⟨0x21, m⟩ false (State.startStore ⟨0x21, m⟩)) s := rfl

theorem exec_sendNotice (m : HostMsg) (s : State) :
    exec (.sendNotice m) s = event (State.take ⟨0x22, m⟩ false (State.startNotice ⟨0x22, m⟩)) s := rfl

theorem exec_issueFetch (m : HostMsg) (s : State) :
    exec (.issueFetch m) s = event (State.take ⟨0x33, m⟩ false (State.startFetch ⟨0x33, m⟩)) s := rfl

/-- A command that is not run whole, answered in the act that takes it, with nothing else changed. -/
theorem TakenOutsideStart.responds {i : Instr} {s : State} {c : Message} {run : State → State} {st : Status} {v : Values}
    (h : TakenOutsideStart s c) (he : exec i s = event (State.take c false run) s) (hrun : run s.taken = s.taken.respond c st v) :
    Answers i s c st v s :=
  effect_of_run he h.toTaken (.inr h.running) ⟨_, hrun.trans (State.respond_eq c st v s.taken)⟩

theorem State.startStore_badValue {c : Message} {a : Word32} {data : List Byte} {f : Byte}
    (hp : issueStoreParams c.msg.params = some (a, data, f)) (h : data.length = 0 ∨ 1024 < data.length ∨ 1 < f.toNat) (s : State) :
    s.startStore c = s.respond c .badValue .empty := by
  unfold State.startStore
  rw [hp]
  dsimp only
  split
  · rename_i spoiled hf
    refine if_pos ?_
    rcases h with h | h | h
    · exact .inl h
    · exact .inr h
    · rw [flagOfByte_of_one_lt h] at hf
      cases hf
  · rfl

theorem State.startNotice_badValue {c : Message} {st c1 c0 : Byte} {data : List Byte} (hp : c.msg.params = st :: c1 :: c0 :: data)
    (h : st = 0 ∨ 32 < data.length) (s : State) : s.startNotice c = s.respond c .badValue .empty := by
  unfold State.startNotice
  rw [hp]
  exact if_pos h

theorem State.startFetch_badValue {c : Message} {a3 a2 a1 a0 n1 n0 : Byte} (hp : c.msg.params = [a3, a2, a1, a0, n1, n0])
    (h : (word16 n1 n0).toNat = 0 ∨ 4096 < (word16 n1 n0).toNat) (s : State) : s.startFetch c = s.respond c .badValue .empty := by
  unfold State.startFetch
  rw [hp]
  exact if_pos h

/-- Settles O13, by the range test that each of these commands begins with. -/
theorem inboxReadAndRequestsOutOfRange : Obligations.InboxReadAndRequestsOutOfRange := by
  refine ⟨fun m n1 n0 s h hp => ⟨fun h1 h2 => ?_, fun hn => ?_⟩, fun m a data f s h hp hv => ?_, fun m st c1 c0 data s h hp hv => ?_,
    fun m a3 a2 a1 a0 n1 n0 s h hp hv => ?_⟩
  · have within : ¬((word16 n1 n0).toNat = 0 ∨ 4 < (word16 n1 n0).toNat) := by omega
    exact h.answers (exec_readInbox m s) hp (congrArg some (if_neg within))
  · exact h.refused (exec_readInbox m s) hp (congrArg some (if_pos hn))
  · exact h.responds (exec_issueStore m s) (State.startStore_badValue hp hv s.taken)
  · exact h.responds (exec_sendNotice m s) (State.startNotice_badValue hp hv s.taken)
  · exact h.responds (exec_issueFetch m s) (State.startFetch_badValue hp hv s.taken)

/-! ## SET QUOTA, SET EXCHANGE TIMERS, SET STALL LIMIT (R71, R72, R113) -/

theorem exec_setQuota (m : HostMsg) (s : State) :
    exec (.setQuota m) s = event (State.take ⟨0x30, m⟩ false
      (State.runAct ⟨0x30, m⟩ fun params s => actSetQuota s.isForwarding false params s)) s := rfl

theorem exec_setExchangeTimers (m : HostMsg) (s : State) :
    exec (.setExchangeTimers m) s = event (State.take ⟨0x31, m⟩ false
      (State.runAct ⟨0x31, m⟩ fun params s => actSetExchangeTimers s.isForwarding false params s)) s := rfl

theorem exec_setStallLimit (m : HostMsg) (s : State) :
    exec (.setStallLimit m) s = event (State.take ⟨0x38, m⟩ false
      (State.runAct ⟨0x38, m⟩ fun params s => actSetStallLimit s.isForwarding false params s)) s := rfl

theorem actSetQuota_some {p n1 n0 : Byte} {port : Port} (hp : Port.ofByte p = some port) (forwarding fix : Bool) (s : State) :
    actSetQuota forwarding fix [p, n1, n0] s = some (setQuotaTo port (word16 n1 n0).toNat fix s) := by
  simp only [actSetQuota, hp]

theorem actSetQuota_none {p n1 n0 : Byte} (hp : 6 < p.toNat) (forwarding fix : Bool) (s : State) :
    actSetQuota forwarding fix [p, n1, n0] s = some (refuse .badValue s) := by
  simp only [actSetQuota, Port.ofByte_of_six_lt hp]

theorem setQuotaTo_within {n : Nat} (h1 : 1 ≤ n) (h2 : n ≤ 64) (p : Port) (fix : Bool) (s : State) :
    setQuotaTo p n fix s = writeItem (s.exchange.quotas.get p) n fix s fun y =>
      done .empty { s with exchange := { s.exchange with quotas := s.exchange.quotas.set p y } } := by
  have within : ¬(n = 0 ∨ Config.tableSize < n) := by
    have size : Config.tableSize = 64 := rfl
    omega
  exact if_neg within

theorem setTimersTo_within {x : ExchangeTimers} (h1 : 1 ≤ x.timeout) (h2 : x.timeout ≤ 1000) (h3 : x.quarantine ≤ 1000) (fix : Bool)
    (s : State) : setTimersTo x fix s = writeItem s.exchange.timers x fix s fun y =>
      done .empty { s with exchange := { s.exchange with timers := y } } := by
  have within : ¬(x.timeout = 0 ∨ 1000 < x.timeout ∨ 1000 < x.quarantine) := by omega
  exact if_neg within

/-- Settles O16, by the range test of each setting and the mark of its item. -/
theorem quotaTimersAndStallLimitWritten : Obligations.QuotaTimersAndStallLimitWritten := by
  refine ⟨⟨fun m p n1 n0 port s h hp hport => ?quota, fun m p n1 n0 s h hp hport => ?noPort, fun m t1 t0 q1 q0 s h hp => ?timers⟩,
    fun m l1 l0 s h hp => ?stall⟩
  case quota =>
    have act := fun t => actSetQuota_some (n1 := n1) (n0 := n0) hport s.isForwarding false t
    refine ⟨fun h1 h2 fixed => ?_, fun out => ?_, fun h1 h2 fixed value => ?_⟩
    · have reply := (setQuotaTo_within h1 h2 port false s.taken).trans (writeItem_taken fixed)
      rw [Bool.or_false] at reply
      exact h.answers (exec_setQuota m s) hp ((act _).trans (congrArg some reply))
    · exact h.refused (exec_setQuota m s) hp ((act _).trans (congrArg some (if_pos out)))
    · exact h.refused (exec_setQuota m s) hp ((act _).trans (congrArg some
        ((setQuotaTo_within h1 h2 port false s.taken).trans (writeItem_fixed fixed value))))
  case noPort => exact h.refused (exec_setQuota m s) hp (actSetQuota_none hport _ _ _)
  case timers =>
    refine ⟨fun h1 h2 h3 fixed => ?_, fun h1 h2 h3 fixed value => ?_, fun out => ?_⟩
    · have reply := (setTimersTo_within h1 h2 h3 false s.taken).trans (writeItem_taken fixed)
      rw [Bool.or_false] at reply
      exact h.answers (exec_setExchangeTimers m s) hp (congrArg some reply)
    · exact h.refused (exec_setExchangeTimers m s) hp (congrArg some
        ((setTimersTo_within h1 h2 h3 false s.taken).trans (writeItem_fixed fixed value)))
    · exact h.refused (exec_setExchangeTimers m s) hp (congrArg some (if_pos out))
  case stall =>
    have within : 1 ≤ (word16 l1 l0).toNat → (word16 l1 l0).toNat ≤ 250 →
        ¬((word16 l1 l0).toNat = 0 ∨ 250 < (word16 l1 l0).toNat) := by omega
    refine ⟨fun h1 h2 fixed => ?_, fun out => ?_, fun h1 h2 fixed value => ?_⟩
    · have reply := writeItem_taken (fix := false) (s := s.taken) (next := fun y => done .empty { s.taken with stallLimit := y }) fixed
      rw [Bool.or_false] at reply
      exact h.answers (exec_setStallLimit m s) hp (congrArg some ((if_neg (within h1 h2)).trans reply))
    · exact h.refused (exec_setStallLimit m s) hp (congrArg some (if_pos out))
    · exact h.refused (exec_setStallLimit m s) hp (congrArg some ((if_neg (within h1 h2)).trans (writeItem_fixed fixed value)))

/-! ## Sending and credits (R102, R105, R116) -/

/-- Settles O29: each event's own tests hold. -/
theorem sendingAndCredits : Obligations.SendingAndCredits := by
  refine ⟨fun p s f hf => happens_of_event (f := State.lastByte p) rfl ?_,
    fun p c s up idle owed => happens_of_event (f := State.returnCredit p c) rfl ?_,
    fun p c s g up hg => ⟨fun room => happens_of_event (f := State.creditArrives p c) rfl ?_,
      fun full => happens_of_event (f := State.creditArrives p c) rfl ?_⟩⟩
  · unfold State.lastByte
    rw [hf]
    rfl
  · exact if_pos ⟨up, Option.isNone_iff_eq_none.mpr idle, owed⟩
  · unfold State.creditArrives
    dsimp only
    rw [hg]
    exact if_pos ⟨up, room⟩
  · unfold State.creditArrives
    dsimp only
    rw [hg]
    exact if_neg fun k => absurd k.2 (Nat.not_lt.mpr full)

/-! ## READ LANES, READ LINK (R117, R136) -/

theorem exec_readLanes (m : HostMsg) (s : State) :
    exec (.readLanes m) s = event (State.take ⟨0x39, m⟩ false (State.runAct ⟨0x39, m⟩ actReadLanes)) s := rfl

theorem exec_readLink (m : HostMsg) (s : State) :
    exec (.readLink m) s = event (State.take ⟨0x44, m⟩ false (State.runAct ⟨0x44, m⟩ actReadLink)) s := rfl

theorem actReadLanes_some {p : Byte} {port : Port} (h : Port.ofByte p = some port) (s : State) :
    actReadLanes [p] s = some (done (.lanes (s.lanesReport port)) s) := by simp only [actReadLanes, h]

theorem actReadLanes_none {p : Byte} (h : Port.ofByte p = none) (s : State) : actReadLanes [p] s = some (refuse .badValue s) := by
  simp only [actReadLanes, h]

theorem actReadLink_some {p : Byte} {port : Port} (h : Port.ofByte p = some port) (s : State) :
    actReadLink [p] s = some (done (.link (s.port port).linkReport) s) := by simp only [actReadLink, h]

theorem actReadLink_none {p : Byte} (h : Port.ofByte p = none) (s : State) : actReadLink [p] s = some (refuse .badValue s) := by
  simp only [actReadLink, h]

theorem forwardedCount_eq (l : List LaneAnswer) : forwardedCount l = (l.filter fun a => !a.routerMade).length := rfl

/-- Settles O34: the two acts answer a port named or refuse, and each field of the two records is read off its definition. -/
theorem readLanesAndReadLinkAnswer : Obligations.ReadLanesAndReadLinkAnswer := by
  refine ⟨fun m p s h hp => ⟨fun port hport => ?_, fun none => ?_⟩, fun m p s h hp => ⟨fun port hport => ?_, fun none => ?_⟩,
    fun p s => ⟨rfl, rfl, fun hw => ?_, fun d left hw => ?_, fun st left hw => ?_, fun hw => ?_, fun left hw => ?_, rfl, rfl, rfl,
      forwardedCount_eq _, rfl, rfl, rfl⟩,
    fun x => ⟨rfl, rfl, rfl, rfl, rfl, fun most hl => ?_, fun hl => ?_, rfl, rfl⟩⟩
  · exact h.answers (exec_readLanes m s) hp (actReadLanes_some hport s.taken)
  · exact h.refused (exec_readLanes m s) hp (actReadLanes_none none s.taken)
  · exact h.answers (exec_readLink m s) hp (actReadLink_some hport s.taken)
  · exact h.refused (exec_readLink m s) hp (actReadLink_none none s.taken)
  · unfold State.lanesReport
    dsimp only
    rw [hw]
    exact ⟨rfl, rfl⟩
  · unfold State.lanesReport
    dsimp only
    rw [hw]
    exact ⟨rfl, rfl⟩
  · unfold State.lanesReport
    dsimp only
    rw [hw]
    exact ⟨rfl, rfl⟩
  · unfold State.lanesReport
    dsimp only
    rw [hw]
    exact ⟨rfl, rfl⟩
  · unfold State.lanesReport
    dsimp only
    rw [hw]
    exact ⟨rfl, rfl⟩
  · unfold PortState.linkReport
    dsimp only
    rw [hl]
    exact ⟨rfl, rfl⟩
  · unfold PortState.linkReport
    dsimp only
    rw [hl]
    refine ⟨?_, rfl⟩
    cases e : x.link with
    | up most => rw [e] at hl; cases hl
    | _ => rfl

/-! ## RESTARTED (R176) -/

/-- Settles O47: RESTARTED may enter, and the loader then leaves START for the state its mark says. -/
theorem restartedEndsStart : Obligations.RestartedEndsStart := by
  intro o s offers room idle
  have may := (ManagementLink.mayEnter_restarted_iff s.management).mpr ⟨room, idle⟩
  refine happens_of_event' (f := State.sendRestarted) rfl ⟨s.management.without .restarted, ?_⟩
  unfold State.sendRestarted
  rw [offers]
  simp only [may, if_true, Loader.entered]
  cases s.loader.pendingOpen <;> rfl

/-! ## RESET ROUTER (R170) -/

theorem exec_resetRouter (m : HostMsg) (s : State) :
    exec (.resetRouter m) s = event (State.take ⟨0x70, m⟩ false (State.startReset ⟨0x70, m⟩)) s := rfl

theorem ConditionUnit.mem_afterReset (k : ConditionUnit) (i : SetId) (c : Condition) :
    c ∈ k.afterReset.sets.get i ↔ c ∈ k.sets.get i ∧ c ∈ [.linkFailed, .malformed, .loadFailed, .spoiled] := by
  have sticky : ∀ names : List Condition, c ∈ keepSticky names ↔ c ∈ names ∧ c ∈ [.linkFailed, .malformed, .loadFailed, .spoiled] := by
    intro names
    rw [keepSticky, List.mem_filter]
    cases c <;> simp [Condition.sticky]
  match i with
  | .origin (.link p) =>
    show c ∈ (k.sets.ports.map keepSticky).get p ↔ _
    rw [PerPort.get_map]
    exact sticky _
  | .origin .m => exact sticky _
  | .router => exact sticky _

/-- Settles O48: the response enters, and the command reset follows in the same act; a reset keeps the sticky names of each set. -/
theorem resetRouterTakesTheCommandReset : Obligations.ResetRouterTakesTheCommandReset := by
  refine ⟨fun m s h hp => effect_of_run (exec_resetRouter m s) h.toTaken (.inr h.running) ⟨s.management.without .response, ?_⟩,
    fun k => ⟨k.mem_afterReset, rfl, rfl, rfl, fun c => ?_⟩, fun s => ⟨fun i n d e => ?_, fun i n d st e => ?_, fun e idle => ?_, fun e start => ?_⟩⟩
  · unfold State.startReset
    rw [show (⟨0x70, m⟩ : Message).msg.params = [] from hp]
    rfl
  · cases c <;> rfl
  · unfold State.lostFetch
    rw [e]
  · unfold State.lostFetch
    rw [e]
  · unfold State.lostFetch
    rw [e]
    exact if_neg (by rw [idle]; exact Bool.false_ne_true)
  · unfold State.lostFetch
    rw [e]
    exact if_pos start

/-! ## IDENTIFY (R167, R192) -/

/-- Settles O50: IDENTIFY is run in START too, and a load image may not hold it. -/
theorem identifyAnswersInEveryState : Obligations.IdentifyAnswersInEveryState := by
  intro m s h
  have he : exec (.identify m) s = event (State.take ⟨0x01, m⟩ true (State.runAct ⟨0x01, m⟩ actIdentify)) s := rfl
  refine ⟨fun hp => ?_, fun hp => ?_, by decide, fun flag params t hf => runRecord_notInLoad params t hf (by decide) rfl⟩
  · exact answers_of_done he h (.inl rfl) (by show actIdentify m.params _ = _; rw [hp]; rfl)
  · refine answers_badLength he h (.inl rfl) ?_
    show actIdentify m.params _ = none
    unfold actIdentify
    split
    · rename_i e; exact absurd e hp
    · rfl

end Sys2Proof.Machine
end

section
/-! The proofs about decoding: what claims a point or a station, the steps of a request and of a notice, and straddles (R2, R3, R20 to
R24, R45, R50, R52, R53, R59). -/

namespace Sys2Proof.Machine

/-! ## Claims (R21 to R24) -/

/-- The only bay of which something is named is found. -/
theorem Bay.findSome?_eq {α : Type} {f : Bay → Option α} {b : Bay} {c : α} (h : f b = some c)
    (unique : ∀ b' d, f b' = some d → b' = b) : Bay.all.findSome? f = some c := by
  cases found : Bay.all.findSome? f with
  | none =>
    rw [List.findSome?_eq_none_iff] at found
    exact absurd ((found b (Bay.mem_all b)).symm.trans h) (Option.some_ne_none c).symm
  | some d =>
    obtain ⟨b', _, hd⟩ := List.exists_of_findSome?_eq_some found
    rw [unique b' d hd] at hd
    exact hd.symm.trans h

theorem Bay.findSome?_eq_none {α : Type} {f : Bay → Option α} (h : ∀ b, f b = none) : Bay.all.findSome? f = none :=
  List.findSome?_eq_none_iff.mpr fun b _ => h b

theorem Directed.claims_iff (d : Directed) (a : Word32) : d.claims a = true ↔ d.on = true ∧ d.base ≤ a ∧ a ≤ d.limit := by
  simp [Directed.claims, and_assoc]

/-- A window that holds the point, of a bay whose claim is then one of its two kinds. -/
theorem RouteTables.windowClaim_eq_some {r : RouteTables} {a : Word32} {b : Bay} {c : Claim} (h : r.windowClaim a b = some c) :
    ∃ k, ((r.bays.get b).window k).value.holds a = true := by
  unfold RouteTables.windowClaim at h
  split at h
  · rename_i held; exact ⟨.general, held⟩
  · split at h
    · rename_i held; exact ⟨.bulk, held⟩
    · cases h

theorem RouteTables.windowClaim_eq_none {r : RouteTables} {a : Word32} {b : Bay}
    (h : ∀ k, ((r.bays.get b).window k).value.holds a = false) : r.windowClaim a b = none := by
  have general : (r.bays.get b).general.value.holds a = false := h .general
  have bulk : (r.bays.get b).bulk.value.holds a = false := h .bulk
  simp [RouteTables.windowClaim, general, bulk]

theorem RouteTables.claimOf_directed {r : RouteTables} {a : Word32} (h : r.directed.value.claims a = true) : r.claimOf a = .directed :=
  if_pos h

/-- The window that holds a point claims it, where the directed range does not: no other window holds it (R29). -/
theorem RouteTables.claimOf_window {r : RouteTables} (law : RouteLaw r) {a : Word32} (h : ¬r.directed.value.claims a = true) {b : Bay}
    {k : WindowKind} (held : ((r.bays.get b).window k).value.holds a = true) {c : Claim} (hc : r.windowClaim a b = some c) :
    r.claimOf a = c := by
  refine (if_neg h).trans (congrArg (·.getD Claim.byDefault) (Bay.findSome?_eq (b := b) (c := c) hc fun b' d hd => ?_))
  obtain ⟨l, other⟩ := RouteTables.windowClaim_eq_some hd
  exact (law.windows b' b l k a other held).1

theorem RouteTables.claimOf_general {r : RouteTables} (law : RouteLaw r) {a : Word32} (h : ¬r.directed.value.claims a = true) {b : Bay}
    (held : ((r.bays.get b).window .general).value.holds a = true) : r.claimOf a = .general b :=
  RouteTables.claimOf_window law h held (if_pos held)

theorem RouteTables.claimOf_bulk {r : RouteTables} (law : RouteLaw r) {a : Word32} (h : ¬r.directed.value.claims a = true) {b : Bay}
    (held : ((r.bays.get b).window .bulk).value.holds a = true) : r.claimOf a = .bulk b := by
  refine RouteTables.claimOf_window law h held ((if_neg fun general => ?_).trans (if_pos held))
  exact absurd (law.windows b b .general .bulk a general held).2 (by decide)

theorem RouteTables.claimOf_byDefault {r : RouteTables} {a : Word32} (h : ¬r.directed.value.claims a = true)
    (free : ∀ b k, ¬((r.bays.get b).window k).value.holds a = true) : r.claimOf a = .byDefault := by
  refine (if_neg h).trans (congrArg (·.getD Claim.byDefault) (Bay.findSome?_eq_none fun b => ?_))
  exact RouteTables.windowClaim_eq_none fun k => Bool.eq_false_of_not_eq_true (free b k)

theorem RouteTables.windowClaim_ne_byDefault {r : RouteTables} {a : Word32} {b : Bay} {c : Claim} (h : r.windowClaim a b = some c) :
    c ≠ .byDefault := by
  unfold RouteTables.windowClaim at h
  split at h
  · cases h; exact fun k => by cases k
  · split at h <;> cases h
    exact fun k => by cases k

/-- A point is claimed by other than default when the directed range or a window holds it. -/
theorem RouteTables.claimOf_ne_byDefault_iff (r : RouteTables) (a : Word32) :
    r.claimOf a ≠ .byDefault ↔ r.directed.value.claims a = true ∨ ∃ b k, ((r.bays.get b).window k).value.holds a = true := by
  constructor
  · intro h
    by_contra none
    rw [not_or, not_exists] at none
    exact h (RouteTables.claimOf_byDefault none.1 fun b k held => none.2 b ⟨k, held⟩)
  · rintro h e
    unfold RouteTables.claimOf at e
    split at e
    · cases e
    · rename_i off
      obtain ⟨b, k, held⟩ := h.resolve_left off
      cases found : Bay.all.findSome? (r.windowClaim a) with
      | none =>
        have free := List.findSome?_eq_none_iff.mp found b (Bay.mem_all b)
        have held' : (r.bays.get b).general.value.holds a = true ∨ (r.bays.get b).bulk.value.holds a = true := by
          cases k
          · exact .inl held
          · exact .inr held
        unfold RouteTables.windowClaim at free
        split at free
        · cases free
        · rename_i general
          rw [if_pos (held'.resolve_left general)] at free
          cases free
      | some c =>
        obtain ⟨b', _, hc⟩ := List.exists_of_findSome?_eq_some found
        rw [found] at e
        exact RouteTables.windowClaim_ne_byDefault hc e

/-! ## What forbids and what targets (R24, R50) -/

theorem Bay.port_bay? (b : Bay) : b.port.bay? = some b := by cases b <;> rfl

theorem RouteTables.forbids_bay (t : RouteTables) (b : Bay) (p : Port) :
    t.forbids (.link b.port) p
      = if p = .t then !(t.bays.get b).permits.value.upstream else !(t.bays.get b).permits.value.peer := by
  unfold RouteTables.forbids
  dsimp only
  rw [Bay.port_bay?]

theorem RouteTables.forbids_free (t : RouteTables) (p : Port) : t.forbids (.link .t) p = false ∧ t.forbids .m p = false := ⟨rfl, rfl⟩

/-! ## The steps of a request (R45) -/

/-- The state decides requests of this origin: it forwards, or the origin is M. -/
def State.decides (s : State) (i : Origin) : Prop := s.isForwarding = true ∨ i = .m

theorem State.decides_iff (s : State) (i : Origin) : s.decides i ↔ ¬((!s.isForwarding) = true ∧ i ≠ .m) := by
  unfold State.decides
  cases s.isForwarding <;> simp

theorem State.routeRequest_idle {s : State} {i : Origin} (hs : s.isForwarding = false) (hi : i ≠ .m) (a : Word32) (n : Nat) :
    s.routeRequest i a n = ⟨.nothing, none, .refuse .notReady .notReadyDrop⟩ := if_pos ⟨by rw [hs]; rfl, hi⟩

theorem State.routeRequest_noTarget {s : State} {i : Origin} {a : Word32} (h : s.decides i)
    (ht : s.routes.targetOf i (s.routes.claimOf a) = none) (n : Nat) :
    s.routeRequest i a n = ⟨s.routes.claimOf a, none, .refuse .noRoute .noRoute⟩ := by
  unfold State.routeRequest
  rw [if_neg ((s.decides_iff i).mp h)]
  dsimp only
  rw [ht]

theorem State.routeRequest_target {s : State} {i : Origin} {a : Word32} {p : Port} (h : s.decides i)
    (ht : s.routes.targetOf i (s.routes.claimOf a) = some p) (n : Nat) :
    s.routeRequest i a n = ⟨s.routes.claimOf a, some p,
      if s.routes.straddles (s.routes.claimOf a) a n then .refuse .noRoute .straddle
      else if i = .link p then .refuse .loopback .loopback
      else if s.routes.forbids i p then .refuse .blocked .blocked
      else if !s.isUp p then .refuse .portDown .noRoute
      else .place p⟩ := by
  unfold State.routeRequest
  rw [if_neg ((s.decides_iff i).mp h)]
  dsimp only
  rw [ht]

theorem State.routeRequest_found {s : State} {i : Origin} (h : s.decides i) (a : Word32) (n : Nat) :
    (s.routeRequest i a n).claim = s.routes.claimOf a
    ∧ (s.routeRequest i a n).target = s.routes.targetOf i (s.routes.claimOf a) := by
  cases ht : s.routes.targetOf i (s.routes.claimOf a) with
  | none => rw [State.routeRequest_noTarget h ht]; exact ⟨rfl, rfl⟩
  | some p => rw [State.routeRequest_target h ht]; exact ⟨rfl, rfl⟩

/-- A STORE that steps 1 to 8 place is put to steps 9 and 10. -/
theorem State.decideHead_store_place {s : State} {τ : Type} {i : Origin} {a : Word32} {data : List Byte} {p : Port} {most : Nat}
    (hv : (s.routeRequest i a data.length).verdict = .place p) (hl : (s.port p).link = .up most) (sp : Bool) :
    s.decideHead (τ := τ) i (.store a data sp)
      = if most < data.length then .drop .oversize
        else if sp && s.routes.dropsSpoiled i then .drop .spoiled
        else .place p := by
  have up : s.isUp p = true := by unfold State.isUp; rw [hl]; rfl
  simp only [State.decideHead, hv, State.storeVerdict, up, hl, Link.effectiveMax, Option.any_some, Bool.true_and, decide_eq_true_eq]

/-- Settles O10: the steps are the branches of the decision in their order; no point lies in two windows, so the window that holds it
claims it. -/
theorem requestDecodeOrder : Obligations.RequestDecodeOrder := by
  refine ⟨fun s i a n => ⟨fun idle hi => ?_, fun h => ⟨fun ht => ?_, fun p ht => ?steps⟩, fun data sp p most hv hl => ?store⟩,
    fun s i a n => ⟨fun _ _ => rfl, fun data sp hv => ?other, fun idle hi => ?nothing, fun h => State.routeRequest_found h a n⟩,
    fun t a law => ?claims, fun t i => ⟨rfl, fun b => ⟨rfl, rfl⟩, rfl⟩,
    fun t => ⟨t.forbids_bay, t.forbids_free, fun p => rfl, rfl⟩⟩
  · rw [State.routeRequest_idle idle hi]
  · rw [State.routeRequest_noTarget h ht]
  case steps =>
    rw [State.routeRequest_target h ht]
    dsimp only
    refine ⟨fun e => if_pos e, fun e => ?_⟩
    rw [e, if_neg Bool.false_ne_true]
    refine ⟨fun e => if_pos e, fun e => ?_⟩
    rw [if_neg e]
    refine ⟨fun e => if_pos e, fun e => ?_⟩
    rw [e, if_neg Bool.false_ne_true]
    exact ⟨fun e => if_pos (by rw [e]; rfl), fun e => if_neg (by rw [e]; decide)⟩
  case store =>
    rw [State.decideHead_store_place hv hl]
    refine ⟨fun big => if_pos big, fun fits spoiled drops => ?_, fun fits passes => ?_⟩
    · rw [if_neg (Nat.not_lt.mpr fits), spoiled, drops]
      rfl
    · rw [if_neg (Nat.not_lt.mpr fits), if_neg]
      rcases passes with e | e <;> rw [e] <;> simp
  case other =>
    unfold State.decideHead
    dsimp only
    split
    · rename_i p placed; exact absurd placed (hv p)
    · rfl
  case nothing =>
    rw [State.routeRequest_idle idle hi]
    exact ⟨rfl, rfl⟩
  case claims =>
    have holds : ∀ b k, ((t.bays.get b).window k).value.holds a = true ↔ _ := fun b k => Window.holds_iff _ a
    simp only [← Directed.claims_iff, ← holds]
    exact ⟨RouteTables.claimOf_directed, fun off b => ⟨RouteTables.claimOf_general law off, RouteTables.claimOf_bulk law off⟩,
      RouteTables.claimOf_byDefault⟩

/-! ## The steps of a notice (R59) -/

theorem State.forOwnStation_iff (s : State) (st : Byte) :
    s.forOwnStation st = true ↔ s.routes.ownStation.value ≠ 0 ∧ st = s.routes.ownStation.value ∧ s.inStart = false := by
  simp [State.forOwnStation, and_assoc]

theorem State.not_forOwnStation {s : State} {st : Byte}
    (h : s.routes.ownStation.value = 0 ∨ st ≠ s.routes.ownStation.value ∨ s.inStart = true) : ¬s.forOwnStation st = true := by
  intro k
  obtain ⟨h0, e, start⟩ := (s.forOwnStation_iff st).mp k
  rcases h with o | o | o
  · exact h0 o
  · exact o e
  · exact absurd (start.symm.trans o) Bool.false_ne_true

theorem State.routeNotice_own {s : State} {st : Byte} (h : s.forOwnStation st = true) (i : Origin) :
    s.routeNotice i st = ⟨.ownStation, none, .inbox⟩ := if_pos h

theorem State.routeNotice_idle {s : State} {i : Origin} {st : Byte} (h : ¬s.forOwnStation st = true) (hs : s.isForwarding = false)
    (hi : i ≠ .m) : s.routeNotice i st = ⟨.nothing, none, .drop .notReadyDrop⟩ :=
  (if_neg h).trans (if_pos ⟨by rw [hs]; rfl, hi⟩)

theorem State.routeNotice_noTarget {s : State} {i : Origin} {st : Byte} (h : ¬s.forOwnStation st = true) (hd : s.decides i)
    (ht : s.routes.targetOf i (s.routes.stationClaim st) = none) :
    s.routeNotice i st = ⟨s.routes.stationClaim st, none, .drop .noRoute⟩ := by
  unfold State.routeNotice
  rw [if_neg h, if_neg ((s.decides_iff i).mp hd)]
  dsimp only
  rw [ht]

theorem State.routeNotice_target {s : State} {i : Origin} {st : Byte} {p : Port} (h : ¬s.forOwnStation st = true) (hd : s.decides i)
    (ht : s.routes.targetOf i (s.routes.stationClaim st) = some p) :
    s.routeNotice i st = ⟨s.routes.stationClaim st, some p,
      if i = .link p then .drop .loopback
      else if s.routes.forbids i p then .drop .blocked
      else if !s.isUp p then .drop .noRoute
      else .place p⟩ := by
  unfold State.routeNotice
  rw [if_neg h, if_neg ((s.decides_iff i).mp hd)]
  dsimp only
  rw [ht]

theorem State.routeNotice_claim {s : State} {i : Origin} {st : Byte} (h : ¬s.forOwnStation st = true) (hd : s.decides i) :
    (s.routeNotice i st).claim = s.routes.stationClaim st := by
  cases ht : s.routes.targetOf i (s.routes.stationClaim st) with
  | none => rw [State.routeNotice_noTarget h hd ht]
  | some p => rw [State.routeNotice_target h hd ht]

/-- The range that holds a station claims it: no other range holds it (R27). -/
theorem RouteTables.stationClaim_range {t : RouteTables} (law : RouteLaw t) {b : Bay} {st : Byte}
    (h : (t.bays.get b).range.value.holds st = true) : t.stationClaim st = .range b := by
  have found : (Bay.all.findSome? fun b => if (t.bays.get b).range.value.holds st then some (Claim.range b) else none) = some (.range b) :=
    Bay.findSome?_eq (b := b) (if_pos h) fun b' d hd => by
      split at hd
      · rename_i other; exact law.ranges b' b st other h
      · cases hd
  unfold RouteTables.stationClaim
  rw [found]
  rfl

theorem RouteTables.stationClaim_byDefault {t : RouteTables} {st : Byte} (h : ∀ b, ¬(t.bays.get b).range.value.holds st = true) :
    t.stationClaim st = .byDefault := by
  have none : (Bay.all.findSome? fun b => if (t.bays.get b).range.value.holds st then some (Claim.range b) else none) = none :=
    Bay.findSome?_eq_none fun b => if_neg (h b)
  unfold RouteTables.stationClaim
  rw [none]
  rfl

/-- Settles O11: the steps are the branches of the decision in their order; no station lies in two ranges. -/
theorem noticeDecodeOrder : Obligations.NoticeDecodeOrder := by
  refine ⟨fun s i st => ⟨fun h0 e start => ?_, fun other => ⟨fun idle hi => ?_, fun h => ⟨fun ht => ?_, fun p ht => ?steps⟩⟩⟩,
    fun _ _ _ _ _ _ _ => rfl, fun s i st => ?claim, fun t st law => ?ranges, fun t i => ⟨fun b => rfl, rfl⟩,
    fun t => ⟨t.forbids_bay, t.forbids_free⟩⟩
  · rw [State.routeNotice_own ((s.forOwnStation_iff st).mpr ⟨h0, e, start⟩)]
  · rw [State.routeNotice_idle (State.not_forOwnStation other) idle hi]
  · rw [State.routeNotice_noTarget (State.not_forOwnStation other) h ht]
  case steps =>
    rw [State.routeNotice_target (State.not_forOwnStation other) h ht]
    dsimp only
    refine ⟨fun e => if_pos e, fun e => ?_⟩
    rw [if_neg e]
    refine ⟨fun e => if_pos e, fun e => ?_⟩
    rw [e, if_neg Bool.false_ne_true]
    exact ⟨fun e => if_pos (by rw [e]; rfl), fun e => if_neg (by rw [e]; decide)⟩
  case claim =>
    by_cases own : s.forOwnStation st = true
    · rw [State.routeNotice_own own, if_pos ((s.forOwnStation_iff st).mp own)]
    · rw [if_neg fun k => own ((s.forOwnStation_iff st).mpr k)]
      by_cases h : s.decides i
      · rw [State.routeNotice_claim own h, if_neg]
        rintro ⟨idle, hi⟩
        exact h.elim (fun f => absurd (idle.symm.trans f) Bool.false_ne_true) hi
      · obtain ⟨idle, hi⟩ := not_or.mp h
        have idle := Bool.eq_false_of_not_eq_true idle
        rw [State.routeNotice_idle own idle hi, if_pos ⟨idle, hi⟩]
  case ranges =>
    have holds : ∀ b, (t.bays.get b).range.value.holds st = true ↔ _ := fun b => StationRange.holds_iff _ st
    simp only [← holds]
    exact ⟨fun b h => RouteTables.stationClaim_range law h, RouteTables.stationClaim_byDefault⟩

/-! ## Straddles (R2, R3, R22) -/

/-- A run meets a span when one point lies in both. -/
theorem meets_iff (base limit a : Word32) {last : Nat} (h : a.toNat ≤ last) :
    meets base limit a last = true ↔ ∃ x : Word32, a.toNat ≤ x.toNat ∧ x.toNat ≤ last ∧ base ≤ x ∧ x ≤ limit := by
  simp only [meets, Bool.and_eq_true, decide_eq_true_eq, BitVec.le_def]
  constructor
  · rintro ⟨⟨hb, hl⟩, ha⟩
    by_cases first : a.toNat ≤ base.toNat
    · exact ⟨base, first, hl, Nat.le_refl _, hb⟩
    · exact ⟨a, Nat.le_refl _, h, by omega, ha⟩
  · rintro ⟨x, hax, hxl, hbx, hxm⟩
    omega

/-- A span meets a window or the directed range when one of its points is claimed by other than default. -/
theorem RouteTables.meetsSpan_iff (r : RouteTables) (a : Word32) {last : Nat} (h : a.toNat ≤ last) :
    r.meetsSpan a last = true ↔ ∃ x : Word32, a.toNat ≤ x.toNat ∧ x.toNat ≤ last ∧ r.claimOf x ≠ .byDefault := by
  have kinds : ∀ f : WindowKind → Prop, (∃ k, f k) ↔ f .general ∨ f .bulk := fun f =>
    ⟨fun ⟨k, hk⟩ => by cases k <;> simp [hk], fun h => h.elim (fun h => ⟨_, h⟩) (fun h => ⟨_, h⟩)⟩
  simp only [RouteTables.meetsSpan, Bool.or_eq_true, Bool.and_eq_true, List.any_eq_true, Bay.mem_all, true_and, meets_iff _ _ _ h,
    RouteTables.claimOf_ne_byDefault_iff, Directed.claims_iff, kinds, Window.holds_iff, BayRecord.window]
  constructor
  · rintro (⟨on, x, hax, hxl, hx⟩ | ⟨b, ⟨x, hax, hxl, hx⟩ | ⟨x, hax, hxl, hx⟩⟩)
    · exact ⟨x, hax, hxl, .inl ⟨on, hx⟩⟩
    · exact ⟨x, hax, hxl, .inr ⟨b, .inl hx⟩⟩
    · exact ⟨x, hax, hxl, .inr ⟨b, .inr hx⟩⟩
  · rintro ⟨x, hax, hxl, ⟨on, hx⟩ | ⟨b, hx | hx⟩⟩
    · exact .inl ⟨on, x, hax, hxl, hx⟩
    · exact .inr ⟨b, .inl ⟨x, hax, hxl, hx⟩⟩
    · exact .inr ⟨b, .inr ⟨x, hax, hxl, hx⟩⟩

/-- Settles O12: within a claim the last point decides; by default, a point in common with a run is the greater of the two starts. -/
theorem straddleCases : Obligations.StraddleCases := by
  intro r a n hn last
  have first : a.toNat ≤ last := by show a.toNat ≤ a.toNat + n - 1; omega
  refine ⟨fun _ => decide_eq_true_iff, fun b _ => decide_eq_true_iff, fun b _ => decide_eq_true_iff, fun _ => ?_⟩
  rw [← RouteTables.meetsSpan_iff r a first]
  show (decide (Config.pointSpace ≤ last) || r.meetsSpan a last) = true ↔ _
  rw [Bool.or_eq_true, decide_eq_true_eq]
  rfl

end Sys2Proof.Machine
end

section
/-! The proofs about the host-issued requests: what becomes of M's head by its decision (R44, R56, R62, R64 to R66, R74, R75, R92, R93). -/

namespace Sys2Proof.Machine

/-! ## M's head waits or is placed at once (R56, R65, R109) -/

/-- M's head holds AWAIT LANE under the stall limit. -/
def State.awaiting (c : Message) (r : Request Unit) (d : Port) (s : State) : State :=
  { s with management := { s.management with running := some ⟨c, .awaitLane r d s.stallLimit.value⟩ } }

theorem State.awaitHost_eq (c : Message) (r : Request Unit) (d : Port) (s : State) :
    s.awaitHost c r d = (s.awaiting c r d).offerRequestLane d .m := rfl

theorem State.hostHead_awaiting (c : Message) (r : Request Unit) (d : Port) (s : State) :
    (s.awaiting c r d).hostHead = some (r, d, s.stallLimit.value) := rfl

theorem State.wantsRequestLane_awaiting (c : Message) (r : Request Unit) (d : Port) (s : State) :
    (s.awaiting c r d).wantsRequestLane d .m = true := by
  unfold State.wantsRequestLane
  dsimp only
  rw [State.hostHead_awaiting]
  exact beq_self_eq_true d

theorem PortState.requestRoom_iff (x : PortState) : x.requestRoom = true ↔ x.link.isUp = true ∧ x.requestLane.length < 12 := by
  unfold PortState.requestRoom
  rw [Bool.and_eq_true, decide_eq_true_eq]
  rfl

/-- With room in the lane and no rival M's head is granted at once. -/
theorem State.awaitHost_granted {d : Port} {s : State} (up : s.isUp d = true)
    (room : (s.port d).requestLane.length < 12) (sole : ∀ q, s.wantsRequestLane d (.link q) = false) (c : Message) (r : Request Unit) :
    s.awaitHost c r d = (s.awaiting c r d).grantHost d := by
  rw [State.awaitHost_eq]
  refine if_pos (State.candidates_sole ?_ fun o ho => ?_)
  · rw [State.isCandidate_request, State.wantsRequestLane_awaiting, Bool.true_and]
    exact (PortState.requestRoom_iff _).mpr ⟨up, room⟩
  · rw [State.isCandidate_request]
    cases o with
    | link q =>
      have none : (s.awaiting c r d).wantsRequestLane d (.link q) = false := sole q
      rw [none, Bool.false_and]
    | m => exact absurd rfl ho

/-- With no room in the lane, or with a rival, M's head waits. -/
theorem State.awaitHost_waits {d : Port} {s : State}
    (h : 12 ≤ (s.port d).requestLane.length ∨ ∃ q, s.wantsRequestLane d (.link q) = true) (c : Message) (r : Request Unit) :
    s.awaitHost c r d = s.awaiting c r d := by
  rw [State.awaitHost_eq]
  refine if_neg ?_
  have candidate : ∀ o, (s.awaiting c r d).isCandidate d .request o
      = ((s.awaiting c r d).wantsRequestLane d o && (s.port d).requestRoom) := fun o => State.isCandidate_request _ d o
  cases room : (s.port d).requestRoom with
  | false =>
    rw [State.candidates_none fun o => by rw [candidate, room, Bool.and_false]]
    exact fun k => by cases k
  | true =>
    have free : ¬12 ≤ (s.port d).requestLane.length := Nat.not_le.mpr ((PortState.requestRoom_iff _).mp room).2
    obtain ⟨q, hq⟩ := h.resolve_left free
    have rival : (s.awaiting c r d).wantsRequestLane d (.link q) = true := hq
    exact State.candidates_rival (r := .link q) (by rw [candidate, room, rival]; rfl) (fun k => by cases k)

/-- The command in progress is answered as soon as its result is known, where its response may enter. -/
theorem State.conclude_responds {s : State} {c : Message} {stage : Stage} (running : s.management.running = some ⟨c, stage⟩)
    (may : s.management.mayEnter .response = true) (st : Status) (v : Values) : s.conclude st v = s.respond c st v := by
  unfold State.conclude
  rw [running]
  exact State.offerResponse_enters c _ may

/-! ## The decision of M's head (R64, R66, R93) -/

/-- M's head with its SPOILED latched, if it is spoiled (R44). -/
def State.marked (r : Request Unit) (s : State) : State := if r.spoiled then s.detect .m .spoiled r.hostSubject else s

theorem State.marked_routing (r : Request Unit) (s : State) : SameRouting s (s.marked r) := by
  unfold State.marked
  split
  · exact .detect _ _ _ s
  · exact .refl s

theorem State.marked_ports (r : Request Unit) (s : State) : (s.marked r).ports = s.ports := by
  unfold State.marked
  split
  · exact State.detect_ports _ _ _ s
  · rfl

theorem State.marked_stallLimit (r : Request Unit) (s : State) : (s.marked r).stallLimit = s.stallLimit := by
  unfold State.marked
  split
  · exact State.detect_stallLimit _ _ _ s
  · rfl

theorem State.marked_withManagement (r : Request Unit) (m : ManagementLink) (s : State) :
    State.marked r { s with management := m } = { s.marked r with management := m } := by
  unfold State.marked
  split
  · exact State.detect_withManagement _ _ _ m s
  · rfl

theorem State.marked_decideHead {r : Request Unit} {v : Verdict} {s : State} (h : s.decideHead .m r = v) :
    (if r.spoiled then s.detect .m .spoiled r.hostSubject else s).decideHead .m r = v :=
  ((s.marked_routing r).decideHead .m r).trans h

theorem State.issueHost_place {c : Message} {r : Request Unit} {d : Port} {s : State} (h : s.decideHead .m r = .place d) :
    s.issueHost c r = (s.marked r).awaitHost c r d := by
  unfold State.issueHost
  dsimp only
  rw [State.marked_decideHead h]
  rfl

theorem State.issueHost_inbox {c : Message} {r : Request Unit} {s : State} (h : s.decideHead .m r = .inbox) :
    s.issueHost c r = (s.marked r).hostInbox c r := by
  unfold State.issueHost
  dsimp only
  rw [State.marked_decideHead h]
  rfl

theorem State.issueHost_refuse {c : Message} {r : Request Unit} {st : AnsStatus} {k : Condition} {s : State}
    (h : s.decideHead .m r = .refuse st k) :
    s.issueHost c r = ((s.marked r).detect .m k r.hostSubject).respond c (.answer st) .empty := by
  unfold State.issueHost
  dsimp only
  rw [State.marked_decideHead h]
  rfl

theorem State.issueHost_drop {c : Message} {r : Request Unit} {k : Condition} {s : State} (h : s.decideHead .m r = .drop k) :
    s.issueHost c r = ((s.marked r).detect .m k r.hostSubject).respond c (dropStatus k) .empty := by
  unfold State.issueHost
  dsimp only
  rw [State.marked_decideHead h]
  rfl

/-! ## Host requests taken -/

/-- A host request whose run is answered, the other blocks as in `t`. -/
theorem TakenOutsideStart.answersIn {i : Instr} {s t : State} {c : Message} {run : State → State} {st : Status} {v : Values}
    (h : TakenOutsideStart s c) (he : exec i s = event (State.take c false run) s)
    (hrun : ∃ q, run s.taken = State.respond c st v { t with management := { s.taken.management with running := q } }) :
    Answers i s c st v t := by
  obtain ⟨q, hrun⟩ := hrun
  exact effect_of_run he h.toTaken (.inr h.running) ⟨s.management.without .response, hrun⟩

theorem State.taken_marked (r : Request Unit) (s : State) :
    s.taken.marked r = { s.marked r with management := s.taken.management } := State.marked_withManagement r _ s

theorem State.taken_decideHead {τ : Type} (i : Origin) (r : Request τ) (s : State) : s.taken.decideHead i r = s.decideHead i r :=
  SameRouting.decideHead ⟨rfl, rfl, fun _ => rfl⟩ i r

theorem State.marked_detect_taken (r : Request Unit) (k : Condition) (x : Subject) (s : State) :
    (s.taken.marked r).detect .m k x = { (s.marked r).detect .m k x with management := s.taken.management } := by
  rw [State.taken_marked]
  exact State.detect_withManagement _ _ _ _ _

/-- M's head taken and decided PLACE, placed at once: its command goes on as its grant does. -/
theorem State.issueHost_taken_granted {s : State} {c : Message} {r : Request Unit} {d : Port}
    (hv : s.decideHead .m r = .place d) (room : (s.port d).requestLane.length < 12)
    (sole : ∀ q, s.wantsRequestLane d (.link q) = false) :
    s.taken.issueHost c r = (State.awaiting c r d { s.marked r with management := s.taken.management }).grantHost d := by
  rw [State.issueHost_place ((s.taken_decideHead _ _).trans hv), State.taken_marked]
  have ports : (s.marked r).ports = s.ports := s.marked_ports r
  refine State.awaitHost_granted ?_ ?_ ?_ c r
  · show (s.marked r).isUp d = true
    rw [(s.marked_routing r).isUp]
    exact State.isUp_of_decide_place hv
  · show ((s.marked r).port d).requestLane.length < 12
    unfold State.port
    rw [ports]
    exact room
  · intro q
    refine Eq.trans ?_ (sole q)
    unfold State.wantsRequestLane State.port
    dsimp only
    rw [ports]

theorem State.issueHost_taken_waits {s : State} {c : Message} {r : Request Unit} {d : Port} (hv : s.decideHead .m r = .place d)
    (h : 12 ≤ (s.port d).requestLane.length ∨ ∃ q, s.wantsRequestLane d (.link q) = true) :
    s.taken.issueHost c r = State.awaiting c r d { s.marked r with management := s.taken.management } := by
  rw [State.issueHost_place ((s.taken_decideHead _ _).trans hv), State.taken_marked]
  have ports : (s.marked r).ports = s.ports := s.marked_ports r
  refine State.awaitHost_waits (h.imp (fun full => ?_) fun ⟨q, hq⟩ => ⟨q, ?_⟩) c r
  · show 12 ≤ ((s.marked r).port d).requestLane.length
    unfold State.port
    rw [ports]
    exact full
  · refine Eq.trans ?_ hq
    unfold State.wantsRequestLane State.port
    dsimp only
    rw [ports]

theorem TakenOutsideStart.mayEnter {s : State} {c : Message} (h : TakenOutsideStart s c) : s.taken.management.mayEnter .response = true :=
  (ManagementLink.mayEnter_congr rfl rfl rfl _).trans h.place

/-- A link on which a command has begun still has the place for its response. -/
theorem TakenOutsideStart.mayEnter_running {s : State} {c : Message} (h : TakenOutsideStart s c) (q : Running) :
    { s.taken.management with running := some q }.mayEnter .response = true :=
  ManagementLink.mayEnter_response_running q h.mayEnter h.idle

/-- A host request decided PLACE, with no room or with a rival, stays in progress under the stall limit. -/
theorem TakenOutsideStart.staysInProgress {i : Instr} {s : State} {c : Message} {run : State → State} {r : Request Unit} {d : Port}
    (h : TakenOutsideStart s c) (he : exec i s = event (State.take c false run) s) (hrun : run s.taken = s.taken.issueHost c r)
    (hv : s.decideHead .m r = .place d)
    (waits : 12 ≤ (s.port d).requestLane.length ∨ ∃ q, s.wantsRequestLane d (.link q) = true) :
    Effect i s
      { s.marked r with management :=
        { s.management with
          receiveQueue := s.management.receiveQueue.tail
          running := some ⟨c, .awaitLane r d s.stallLimit.value⟩ } } := by
  refine effect_of_run he h.toTaken (.inr h.running) ⟨s.management.waiting, ?_⟩
  rw [hrun, State.issueHost_taken_waits hv waits, ← s.marked_stallLimit r]
  rfl

/-- A host request refused or dropped at decode. -/
theorem TakenOutsideStart.refusedAtDecode {i : Instr} {s : State} {c : Message} {run : State → State} {r : Request Unit} {st : Status}
    {k : Condition} (h : TakenOutsideStart s c) (he : exec i s = event (State.take c false run) s)
    (hrun : run s.taken = s.taken.issueHost c r)
    (hv : (∃ a, s.decideHead .m r = .refuse a k ∧ st = .answer a) ∨ (s.decideHead .m r = .drop k ∧ st = dropStatus k)) :
    Answers i s c st .empty ((s.marked r).detect .m k r.hostSubject) := by
  refine h.answersIn he ⟨s.taken.management.running, ?_⟩
  rw [hrun]
  rcases hv with ⟨a, hv, rfl⟩ | ⟨hv, rfl⟩
  · rw [State.issueHost_refuse ((s.taken_decideHead _ _).trans hv), State.marked_detect_taken]
  · rw [State.issueHost_drop ((s.taken_decideHead _ _).trans hv), State.marked_detect_taken]

/-! ## ISSUE STORE (R64) -/

theorem State.startStore_issues {c : Message} {a : Word32} {data : List Byte} {f : Byte} {spoiled : Bool}
    (hp : issueStoreParams c.msg.params = some (a, data, f)) (hf : flagOfByte f = some spoiled) (h1 : 1 ≤ data.length)
    (h2 : data.length ≤ 1024) (s : State) : s.startStore c = s.issueHost c (.store a data spoiled) := by
  have within : ¬(data.length = 0 ∨ Config.payloadMax < data.length) := by
    have max : Config.payloadMax = 1024 := rfl
    omega
  unfold State.startStore
  rw [hp]
  dsimp only
  rw [hf]
  exact if_neg within

/-- A STORE of M granted is placed unchanged, and answered with its target. -/
theorem State.grantHost_store {s : State} {c : Message} {a : Word32} {data : List Byte} {sp : Bool} {d : Port}
    (may : (s.awaiting c (.store a data sp) d).management.mayEnter .response = true) :
    (s.awaiting c (.store a data sp) d).grantHost d
      = ((s.awaiting c (.store a data sp) d).placeRequest d .m (.store a data sp)).respond c .done (.target d) := by
  unfold State.grantHost
  rw [State.hostHead_awaiting]
  exact State.conclude_responds (s := (s.awaiting c (.store a data sp) d).placeRequest d .m (.store a data sp)) rfl may _ _

/-- Settles O14, by the verdict of M's head. -/
theorem issueStoreResults : Obligations.IssueStoreResults := by
  intro m a data f spoiled s h hp hf h1 h2 marked
  have he := exec_issueStore m s
  have hrun := State.startStore_issues (c := ⟨0x21, m⟩) hp hf h1 h2 s.taken
  have subject : s.marked (.store a data spoiled) = marked := by
    cases spoiled <;> rfl
  have placed : ∀ p most, (s.routeRequest .m a data.length).verdict = .place p → (s.port p).link = .up most → data.length ≤ most →
      s.decideHead .m (Request.store (τ := Unit) a data spoiled) = .place p := fun p most hv hl hm => by
    rw [State.decideHead_store_place hv hl, if_neg (Nat.not_lt.mpr hm)]
    exact if_neg (by simp [RouteTables.dropsSpoiled])
  refine ⟨fun p most hv hl hm => ⟨fun room sole => ?_, fun waits => ?_⟩, fun p most hv hl hm => ?_, fun st c hv => ?_⟩
  · rw [← subject]
    have reply := (hrun.trans (State.issueHost_taken_granted (placed p most hv hl hm) room sole)).trans
      (State.grantHost_store (c := ⟨0x21, m⟩) (h.mayEnter_running _))
    exact h.answersIn he ⟨_, reply⟩
  · rw [← subject]
    exact h.staysInProgress he hrun (placed p most hv hl hm) waits
  · rw [← subject]
    refine h.refusedAtDecode he hrun (.inr ⟨?_, rfl⟩)
    rw [State.decideHead_store_place hv hl, if_pos hm]
  · rw [← subject]
    refine h.refusedAtDecode he hrun (.inl ⟨st, ?_, rfl⟩)
    unfold State.decideHead
    dsimp only
    rw [hv]

/-! ## SEND NOTICE (R66) -/

theorem State.startNotice_issues {c : Message} {st c1 c0 : Byte} {data : List Byte} (hp : c.msg.params = st :: c1 :: c0 :: data)
    (h0 : st ≠ 0) (h32 : data.length ≤ 32) (s : State) :
    s.startNotice c = s.issueHost c (.notice st s.routes.ownStation.value (word16 c1 c0) data false) := by
  have within : ¬(st = 0 ∨ Config.noticeMax < data.length) := by
    have max : Config.noticeMax = 32 := rfl
    rintro (e | e)
    · exact h0 e
    · omega
  unfold State.startNotice
  rw [hp]
  exact if_neg within

theorem State.grantHost_notice {s : State} {c : Message} {t f : Byte} {k : Word16} {data : List Byte} {sp : Bool} {d : Port}
    (may : (s.awaiting c (.notice t f k data sp) d).management.mayEnter .response = true) :
    (s.awaiting c (.notice t f k data sp) d).grantHost d
      = ((s.awaiting c (.notice t f k data sp) d).placeRequest d .m (.notice t f k data sp)).respond c .done (.noticeWent (some d)) := by
  unfold State.grantHost
  rw [State.hostHead_awaiting]
  exact State.conclude_responds (s := (s.awaiting c (.notice t f k data sp) d).placeRequest d .m (.notice t f k data sp)) rfl may _ _

theorem State.inboxFull_iff (s : State) : s.inboxFull = true ↔ 16 ≤ s.inbox.length := decide_eq_true_iff

theorem State.appendInbox_room {s : State} (h : s.inbox.length < 16) (x : NoticeRecord) :
    s.appendInbox x = State.latch .router .inboxArrival { s with inbox := s.inbox ++ [x] } :=
  if_neg fun k => absurd ((State.inboxFull_iff s).mp k) (Nat.not_le.mpr h)

theorem State.appendInbox_full {s : State} (h : 16 ≤ s.inbox.length) (x : NoticeRecord) :
    s.appendInbox x = (s.latch .router .inboxOverflow).countRouter RouterCounters.addInboxDrop :=
  if_pos ((State.inboxFull_iff s).mpr h)

/-- Settles O15, by the verdict of M's head. -/
theorem sendNoticeResults : Obligations.SendNoticeResults := by
  intro m st c1 c0 data s h hp h0 h32 own
  have he := exec_sendNotice m s
  have hrun : s.taken.startNotice ⟨0x22, m⟩ = s.taken.issueHost ⟨0x22, m⟩ (.notice st own (word16 c1 c0) data false) :=
    State.startNotice_issues hp h0 h32 s.taken
  refine ⟨fun hv => ⟨fun room => ?_, fun full => ?_⟩, fun p hv => ⟨fun room sole => ?_, fun waits => ?_⟩, fun hv => ?_⟩
  · have free : ¬s.taken.inboxFull = true := fun k => absurd ((State.inboxFull_iff _).mp k) (Nat.not_le.mpr room)
    refine h.answersIn he ⟨s.taken.management.running, (hrun.trans (State.issueHost_inbox ((s.taken_decideHead _ _).trans hv))).trans ?_⟩
    refine (if_neg free).trans (congrArg (State.respond _ _ _) ?_)
    exact (State.appendInbox_room (s := s.taken) room _).trans (State.latch_withManagement _ _ _ { s with inbox := _ })
  · have full' : s.taken.inboxFull = true := (State.inboxFull_iff _).mpr full
    refine h.answersIn he ⟨s.taken.management.running, (hrun.trans (State.issueHost_inbox ((s.taken_decideHead _ _).trans hv))).trans ?_⟩
    refine (if_pos full').trans (congrArg (State.respond _ _ _) ?_)
    refine (State.appendInbox_full (s := s.taken) full _).trans ?_
    exact congrArg (State.countRouter _) (State.latch_withManagement _ _ _ s)
  · have reply := (hrun.trans (State.issueHost_taken_granted hv room sole)).trans
      (State.grantHost_notice (c := ⟨0x22, m⟩) (h.mayEnter_running _))
    exact h.answersIn he ⟨_, reply⟩
  · exact h.staysInProgress he hrun hv waits
  · exact h.refusedAtDecode he hrun (.inr ⟨hv, rfl⟩)

/-! ## ISSUE FETCH (R93) -/

theorem State.startFetch_eq {c : Message} {a3 a2 a1 a0 n1 n0 : Byte} (hp : c.msg.params = [a3, a2, a1, a0, n1, n0])
    (h1 : 1 ≤ (word16 n1 n0).toNat) (h2 : (word16 n1 n0).toNat ≤ 4096) (s : State) :
    s.startFetch c = if s.hostFetch ≠ .empty then s.respond c .busy .empty
      else s.issueHost c (.fetch (word32 a3 a2 a1 a0) (word16 n1 n0).toNat () false) := by
  have within : ¬((word16 n1 n0).toNat = 0 ∨ Config.fetchMax < (word16 n1 n0).toNat) := by
    have max : Config.fetchMax = 4096 := rfl
    omega
  unfold State.startFetch
  rw [hp]
  exact if_neg within

theorem State.grantHost_fetch_admitted {s : State} {c : Message} {a : Word32} {n : Nat} {d : Port} {i : RouterTag}
    (hi : s.admission .m = .ok i) (may : (s.awaiting c (.fetch a n () false) d).management.mayEnter .response = true) :
    (s.awaiting c (.fetch a n () false) d).grantHost d
      = State.respond c .done (.fetchIssued i d)
          { ((s.awaiting c (.fetch a n () false) d).openEntry i .host d a n).placeRequest d .m (.fetch a n i false) with
            hostFetch := .gathering i n [] } := by
  have admitted : (s.awaiting c (.fetch a n () false) d).admission .m = .ok i := hi
  unfold State.grantHost
  rw [State.hostHead_awaiting]
  dsimp only
  rw [admitted]
  exact State.conclude_responds
    (s := { ((s.awaiting c (.fetch a n () false) d).openEntry i .host d a n).placeRequest d .m (.fetch a n i false) with
      hostFetch := .gathering i n [] }) rfl may _ _

theorem State.grantHost_fetch_refused {s : State} {c : Message} {a : Word32} {n : Nat} {d : Port} {k : Condition}
    (hk : s.admission .m = .error k) (may : (s.awaiting c (.fetch a n () false) d).management.mayEnter .response = true) :
    (s.awaiting c (.fetch a n () false) d).grantHost d
      = State.respond c (.answer .tableFull) .empty
          (((s.awaiting c (.fetch a n () false) d).setPointer d .request .m).detect .m k (.fetch a n none false)) := by
  have refused : (s.awaiting c (.fetch a n () false) d).admission .m = .error k := hk
  have management : (((s.awaiting c (.fetch a n () false) d).setPointer d .request .m).detect .m k (.fetch a n none false)).management
      = (s.awaiting c (.fetch a n () false) d).management := by simp
  unfold State.grantHost
  rw [State.hostHead_awaiting]
  dsimp only
  rw [refused]
  refine State.conclude_responds (c := c) (stage := .awaitLane (.fetch a n () false) d s.stallLimit.value) ?_ ?_ _ _
  · exact congrArg ManagementLink.running management
  · exact (congrArg (ManagementLink.mayEnter · _) management).trans may

/-- Settles O20: the host fetch buffer first, then the verdict of M's head, then admission where it is granted. -/
theorem issueFetchResults : Obligations.IssueFetchResults := by
  intro m a3 a2 a1 a0 n1 n0 s h hp h1 h2 a n
  have he := exec_issueFetch m s
  have start := State.startFetch_eq (c := ⟨0x33, m⟩) hp h1 h2 s.taken
  refine ⟨fun busy => h.responds he (start.trans (if_pos busy)), fun empty => ?_⟩
  have hrun : s.taken.startFetch ⟨0x33, m⟩ = s.taken.issueHost ⟨0x33, m⟩ (.fetch a n () false) :=
    start.trans (if_neg fun k => k empty)
  have plain : s.marked (.fetch a n () false) = s := rfl
  have decided : s.decideHead .m (Request.fetch a n () false) = (s.routeRequest .m a n).verdict := rfl
  refine ⟨fun st c hv => ?_, fun p hv => ⟨fun room sole => ?_, fun waits => ?_⟩⟩
  · have refused := h.refusedAtDecode he hrun (.inl ⟨st, decided.trans hv, rfl⟩)
    rw [plain] at refused
    exact refused
  · have granted := State.issueHost_taken_granted (c := ⟨0x33, m⟩) (decided.trans hv) room sole
    rw [plain] at granted
    refine ⟨fun i hi => ?_, fun k hk => ?_⟩
    · have reply := (hrun.trans granted).trans (State.grantHost_fetch_admitted hi (h.mayEnter_running _))
      exact h.answersIn he ⟨_, reply⟩
    · have reply := (hrun.trans granted).trans (State.grantHost_fetch_refused hk (h.mayEnter_running _))
      have moved := State.detect_withManagement .m k (.fetch a n none false)
        { s.taken.management with running := some ⟨⟨0x33, m⟩, .awaitLane (.fetch a n () false) p s.stallLimit.value⟩ }
        (s.setPointer p .request .m)
      exact h.answersIn he ⟨_, reply.trans (congrArg (State.respond _ _ _) moved)⟩
  · have waiting := h.staysInProgress he hrun (decided.trans hv) waits
    rw [plain] at waiting
    exact waiting

end Sys2Proof.Machine
end

section
/-! The proofs about the exchange table: admission, the unanswered end of an exchange, CANCEL EXCHANGE, LIST EXCHANGES and the two
run-outs (R68 to R90, R98). -/

namespace Sys2Proof.Machine

/-! ## Admission (R69, R74, R75) -/

theorem Entry.isFree_iff (e : Entry) : e.isFree = true ↔ e = .free := by
  cases e <;> simp [Entry.isFree]

theorem Entry.activeFor_iff (o : Origin) (e : Entry) :
    e.activeFor o = true ↔ ∃ x issue d, x.origin.origin = o ∧ (e = .opened x issue d ∨ e = .orphan x issue d) := by
  cases e <;> simp [Entry.activeFor]

theorem State.lowestFree_none {s : State} (h : ∀ i, s.entry i ≠ .free) : s.lowestFree = none :=
  List.find?_eq_none.mpr fun i _ free => h i ((Entry.isFree_iff _).mp free)

/-- The router tags stand in their own order. -/
theorem State.lowestFree_some {s : State} {i : RouterTag} (free : s.entry i = .free) (lowest : ∀ j, j < i → s.entry j ≠ .free) :
    s.lowestFree = some i := by
  refine List.find?_eq_some_iff_getElem.mpr
    ⟨(Entry.isFree_iff _).mpr free, i.val, (List.length_finRange (n := 64)).symm ▸ i.isLt, ?_, fun j hj => ?_⟩
  · exact List.getElem_finRange _
  · have at_j : allTags[j]'(Nat.lt_trans hj ((List.length_finRange (n := 64)).symm ▸ i.isLt)) = ⟨j, Nat.lt_trans hj i.isLt⟩ :=
      List.getElem_finRange _
    rw [at_j, Bool.not_eq_true', Bool.eq_false_iff]
    exact fun k => lowest _ hj ((Entry.isFree_iff _).mp k)

theorem State.admission_over {s : State} {o : Origin} (h : s.quota o ≤ s.activeCount o) : s.admission o = .error .quotaRefused :=
  if_pos h

theorem State.admission_full {s : State} {o : Origin} (h : s.activeCount o < s.quota o) (full : ∀ i, s.entry i ≠ .free) :
    s.admission o = .error .tableFull := by
  unfold State.admission
  rw [if_neg (Nat.not_le.mpr h), State.lowestFree_none full]

theorem State.admission_takes {s : State} {o : Origin} {i : RouterTag} (h : s.activeCount o < s.quota o) (free : s.entry i = .free)
    (lowest : ∀ j, j < i → s.entry j ≠ .free) : s.admission o = .ok i := by
  unfold State.admission
  rw [if_neg (Nat.not_le.mpr h), State.lowestFree_some free lowest]

/-- Settles O19: the quota is tested first, then the table. -/
theorem admissionTest : Obligations.AdmissionTest := by
  refine ⟨fun s o => ⟨State.admission_over, State.admission_full, fun h i => State.admission_takes h⟩, fun s => ⟨rfl, fun p => rfl⟩,
    fun s o => ⟨allTags.filter fun i => (s.entry i).activeFor o, rfl, (List.nodup_finRange 64).filter _, fun i => ?_⟩⟩
  rw [List.mem_filter, Entry.activeFor_iff]
  exact and_iff_right (List.mem_finRange i)

/-! ## The unanswered end (R84, R86) -/

theorem State.tellEnd_exchange (cause : EndCause) (o : Requester) (s : State) : (s.tellEnd cause o).exchange = s.exchange := by
  cases o with
  | link p tag =>
    unfold State.tellEnd
    dsimp only
    split <;> rfl
  | host => rfl

theorem State.withdrawQueued_exchange (i : RouterTag) (x : Exchange) (issue : Issue) (s : State) :
    (s.withdrawQueued i x issue).exchange = s.exchange := by
  cases issue <;> rfl

theorem State.toQuarantine_eq {s t : State} (h : t.exchange = s.exchange) (i : RouterTag) (x : Exchange) (cause : EndCause) :
    t.toQuarantine i x cause
      = t.setEntry i
          (if s.exchange.timers.value.quarantine = 0 then .free else .quarantine x cause s.exchange.timers.value.quarantine) := by
  rw [← h]
  rfl

section Ends

variable {s : State} {i : RouterTag} {x : Exchange} {issue : Issue} {d : Nat}

theorem State.endEntry_opened (h : s.entry i = .opened x issue d) (cause : EndCause) :
    s.endEntry i cause true
      = State.setEntry i
          (if s.exchange.timers.value.quarantine = 0 then .free else .quarantine x cause s.exchange.timers.value.quarantine)
          ((s.tellEnd cause x.origin).withdrawQueued i x issue) := by
  have same : ((s.tellEnd cause x.origin).withdrawQueued i x issue).exchange = s.exchange :=
    (State.withdrawQueued_exchange _ _ _ _).trans (State.tellEnd_exchange _ _ _)
  simp only [State.endEntry, h, if_true, State.toQuarantine_eq same]

theorem State.endEntry_orphan (h : s.entry i = .orphan x issue d) (cause : EndCause) :
    s.endEntry i cause true
      = State.setEntry i
          (if s.exchange.timers.value.quarantine = 0 then .free else .quarantine x cause s.exchange.timers.value.quarantine)
          (s.withdrawQueued i x issue) := by
  have same : (s.withdrawQueued i x issue).exchange = s.exchange := State.withdrawQueued_exchange _ _ _ _
  simp only [State.endEntry, h, if_true, State.toQuarantine_eq same]

theorem State.endAndRematch_opened (h : s.entry i = .opened x issue d) (cause : EndCause) :
    s.endAndRematch i cause
      = State.rematch x.dest (State.setEntry i
          (if s.exchange.timers.value.quarantine = 0 then .free else .quarantine x cause s.exchange.timers.value.quarantine)
          ((s.tellEnd cause x.origin).withdrawQueued i x issue)) := by
  simp only [State.endAndRematch, State.endEntry_opened h, h, Entry.exchange?]

theorem State.endAndRematch_orphan (h : s.entry i = .orphan x issue d) (cause : EndCause) :
    s.endAndRematch i cause
      = State.rematch x.dest (State.setEntry i
          (if s.exchange.timers.value.quarantine = 0 then .free else .quarantine x cause s.exchange.timers.value.quarantine)
          (s.withdrawQueued i x issue)) := by
  simp only [State.endAndRematch, State.endEntry_orphan h, h, Entry.exchange?]

end Ends

/-! ## Run-outs (R85, R86) -/

/-- Settles O21: a deadline ends the exchange, a quarantine frees the entry. -/
theorem entryRunOuts : Obligations.EntryRunOuts := by
  refine ⟨fun i s x issue d => ⟨fun h => happens_of_event (f := State.deadlineEnds i) rfl ?_,
    fun h => happens_of_event (f := State.deadlineEnds i) rfl ?_⟩,
    fun i s x c left h => happens_of_event (f := State.quarantineEnds i) rfl ?_⟩
  · have later : ((s.elapse d).detect x.origin.origin .expired x.subject).entry i = .opened x issue (d - d) := by
      rw [State.detect_entry, State.elapse_entry, h]
      rfl
    simp only [State.deadlineEnds, h, State.endAndRematch_opened later, State.detect_exchange]
    rfl
  · have later : (s.elapse d).entry i = .orphan x issue (d - d) := by
      rw [State.elapse_entry, h]
      rfl
    simp only [State.deadlineEnds, h, State.endAndRematch_orphan later]
    rfl
  · simp only [State.quarantineEnds, h]

/-! ## CANCEL EXCHANGE (R89) -/

theorem exec_cancelExchange (m : HostMsg) (s : State) :
    exec (.cancelExchange m) s = event (State.take ⟨0x32, m⟩ false (State.runAct ⟨0x32, m⟩ actCancelExchange)) s := rfl

theorem actCancelExchange_named {tag : Byte} {i : RouterTag} (h : i.val = tag.toNat) (s : State) :
    actCancelExchange [tag] s = some (cancelEntry i s) := by
  have lt : tag.toNat < 64 := h ▸ i.isLt
  have named : (⟨tag.toNat, lt⟩ : RouterTag) = i := Fin.ext h.symm
  simp only [actCancelExchange, dif_pos lt, named]

theorem actCancelExchange_none {tag : Byte} (h : 64 ≤ tag.toNat) (s : State) :
    actCancelExchange [tag] s = some (refuse .badValue s) := by
  simp only [actCancelExchange, dif_neg (Nat.not_lt.mpr h)]

/-! ## An answer head matched again (R83) -/

theorem State.awaitedMatch_head {s : State} {p : Port} {left : Nat} {a : Answer} {rest : List Answer} {i : RouterTag}
    (wait : (s.port p).answerWait = some left) (head : (s.port p).answers = a :: rest) (named : i.val = a.tag.toNat) :
    (s.awaitedMatch p).isSome = (s.entry i).isOpen := by
  unfold State.awaitedMatch
  rw [wait, head]
  dsimp only
  rw [State.lookup_of_val named]
  cases s.entry i <;> rfl

theorem State.rematch_idle {s : State} {p : Port} (h : (s.port p).answerWait = none) : s.rematch p = s := by
  unfold State.rematch
  rw [h]

theorem State.rematch_opened {s : State} {p : Port} {left : Nat} {a : Answer} {rest : List Answer} {i : RouterTag}
    (wait : (s.port p).answerWait = some left) (head : (s.port p).answers = a :: rest) (named : i.val = a.tag.toNat)
    (h : (s.entry i).isOpen = true) : s.rematch p = s := by
  unfold State.rematch
  rw [wait, head]
  exact if_pos ((State.awaitedMatch_head wait head named).trans h)

theorem State.rematch_again {s : State} {p : Port} {left : Nat} {a : Answer} {rest : List Answer} {i : RouterTag}
    (wait : (s.port p).answerWait = some left) (head : (s.port p).answers = a :: rest) (named : i.val = a.tag.toNat)
    (h : (s.entry i).isOpen = false) : s.rematch p = (s.matchAnswer p a).serveAnswers p := by
  unfold State.rematch
  rw [wait, head]
  exact if_neg (Bool.eq_false_iff.mp ((State.awaitedMatch_head wait head named).trans h))

/-- The head of an answer class discarded, with the heads behind it named. -/
theorem State.dropAnswer_cons {s t : State} {p : Port} {a : Answer} {rest : List Answer} (same : t.port p = s.port p)
    (head : (s.port p).answers = a :: rest) :
    t.dropAnswer p
      = t.modPort p fun y =>
        { y with
          answers := rest
          answerWait := none
          owed := if s.isUp p then y.owed.set .answer (y.owed.answer + 1) else y.owed
          counters := { y.counters with dropped := y.counters.dropped + 1 } } := by
  have up : t.isUp p = s.isUp p := congrArg (fun x : PortState => x.link.isUp) same
  rw [State.dropAnswer_eq, up]
  refine State.modPort_congr p t ?_
  rw [same, head]
  rfl

theorem State.answerSubject_of_val {s : State} {a : Answer} {i : RouterTag} (named : i.val = a.tag.toNat) :
    s.answerSubject a = a.subject (s.entry i) := by
  unfold State.answerSubject
  rw [State.lookup_of_val named]

theorem State.matchAnswer_free {s : State} {a : Answer} {i : RouterTag} (named : i.val = a.tag.toNat) (h : s.entry i = .free) (p : Port) :
    s.matchAnswer p a
      = (s.detect (.link p) .strayAnswer (.answer a.tag a.payload.length none a.spoiled)).dropAnswer p := by
  unfold State.matchAnswer
  rw [State.lookup_of_val named, State.answerSubject_of_val named, h]
  rfl

theorem State.matchAnswer_quarantine {s : State} {a : Answer} {i : RouterTag} {x : Exchange} {c : EndCause} {l : Nat}
    (named : i.val = a.tag.toNat) (h : s.entry i = .quarantine x c l) :
    s.matchAnswer x.dest a
      = (s.detect (.link x.dest) .lateAnswer (.answer a.tag a.payload.length x.origin.tag? a.spoiled)).dropAnswer x.dest := by
  unfold State.matchAnswer
  rw [State.lookup_of_val named, State.answerSubject_of_val named, h]
  exact if_pos rfl

theorem State.matchAnswer_orphan {s : State} {a : Answer} {i : RouterTag} {x : Exchange} {issue : Issue} {d : Nat}
    (named : i.val = a.tag.toNat) (h : s.entry i = .orphan x issue d) :
    s.matchAnswer x.dest a
      = if a.final then ((s.dropAnswer x.dest).withdrawQueued i x issue).setEntry i .free else s.dropAnswer x.dest := by
  unfold State.matchAnswer
  rw [State.lookup_of_val named, h]
  exact if_pos rfl

theorem State.matchAnswer_opened {s : State} {a : Answer} {i : RouterTag} {x : Exchange} {issue : Issue} {d : Nat}
    (named : i.val = a.tag.toNat) (h : s.entry i = .opened x issue d) :
    s.matchAnswer x.dest a = s.matchOpen x.dest a i x issue d := by
  unfold State.matchAnswer
  rw [State.lookup_of_val named, h]
  exact if_pos rfl

/-! ## LIST EXCHANGES (R98) -/

theorem exec_listExchanges (m : HostMsg) (s : State) :
    exec (.listExchanges m) s = event (State.take ⟨0x34, m⟩ false (State.runAct ⟨0x34, m⟩ actListExchanges)) s := rfl

theorem State.exchangeRecords_eq (s : State) (start : Nat) :
    s.exchangeRecords start
      = (((List.finRange 64).filter fun i => decide (start ≤ i.val ∧ s.entry i ≠ .free)).take 16).map (fun i => (i, s.entry i)) := by
  have listed : (fun i : RouterTag => decide (start ≤ i.val) && !(s.entry i).isFree)
      = fun i => decide (start ≤ i.val ∧ s.entry i ≠ .free) := by
    funext i
    rw [Bool.decide_and]
    cases s.entry i <;> rfl
  unfold State.exchangeRecords
  rw [listed]
  rfl

theorem State.freeCount_eq (s : State) : s.freeCount = ((List.finRange 64).filter fun i => decide (s.entry i = .free)).length := by
  have free : (fun i : RouterTag => (s.entry i).isFree) = fun i => decide (s.entry i = .free) := by
    funext i
    cases s.entry i <;> rfl
  unfold State.freeCount
  rw [free]
  rfl

/-- Settles O17: the act's case by the named entry's state; an answer head that waits for a matched entry by that entry's. -/
theorem cancelAndListExchanges : Obligations.CancelAndListExchanges := by
  refine ⟨fun m tag s h hp => ⟨fun high => h.refused (c := ⟨0x32, m⟩) (exec_cancelExchange m s) hp (actCancelExchange_none high _),
    fun i hi => ?_⟩, fun p s => State.rematch_idle, fun p left a rest i s wait head named => ?_, fun m start s h hp => ?_,
    fun s start => ⟨s.exchangeRecords_eq start, s.freeCount_eq, rfl, fun p => by cases p <;> rfl, rfl, rfl, rfl⟩⟩
  · have he := exec_cancelExchange m s
    have act := actCancelExchange_named hi s.taken
    have same : s.taken.entry i = s.entry i := rfl
    refine ⟨fun x issue d hx => effect_of_act he h.toTaken (.inr h.running) (hp ▸ act.trans ?_),
      fun x issue d hx => effect_of_act he h.toTaken (.inr h.running) (hp ▸ act.trans ?_),
      fun hx => h.refused (c := ⟨0x32, m⟩) he hp (act.trans ?_),
      fun x c l hx => h.refused (c := ⟨0x32, m⟩) he hp (act.trans ?_)⟩
    · simp only [cancelEntry, same, hx, State.endAndRematch_opened (same.trans hx)]
      rfl
    · simp only [cancelEntry, same, hx, State.endAndRematch_orphan (same.trans hx)]
      rfl
    · simp only [cancelEntry, same, hx]
    · simp only [cancelEntry, same, hx]
  · refine ⟨fun x issue d hx => State.rematch_opened wait head named (by rw [hx]; rfl), fun x c l hx hd => ?_,
      fun x issue d hx hd => ?_, fun hx => ?_⟩
    · subst hd
      rw [State.rematch_again wait head named (by rw [hx]; rfl), State.matchAnswer_quarantine named hx,
        State.dropAnswer_cons (State.detect_port _ _ _ s _) head]
    · subst hd
      rw [State.rematch_again wait head named (by rw [hx]; rfl), State.matchAnswer_orphan named hx, State.dropAnswer_cons rfl head]
    · rw [State.rematch_again wait head named (by rw [hx]; rfl), State.matchAnswer_free named hx,
        State.dropAnswer_cons (State.detect_port _ _ _ s _) head]
  · refine ⟨fun low => h.answers (c := ⟨0x34, m⟩) (exec_listExchanges m s) hp ?_,
      fun high => h.refused (c := ⟨0x34, m⟩) (exec_listExchanges m s) hp ?_⟩
    · simp only [actListExchanges, if_pos (Nat.lt_succ_of_le low)]
      rfl
    · simp only [actListExchanges, if_neg (Nat.not_lt.mpr high)]

/-! ## Told of the end (R84, R96) -/

theorem PortState.routerMadeRoom_iff (x : PortState) : x.routerMadeRoom = true ↔ x.link.isUp = true ∧ x.answerLane.length < 8 := by
  unfold PortState.routerMadeRoom
  rw [Bool.and_eq_true, decide_eq_true_eq]
  rfl

theorem PortState.routerMadeRoom_eq_false_iff (x : PortState) :
    x.routerMadeRoom = false ↔ x.link.isUp = false ∨ 8 ≤ x.answerLane.length := by
  rw [Bool.eq_false_iff, ne_eq, PortState.routerMadeRoom_iff, not_and_or, Bool.not_eq_true, Nat.not_lt]

theorem State.tellEnd_room {s : State} {p : Port} (room : (s.port p).routerMadeRoom = true) (cause : EndCause) (tag : Byte) :
    s.tellEnd cause (.link p tag) = s.modPort p (PortState.pushAnswer (routerMadeAnswer tag cause.status)) := if_pos room

theorem State.tellEnd_noRoom {s : State} {p : Port} (full : (s.port p).routerMadeRoom = false) (cause : EndCause) (tag : Byte) :
    s.tellEnd cause (.link p tag) = s := if_neg (Bool.eq_false_iff.mp full)

/-! ## The FETCH withdrawn (R77) -/

theorem LaneRequest.isFetchOf_iff (i : RouterTag) (r : LaneRequest) : r.isFetchOf i = true ↔ ∃ a n sp, r.request = .fetch a n i sp := by
  unfold LaneRequest.isFetchOf
  cases r.request <;> simp [Request.isFetchOf]

theorem PortState.withdrawFetch_found {y : PortState} {i : RouterTag} {r : LaneRequest} {front back : List LaneRequest}
    (ahead : ∀ r ∈ front, r.isFetchOf i = false) (here : r.isFetchOf i = true) (lane : y.requestLane = front ++ r :: back) :
    y.withdrawFetch i
      = { y with requestLane := front ++ back, counters := { y.counters with dropped := y.counters.dropped + 1 } } := by
  have found : y.requestLane.any (LaneRequest.isFetchOf i) = true :=
    List.any_eq_true.mpr ⟨r, by rw [lane]; exact List.mem_append_right _ List.mem_cons_self, here⟩
  have out : y.requestLane.eraseP (LaneRequest.isFetchOf i) = front ++ back := by
    rw [lane, List.eraseP_append_right _ fun r hr => Bool.eq_false_iff.mp (ahead r hr), List.eraseP_cons_of_pos here]
  rw [PortState.withdrawFetch_eq, found, out]
  rfl

/-! ## An answer of an OPEN exchange that it cannot take (R81, R82) -/

theorem State.matchOpen_overrun {s : State} {p : Port} {a : Answer} {i : RouterTag} {x : Exchange} (good : a.status = .good)
    (more : x.len < x.answered + a.payload.length) (issue : Issue) (d : Nat) :
    s.matchOpen p a i x issue d
      = ((s.detect (.link p) .overrun (s.answerSubject a)).dropAnswer p).endEntry i .overrun true := if_pos ⟨good, more⟩

theorem State.matchOpen_oversize {s : State} {p o : Port} {tag : Byte} {a : Answer} {i : RouterTag} {x : Exchange} {most : Nat}
    (good : a.status = .good) (fits : x.answered + a.payload.length ≤ x.len) (origin : x.origin = .link o tag)
    (up : (s.port o).link = .up most) (big : most < a.payload.length) (issue : Issue) (d : Nat) :
    s.matchOpen p a i x issue d
      = ((s.detect (.link p) .oversize (s.answerSubject a)).dropAnswer p).endEntry i .oversize true := by
  have bigger : (s.port o).link.effectiveMax.any (· < a.payload.length) = true := by
    rw [up]
    exact decide_eq_true big
  unfold State.matchOpen
  dsimp only
  rw [if_neg fun k => Nat.not_lt.mpr fits k.2, origin]
  exact if_pos ⟨good, bigger⟩

/-- Settles O18: who is told, what is withdrawn, and the two ends an answer itself brings. -/
theorem unansweredEnds : Obligations.UnansweredEnds := by
  refine ⟨fun s cause => ⟨fun p tag up free => State.tellEnd_room ((PortState.routerMadeRoom_iff _).mpr ⟨up, free⟩) cause tag,
    fun p tag full => State.tellEnd_noRoom ((PortState.routerMadeRoom_eq_false_iff _).mpr full) cause tag, fun i n d h => ?_⟩,
    fun s i x front back a n sp o ahead lane => ⟨?_, rfl⟩, fun p a i x issue d s hx named dest good => ?_⟩
  · unfold State.tellEnd
    rw [h]
    rfl
  · refine State.modPort_congr x.dest s (PortState.withdrawFetch_found (fun r hr => ?_) ?_ lane)
    · refine Bool.eq_false_iff.mpr fun k => ?_
      obtain ⟨b, m, f, e⟩ := (LaneRequest.isFetchOf_iff i r).mp k
      exact ahead r hr b m f e
    · exact (LaneRequest.isFetchOf_iff i _).mpr ⟨a, n, sp, rfl⟩
  · subst dest
    have subject : s.answerSubject a = .answer a.tag a.payload.length x.origin.tag? a.spoiled := by
      rw [State.answerSubject_of_val named, hx]
      rfl
    refine ⟨fun more => ?_, fun o tag most fits origin up big => ?_⟩
    · rw [State.matchAnswer_opened named hx, State.matchOpen_overrun good more, subject]
    · rw [State.matchAnswer_opened named hx, State.matchOpen_oversize good fits origin up big, subject]

end Sys2Proof.Machine
end

section
/-! The proofs about the notification unit: the unsolicited messages that enter the outgoing queue, and the commands that write one
stream (R97, R156 to R164, R190). -/

namespace Sys2Proof.Machine

/-! ## What a stream shows (R156, R160, R164) -/

theorem NotificationUnit.isPending_iff (n : NotificationUnit) (k : Nat) :
    n.isPending k = true ↔ ∃ c ∈ streamCategories n.streams.length k, n.marks.get c = true := by
  unfold NotificationUnit.isPending NotificationUnit.marked
  rw [Bool.not_eq_true', Bool.eq_false_iff, ne_eq, List.isEmpty_iff, List.filter_eq_nil_iff]
  simp

theorem NotificationUnit.ready_iff (n : NotificationUnit) (k : Nat) :
    n.ready k = true ↔ ∃ x, n.streams[k]? = some x ∧ x.masked = false ∧ x.awaiting = false ∧ n.isPending k = true := by
  unfold NotificationUnit.ready
  cases n.streams[k]? with
  | none => exact ⟨fun h => (Bool.false_ne_true h).elim, fun ⟨_, h, _⟩ => (Option.some_ne_none _ h.symm).elim⟩
  | some x => simp [and_assoc]

theorem NotificationUnit.modStream_eq {n : NotificationUnit} {k : Nat} {x : Stream} (h : n.streams[k]? = some x)
    (f : Stream → Stream) : n.modStream k f = { n with streams := n.streams.set k (f x) } := by
  unfold NotificationUnit.modStream
  rw [List.modify_eq_set_getElem?, h]
  rfl

/-- The marks of the listed categories are clear, the others as they were. -/
theorem clearMarks_get (cats : List Category) (c : Category) (marks : PerCategory Bool) :
    (clearMarks marks cats).get c = (marks.get c && !cats.contains c) := by
  induction cats generalizing marks with
  | nil => exact (Bool.and_true _).symm
  | cons k cats ih =>
    have tail : clearMarks marks (k :: cats) = clearMarks (marks.set k false) cats := rfl
    rw [tail, ih, PerCategory.get_set, List.contains_cons]
    by_cases h : c = k
    · simp [h]
    · simp [h, beq_eq_false_iff_ne.mpr h]

/-- Under a granted count the streams are those below it. -/
theorem streamCategories_none {granted k : Nat} (h : granted ∈ [0, 1, 2, 4]) (hk : granted ≤ k) : streamCategories granted k = [] := by
  unfold streamCategories
  split
  case h_8 => rfl
  all_goals omega

/-! ## Unsolicited messages (R97, R160, R190) -/

theorem State.sendNotify_enters {s : State} {k : Fin 4} (ready : s.notification.ready k.val = true)
    (may : s.management.mayEnter (.notify k) = true) :
    s.sendNotify k
      = { s with
          notification := s.notification.sent k.val
          management :=
            { s.management.enter (.notify k)
                ⟨0xFA, s.management.unsolicited, .notify s.notification.streams.length k (s.notification.marked k.val)⟩ with
              unsolicited := s.management.unsolicited + 1 } } := by
  unfold State.sendNotify
  dsimp only
  rw [ready, may]
  rfl

theorem State.sendNotify_not {s : State} {k : Fin 4}
    (h : ¬(s.notification.ready k.val = true ∧ s.management.mayEnter (.notify k) = true)) : s.sendNotify k = s := by
  unfold State.sendNotify
  dsimp only
  rw [if_neg]
  rwa [Bool.and_eq_true]

theorem State.sendFetchDone_enters {s : State} {i : RouterTag} {n : Nat} {d : List Byte} {st : AnsStatus}
    (h : s.hostFetch = .holding i n d st) (may : s.management.mayEnter .fetchDone = true) :
    s.sendFetchDone = { s.sendUnsolicited .fetchDone 0xFB (.fetchDone i st d) with hostFetch := .empty } := by
  unfold State.sendFetchDone
  rw [h]
  exact if_pos may

/-- Settles O22: NOTIFY and FETCH DONE enter at the tail; what a stream carries and shows. -/
theorem unsolicitedMessagesEnter : Obligations.UnsolicitedMessagesEnter := by
  refine ⟨fun k x s hx unmasked heard pending may => ?_, fun s i n d st h may =>
    happens_of_event' (f := State.sendFetchDone) rfl ⟨s.management.without .fetchDone, State.sendFetchDone_enters h may⟩,
    ⟨rfl, rfl, rfl, rfl, rfl, rfl, rfl, fun granted k => streamCategories_none⟩,
    fun n k => ⟨rfl, n.isPending_iff k, n.ready_iff k, rfl, rfl, List.length_mapIdx, fun x hx => ?_⟩⟩
  · have marked : s.notification.isPending k.val = true := by
      unfold NotificationUnit.isPending
      rw [Bool.not_eq_true', Bool.eq_false_iff, ne_eq, List.isEmpty_iff]
      exact pending
    have ready : s.notification.ready k.val = true := (NotificationUnit.ready_iff _ _).mpr ⟨x, hx, unmasked, heard, marked⟩
    refine ⟨clearMarks s.notification.marks (s.notification.marked k.val), fun c => clearMarks_get _ c _,
      happens_of_event' (f := State.sendNotify k) rfl ⟨s.management.without (.notify k), ?_⟩⟩
    rw [State.sendNotify_enters ready may]
    unfold NotificationUnit.sent
    rw [NotificationUnit.modStream_eq hx]
    rfl
  · exact (List.getElem?_mapIdx ..).trans (congrArg (Option.map _) hx)

/-! ## A place once a NOTIFY has entered (R189) -/

theorem filter_groups_twice (p q : Waiter → Bool) (groups : List (List Waiter)) :
    (((groups.map (List.filter p)).filter (· ≠ [])).map (List.filter q)).filter (· ≠ [])
      = (groups.map (List.filter fun w => q w && p w)).filter (· ≠ []) := by
  induction groups with
  | nil => rfl
  | cons g groups ih =>
    have both : (g.filter fun w => q w && p w) = (g.filter p).filter q := List.filter_filter.symm
    by_cases none : g.filter p = []
    · simp only [List.map_cons, both, none, List.filter_nil, ne_eq, not_true_eq_false, decide_false, Bool.false_eq_true,
        not_false_eq_true, List.filter_cons_of_neg]
      exact ih
    · by_cases gone : (g.filter p).filter q = []
      · rw [List.map_cons, List.map_cons, List.filter_cons_of_pos (by simpa using none), List.map_cons,
          List.filter_cons_of_neg (by simpa using gone), List.filter_cons_of_neg (by rw [both]; simpa using gone), ih]
      · rw [List.map_cons, List.map_cons, List.filter_cons_of_pos (by simpa using none), List.map_cons,
          List.filter_cons_of_pos (by simpa using gone), List.filter_cons_of_pos (by rw [both]; simpa using gone), ih, both]

/-- A message that was next is still so once another has entered. -/
theorem ManagementLink.isNext_enter {m : ManagementLink} {v w : Waiter} (other : w ≠ v) (x : OutMessage) (h : m.isNext w = true) :
    (m.enter v x).isNext w = true := by
  have left : (m.enter v x).without .restarted
      = ((m.without .restarted).map fun g => g.filter (· ≠ v)).filter (· ≠ []) := by
    rw [ManagementLink.without_eq, ManagementLink.without_eq, filter_groups_twice]
    have entered : (m.enter v x).waiting = m.without v := rfl
    rw [entered, ManagementLink.without_eq, filter_groups_twice]
    simp only [Bool.and_comm]
  unfold ManagementLink.isNext at h ⊢
  rw [left]
  cases groups : m.without .restarted with
  | nil => rfl
  | cons g later =>
    rw [groups] at h
    have stays : w ∈ g.filter (· ≠ v) := List.mem_filter.mpr ⟨List.contains_iff_mem.mp h, decide_eq_true other⟩
    rw [List.map_cons, List.filter_cons_of_pos (by simpa using List.ne_nil_of_mem stays)]
    exact List.contains_iff_mem.mpr stays

/-- A response still has its place once a NOTIFY has entered, unless that took the last one. -/
theorem ManagementLink.mayEnter_response_enter {m : ManagementLink} {k : Fin 4} (place : m.mayEnter .response = true)
    (may : m.mayEnter (.notify k) = true) (x : OutMessage) :
    (m.enter (.notify k) x).mayEnter .response = true ↔ m.outgoing.length + 2 < 8 := by
  obtain ⟨_, next⟩ := (ManagementLink.mayEnter_iff (w := .response) (fun e => by cases e)).mp place
  obtain ⟨_, first⟩ := (ManagementLink.mayEnter_iff (w := .notify k) (fun e => by cases e)).mp may
  have calm : m.restartedWaits = false := by
    rw [Bool.eq_false_iff]
    intro w
    rw [if_pos w] at first
    cases first.1
  have calmAfter : (m.enter (.notify k) x).restartedWaits = false := by
    rw [Bool.eq_false_iff, ne_eq, ManagementLink.restartedWaits_iff]
    intro w
    refine Bool.eq_false_iff.mp calm ((ManagementLink.restartedWaits_iff m).mpr ?_)
    obtain ⟨g, hg, hw⟩ := List.mem_flatten.mp w
    have kept : g ∈ (m.waiting.map fun g => g.filter (· ≠ .notify k)).filter (· ≠ []) :=
      ManagementLink.without_eq (.notify k) m ▸ hg
    obtain ⟨g', hg', rfl⟩ := List.mem_map.mp (List.mem_filter.mp kept).1
    exact List.mem_flatten.mpr ⟨g', hg', (List.mem_filter.mp hw).1⟩
  rw [calm, if_neg Bool.false_ne_true] at next
  have nextAfter := ManagementLink.isNext_enter (v := .notify k) (fun e => by cases e) x next
  have longer : (m.enter (.notify k) x).outgoing.length = m.outgoing.length + 1 := List.length_append
  rw [ManagementLink.mayEnter_iff (fun e => by cases e), calmAfter, if_neg Bool.false_ne_true, and_iff_left nextAfter, longer]
  omega

/-! ## Commands that write one stream (R162, R163) -/

theorem exec_ackNotify (m : HostMsg) (first : Bool) (s : State) :
    exec (.ackNotify m first) s
      = event (State.take ⟨0x61, m⟩ false (State.runReleasing ⟨0x61, m⟩ actAckNotify first)) s := rfl

theorem exec_maskStream (m : HostMsg) (s : State) :
    exec (.maskStream m) s = event (State.take ⟨0x62, m⟩ false (State.runAct ⟨0x62, m⟩ actMaskStream)) s := rfl

theorem exec_unmaskStream (m : HostMsg) (first : Bool) (s : State) :
    exec (.unmaskStream m first) s
      = event (State.take ⟨0x63, m⟩ false (State.runReleasing ⟨0x63, m⟩ actUnmaskStream first)) s := rfl

theorem withStream_named {k : Byte} {x : Stream} {s : State} (h : k.toNat < 4) (hx : s.notification.streams[k.toNat]? = some x)
    (f : Nat → Stream → Reply) : withStream [k] s f = some (f k.toNat x) := by
  unfold withStream
  dsimp only
  rw [if_neg (Nat.not_lt.mpr (Nat.le_of_lt_succ h)), hx]

theorem withStream_badValue {k : Byte} (h : 3 < k.toNat) (s : State) (f : Nat → Stream → Reply) :
    withStream [k] s f = some (refuse .badValue s) := by
  unfold withStream
  dsimp only
  rw [if_pos h]

theorem withStream_noSuch {k : Byte} {s : State} (h : k.toNat ≤ 3) (none : s.notification.streams.length ≤ k.toNat)
    (f : Nat → Stream → Reply) : withStream [k] s f = some (refuse .noSuch s) := by
  unfold withStream
  dsimp only
  rw [if_neg (Nat.not_lt.mpr h), List.getElem?_eq_none none]

theorem State.notifyBefore_named {k : Byte} (h : k.toNat < 4) (chosen : Bool) (s : State) :
    s.notifyBefore chosen [k] = if chosen then s.sendNotify ⟨k.toNat, h⟩ else s := by
  unfold State.notifyBefore namedStream
  dsimp only
  rw [dif_pos h]

section Releasing

variable {i : Instr} {s : State} {c : Message} {act : Act} {first : Bool}

/-- A command that may release a NOTIFY, refused. -/
theorem TakenOutsideStart.releasing_refused {params : List Byte} {st : Status} (h : TakenOutsideStart s c)
    (he : exec i s = event (State.take c false (State.runReleasing c act first)) s) (hparams : c.msg.params = params)
    (hact : act params s.taken = some (refuse st s.taken)) (hst : st ≠ .done) : Answers i s c st .empty s := by
  refine h.responds he ?_
  unfold State.runReleasing
  rw [hparams, hact]
  exact if_neg hst

variable {k : Byte} {n : NotificationUnit} (named : k.toNat < 4) (h : TakenOutsideStart s c)
  (he : exec i s = event (State.take c false (State.runReleasing c act first)) s) (hparams : c.msg.params = [k])
  (hact : act [k] s.taken = some (doneStreams n s.taken))

include hparams hact in
theorem State.runReleasing_done :
    State.runReleasing c act first s.taken
      = State.offerResponse c (c.response .done (.streams n.report))
          (if first then (s.taken.setNotification n).sendNotify ⟨k.toNat, named⟩ else s.taken.setNotification n) := by
  unfold State.runReleasing
  rw [hparams, hact]
  exact congrArg (State.offerResponse c _) (State.notifyBefore_named named first _)

include h he hparams hact in
/-- No NOTIFY enters before the response. -/
theorem TakenOutsideStart.releases_nothing
    (quiet : first = false ∨ ¬(n.ready k.toNat = true ∧ s.management.mayEnter (.notify ⟨k.toNat, named⟩) = true)) :
    Answers i s c .done (.streams n.report) { s with notification := n } := by
  refine effect_of_run he h.toTaken (.inr h.running) ⟨s.taken.management.without .response, ?_⟩
  have still : (if first then (s.taken.setNotification n).sendNotify ⟨k.toNat, named⟩ else s.taken.setNotification n)
      = s.taken.setNotification n := by
    rcases quiet with rfl | quiet
    · rfl
    · split
      · exact State.sendNotify_not fun ⟨ready, may⟩ => quiet ⟨ready, (ManagementLink.mayEnter_congr rfl rfl rfl _).trans may⟩
      · rfl
  rw [State.runReleasing_done named hparams hact, still, State.offerResponse_enters (s := s.taken.setNotification n) c _ h.mayEnter]
  rfl

/-- The state once the NOTIFY a taken command released has entered. -/
def State.notified (s : State) (n : NotificationUnit) (k : Fin 4) : State :=
  { s with
    notification := n.sent k.val
    management :=
      { s.management.enter (.notify k) ⟨0xFA, s.management.unsolicited, .notify n.streams.length k (n.marked k.val)⟩ with
        unsolicited := s.management.unsolicited + 1 } }

theorem State.sendNotify_released {k : Fin 4} (ready : n.ready k.val = true) (may : s.management.mayEnter (.notify k) = true) :
    (s.taken.setNotification n).sendNotify k = s.taken.notified n k :=
  State.sendNotify_enters (s := s.taken.setNotification n) ready ((ManagementLink.mayEnter_congr rfl rfl rfl _).trans may)

include h in
theorem TakenOutsideStart.notified_mayEnter {k : Fin 4} (may : s.management.mayEnter (.notify k) = true) :
    (s.taken.notified n k).management.mayEnter .response = true ↔ s.management.outgoing.length + 2 < 8 := by
  have notice : s.taken.management.mayEnter (.notify k) = true := (ManagementLink.mayEnter_congr rfl rfl rfl _).trans may
  have place := ManagementLink.mayEnter_response_enter h.mayEnter notice
    ⟨0xFA, s.management.unsolicited, .notify n.streams.length k (n.marked k.val)⟩
  exact Iff.trans (Eq.congr_left (ManagementLink.mayEnter_congr rfl rfl rfl _)) place

variable (chosen : first = true) (ready : n.ready k.toNat = true) (may : s.management.mayEnter (.notify ⟨k.toNat, named⟩) = true)

include hparams hact chosen ready may in
theorem State.runReleasing_notified :
    State.runReleasing c act first s.taken
      = (s.taken.notified n ⟨k.toNat, named⟩).offerResponse c (c.response .done (.streams n.report)) := by
  rw [State.runReleasing_done named hparams hact, if_pos chosen, State.sendNotify_released ready may]

include h he hparams hact chosen ready may in
/-- The NOTIFY enters first, and the response after it. -/
theorem TakenOutsideStart.releases_notified (room : s.management.outgoing.length + 2 < 8) :
    Effect i s
      { s with
        notification := n.sent k.toNat
        management :=
          { s.management with
            receiveQueue := s.management.receiveQueue.tail
            outgoing := s.management.outgoing
              ++ [⟨0xFA, s.management.unsolicited, .notify n.streams.length ⟨k.toNat, named⟩ (n.marked k.toNat)⟩]
              ++ [c.response .done (.streams n.report)]
            unsolicited := s.management.unsolicited + 1
            last := some ⟨c.msg.seq, c.msg.check, c.response .done (.streams n.report)⟩ } } := by
  refine effect_of_run he h.toTaken (.inr h.running)
    ⟨(s.taken.notified n ⟨k.toNat, named⟩).management.without .response, ?_⟩
  rw [State.runReleasing_notified named hparams hact chosen ready may,
    State.offerResponse_enters c _ ((h.notified_mayEnter may).mpr room)]
  simp only [h.idle]
  rfl

include h he hparams hact chosen ready may in
/-- The NOTIFY takes the last place, and the response waits. -/
theorem TakenOutsideStart.releases_crowded (last : s.management.outgoing.length = 6) :
    Effect i s
      { s with
        notification := n.sent k.toNat
        management :=
          { s.management with
            receiveQueue := s.management.receiveQueue.tail
            outgoing := s.management.outgoing
              ++ [⟨0xFA, s.management.unsolicited, .notify n.streams.length ⟨k.toNat, named⟩ (n.marked k.toNat)⟩]
            unsolicited := s.management.unsolicited + 1
            running := some ⟨c, .answered (c.response .done (.streams n.report))⟩ } } := by
  refine effect_of_run he h.toTaken (.inr h.running) ⟨s.management.without (.notify ⟨k.toNat, named⟩), ?_⟩
  have full : (s.taken.notified n ⟨k.toNat, named⟩).management.mayEnter .response = false :=
    Bool.eq_false_iff.mpr fun k => by
      have room := (h.notified_mayEnter may).mp k
      omega
  rw [State.runReleasing_notified named hparams hact chosen ready may, State.offerResponse_waits c _ full]
  rfl

end Releasing

theorem actAckNotify_awaiting {k : Byte} {x : Stream} {s : State} (h : k.toNat < 4) (hx : s.notification.streams[k.toNat]? = some x)
    (awaiting : x.awaiting = true) :
    actAckNotify [k] s
      = some (doneStreams
          { s.notification with streams := s.notification.streams.set k.toNat { x with awaiting := false } } s) := by
  unfold actAckNotify
  rw [withStream_named h hx, if_pos awaiting, NotificationUnit.modStream_eq hx]

theorem actAckNotify_heard {k : Byte} {x : Stream} {s : State} (h : k.toNat < 4) (hx : s.notification.streams[k.toNat]? = some x)
    (heard : x.awaiting = false) : actAckNotify [k] s = some (refuse .wrongState s) := by
  unfold actAckNotify
  rw [withStream_named h hx, if_neg (Bool.eq_false_iff.mp heard)]

theorem actMaskStream_named {k : Byte} {x : Stream} {s : State} (h : k.toNat < 4) (hx : s.notification.streams[k.toNat]? = some x) :
    actMaskStream [k] s
      = some (doneStreams
          { s.notification with streams := s.notification.streams.set k.toNat { x with masked := true } } s) := by
  unfold actMaskStream
  rw [withStream_named h hx, NotificationUnit.modStream_eq hx]

theorem actUnmaskStream_named {k : Byte} {x : Stream} {s : State} (h : k.toNat < 4)
    (hx : s.notification.streams[k.toNat]? = some x) :
    actUnmaskStream [k] s
      = some (doneStreams
          { s.notification with streams := s.notification.streams.set k.toNat { x with masked := false } } s) := by
  unfold actUnmaskStream
  rw [withStream_named h hx, NotificationUnit.modStream_eq hx]

/-- Settles O44: the stream is named and written, and the NOTIFY a write released enters before the response or by its own row. -/
theorem streamCommandsWriteOneStream : Obligations.StreamCommandsWriteOneStream := by
  intro m k s hp
  refine ⟨fun x lt hx => ⟨fun h first => ⟨fun heard => ?_, fun awaiting => ?_⟩, fun h => ?_, fun h first => ?_⟩,
    fun high => ⟨fun h first => ?_, fun h => ?_, fun h first => ?_⟩, fun low none => ⟨fun h first => ?_, fun h => ?_, fun h first => ?_⟩⟩
  · exact h.releasing_refused (exec_ackNotify m first s) hp (actAckNotify_heard lt hx heard) (by decide)
  · have he := exec_ackNotify m first s
    have act := actAckNotify_awaiting (s := s.taken) lt hx awaiting
    exact ⟨h.releases_nothing lt he hp act, fun chosen ⟨ready, may⟩ =>
      ⟨h.releases_notified lt he hp act chosen ready may, h.releases_crowded lt he hp act chosen ready may⟩⟩
  · exact h.answers (c := ⟨0x62, m⟩) (exec_maskStream m s) hp (actMaskStream_named (s := s.taken) lt hx)
  · have he := exec_unmaskStream m first s
    have act := actUnmaskStream_named (s := s.taken) lt hx
    exact ⟨h.releases_nothing lt he hp act, fun chosen ⟨ready, may⟩ =>
      ⟨h.releases_notified lt he hp act chosen ready may, h.releases_crowded lt he hp act chosen ready may⟩⟩
  · exact h.releasing_refused (exec_ackNotify m first s) hp (withStream_badValue high _ _) (by decide)
  · exact h.refused (c := ⟨0x62, m⟩) (exec_maskStream m s) hp (withStream_badValue high _ _)
  · exact h.releasing_refused (exec_unmaskStream m first s) hp (withStream_badValue high _ _) (by decide)
  · exact h.releasing_refused (exec_ackNotify m first s) hp (withStream_noSuch (s := s.taken) low none _) (by decide)
  · exact h.refused (c := ⟨0x62, m⟩) (exec_maskStream m s) hp (withStream_noSuch (s := s.taken) low none _)
  · exact h.releasing_refused (exec_unmaskStream m first s) hp (withStream_noSuch (s := s.taken) low none _) (by decide)

end Sys2Proof.Machine
end

section
/-! The proofs about frames that arrive and are discarded: beyond credit, malformed, damaged, or on a link that is not UP (R14, R15,
R100 to R102, R129, R198, R201). -/

namespace Sys2Proof.Machine

/-! ## A frame's field checks (R15, R198) -/

theorem parseFrame_noKind {kind : Byte} (h : kind = 0 ∨ 4 < kind.toNat) (c : FrameClass) (most : Nat) (f p1 p0 : Byte)
    (rest : List Byte) : parseFrame c most (kind :: f :: p1 :: p0 :: rest) = none := by
  have out : kind.toNat = 0 ∨ 4 < kind.toNat := h.imp_left fun k => by rw [k]; rfl
  unfold parseFrame
  dsimp only
  split
  case h_5 => rfl
  all_goals omega

theorem parseFrame_answerKind {kind : Byte} (h : kind ∈ [0x01, 0x02, 0x04]) (most : Nat) (f p1 p0 : Byte) (rest : List Byte) :
    parseFrame .answer most (kind :: f :: p1 :: p0 :: rest) = none := by
  simp only [List.mem_cons, List.not_mem_nil, or_false] at h
  rcases h with rfl | rfl | rfl <;> rfl

theorem parseFrame_store (most : Nat) (f p1 p0 a3 a2 a1 a0 : Byte) (tail : List Byte) :
    parseFrame .request most (0x01 :: f :: p1 :: p0 :: a3 :: a2 :: a1 :: a0 :: tail)
      = if tail.length = (word16 p1 p0).toNat + 4 ∧ 1 ≤ (word16 p1 p0).toNat ∧ (word16 p1 p0).toNat ≤ most
            ∧ (word16 p1 p0).toNat ≤ 1024 then
          some (.request (.store (word32 a3 a2 a1 a0) (tail.take (word16 p1 p0).toNat) (f.getLsbD 0)))
        else none := rfl

theorem parseFrame_fetch (most : Nat) (f p1 p0 a3 a2 a1 a0 n1 n0 tag : Byte) (tail : List Byte) :
    parseFrame .request most (0x02 :: f :: p1 :: p0 :: a3 :: a2 :: a1 :: a0 :: n1 :: n0 :: tag :: tail)
      = if tail.length = (word16 p1 p0).toNat + 4 ∧ (word16 p1 p0).toNat = 0 ∧ 1 ≤ (word16 n1 n0).toNat
            ∧ (word16 n1 n0).toNat ≤ 4096 then
          some (.request (.fetch (word32 a3 a2 a1 a0) (word16 n1 n0).toNat tag (f.getLsbD 0)))
        else none := rfl

theorem parseFrame_notice (most : Nat) (f p1 p0 target source c1 c0 : Byte) (tail : List Byte) :
    parseFrame .request most (0x04 :: f :: p1 :: p0 :: target :: source :: c1 :: c0 :: tail)
      = if tail.length = (word16 p1 p0).toNat + 4 ∧ target ≠ 0 ∧ (word16 p1 p0).toNat ≤ 32 then
          some (.request (.notice target source (word16 c1 c0) (tail.take (word16 p1 p0).toNat) (f.getLsbD 0)))
        else none := rfl

theorem parseFrame_answer (most : Nat) (f p1 p0 tag code : Byte) (tail : List Byte) :
    parseFrame .answer most (0x03 :: f :: p1 :: p0 :: tag :: code :: tail)
      = match AnsStatus.ofCode code with
        | some st =>
          if tail.length = (word16 p1 p0).toNat + 4 ∧ answerFieldsOk st (f.getLsbD 1) (word16 p1 p0).toNat most = true then
            some (.answer ⟨tag, st, f.getLsbD 1, tail.take (word16 p1 p0).toNat, f.getLsbD 0⟩)
          else none
        | none => none := rfl

theorem AnsStatus.ofCode_none_iff (code : Byte) : AnsStatus.ofCode code = none ↔ code.toNat < 0x10 ∨ 0x1D < code.toNat := by
  unfold AnsStatus.ofCode
  split
  case h_15 =>
    refine iff_of_true rfl ?_
    simp only [imp_false] at *
    omega
  all_goals exact iff_of_false (fun h => by cases h) (by omega)

theorem AnsStatus.ofCode_good_iff (code : Byte) : AnsStatus.ofCode code = some .good ↔ code = 0x10 := by
  have byte : code = 0x10 ↔ code.toNat = 0x10 := BitVec.toNat_inj.symm
  rw [byte]
  unfold AnsStatus.ofCode
  split
  case h_1 h => exact iff_of_true rfl h
  case h_15 _ h _ _ _ _ _ _ _ _ _ _ _ _ _ => exact iff_of_false (fun k => by cases k) h
  all_goals exact iff_of_false (fun k => by cases k) (by omega)

theorem answerFieldsOk_good_iff (final : Bool) (p most : Nat) :
    answerFieldsOk .good final p most = true ↔ (final = true ∨ 1 ≤ p) ∧ p ≤ most ∧ p ≤ 1024 := by
  have max : Config.payloadMax = 1024 := rfl
  simp [answerFieldsOk, max, and_assoc]

theorem answerFieldsOk_other_iff {st : AnsStatus} (h : st ≠ .good) (final : Bool) (p most : Nat) :
    answerFieldsOk st final p most = true ↔ final = true ∧ p = 0 := by
  simp [answerFieldsOk, h]

theorem parseFrame_answer_none_iff (most : Nat) (f p1 p0 tag code : Byte) (tail : List Byte) :
    parseFrame .answer most (0x03 :: f :: p1 :: p0 :: tag :: code :: tail) = none
      ↔ tail.length ≠ (word16 p1 p0).toNat + 4 ∨ code.toNat < 0x10 ∨ 0x1D < code.toNat
        ∨ (code = 0x10 ∧ ((f.getLsbD 1 = false ∧ (word16 p1 p0).toNat = 0) ∨ most < (word16 p1 p0).toNat
            ∨ 1024 < (word16 p1 p0).toNat))
        ∨ (code ≠ 0x10 ∧ (f.getLsbD 1 = false ∨ (word16 p1 p0).toNat ≠ 0)) := by
  rw [parseFrame_answer, ne_eq code, ← AnsStatus.ofCode_good_iff]
  have named := AnsStatus.ofCode_none_iff code
  generalize (word16 p1 p0).toNat = p
  generalize f.getLsbD 1 = final
  cases hc : AnsStatus.ofCode code with
  | none =>
    rw [hc] at named
    exact iff_of_true rfl (.inr ((or_assoc.symm.trans (or_iff_left_of_imp fun _ => named.mp rfl)).mpr (named.mp rfl)))
  | some st =>
    have known : ¬(code.toNat < 0x10 ∨ 0x1D < code.toNat) := fun k => by
      rw [hc] at named
      cases named.mpr k
    by_cases good : st = .good
    · subst good
      simp only [ite_eq_right_iff, reduceCtorEq, imp_false, answerFieldsOk_good_iff]
      cases final <;> simp <;> omega
    · have other : (some st = some AnsStatus.good) = False := eq_false fun k => good (Option.some.inj k)
      simp only [ite_eq_right_iff, reduceCtorEq, imp_false, answerFieldsOk_other_iff good, other]
      cases final
      · simp
      · simp
        omega

theorem frameCheckOk_covers {bytes : List Byte} (h : frameCheckOk bytes = true) :
    4 ≤ coveredBytes bytes ∧ coveredBytes bytes + 4 ≤ bytes.length := by
  unfold frameCheckOk at h
  simp only [Bool.and_eq_true, decide_eq_true_eq] at h
  exact h.1

/-- An intact frame of a known kind holds its kind fields, its payload and its check. -/
theorem frameCheckOk_length {kind : Byte} {k : Nat} (known : kindFieldBytes kind = some k) {f p1 p0 : Byte} {rest : List Byte}
    (h : frameCheckOk (kind :: f :: p1 :: p0 :: rest) = true) : (word16 p1 p0).toNat + (k + 4) ≤ rest.length := by
  have covered : coveredBytes (kind :: f :: p1 :: p0 :: rest) = 4 + k + (word16 p1 p0).toNat := by
    simp only [coveredBytes, known]
  obtain ⟨_, within⟩ := frameCheckOk_covers h
  rw [covered] at within
  simp only [List.length_cons] at within
  omega

theorem frameCheckOk_short {bytes : List Byte} (h : bytes.length < 8) : frameCheckOk bytes = false :=
  Bool.eq_false_iff.mpr fun ok => by
    obtain ⟨least, within⟩ := frameCheckOk_covers ok
    omega

/-! ## A frame discarded (R14, R15, R101, R129) -/

theorem State.malformed_eq (p : Port) (s : State) :
    s.malformed p
      = (s.latch (.origin (.link p)) .malformed).modPort p fun x =>
        { x with counters := { x.counters with received := x.counters.received + 1, dropped := x.counters.dropped + 1 } } := rfl

theorem State.frameArrives_up {s : State} {p : Port} {c : FrameClass} {most : Nat} (up : (s.port p).link = .up most) (bytes : List Byte) :
    s.frameArrives p c bytes
      = if (s.port p).granted.get c = 0 then s.malformed p else s.frameInCredit p c bytes most := by
  unfold State.frameArrives
  rw [up]
  rfl

theorem State.frameArrives_notUp {s : State} {p : Port} (h : s.isUp p = false) (c : FrameClass) (bytes : List Byte) :
    s.frameArrives p c bytes
      = if frameCheckOk bytes = true then
          s.modPort p fun x =>
            { x with counters := { x.counters with received := x.counters.received + 1, dropped := x.counters.dropped + 1 } }
        else s.damaged p := by
  have max : (s.port p).link.effectiveMax = none := by
    have notUp : (s.port p).link.isUp = false := h
    generalize (s.port p).link = l at notUp ⊢
    cases l with
    | up m => cases notUp
    | _ => rfl
  unfold State.frameArrives
  rw [max]
  rfl

theorem State.damaged_notUp {s : State} {p : Port} (h : s.isUp p = false) :
    s.damaged p
      = s.modPort p fun x => { x with counters := { x.counters with damaged := x.counters.damaged + 1 } } := by
  have still : (s.modPort p (PortState.count Counters.addDamaged)).isUp p = false :=
    (congrArg (fun x : PortState => x.link.isUp) (State.port_modPort_same _ _ _)).trans h
  unfold State.damaged
  dsimp only
  rw [still]
  rfl

theorem State.damaged_up {s : State} {p : Port} (h : s.isUp p = true) :
    s.damaged p
      = if 7 ≤ (s.port p).window.length then
          (s.modPort p (PortState.count Counters.addDamaged)).leaveUp p (.down (some 1)) .budget
        else (s.modPort p (PortState.count Counters.addDamaged)).modPort p fun x => { x with window := x.window ++ [10] } := by
  have port := State.port_modPort_same p (PortState.count Counters.addDamaged) s
  have still : (s.modPort p (PortState.count Counters.addDamaged)).isUp p = true :=
    (congrArg (fun x : PortState => x.link.isUp) port).trans h
  unfold State.damaged
  dsimp only
  rw [still, port]
  rfl

/-- A frame within credit costs one of the class, and one is owed back when it is discarded. -/
def PortState.useAndOwe (c : FrameClass) (x : PortState) : PortState :=
  { x with granted := x.granted.set c (x.granted.get c - 1), owed := x.owed.set c (x.owed.get c + 1) }

theorem PortState.oweCredit_useGranted {x : PortState} (up : x.link.isUp = true) (c : FrameClass) :
    (x.useGranted c).oweCredit c = x.useAndOwe c := if_pos up

theorem State.isUp_of_link {s : State} {p : Port} {most : Nat} (up : (s.port p).link = .up most) : s.isUp p = true := by
  unfold State.isUp
  rw [up]
  rfl

theorem State.frameInCredit_malformed {s : State} {p : Port} (up : s.isUp p = true) {c : FrameClass} {bytes : List Byte} {most : Nat}
    (intact : frameCheckOk bytes = true) (bad : parseFrame c most bytes = none) :
    s.frameInCredit p c bytes most
      = (s.latch (.origin (.link p)) .malformed).modPort p fun x =>
        { x with
          granted := x.granted.set c (x.granted.get c - 1)
          owed := x.owed.set c (x.owed.get c + 1)
          counters := { x.counters with received := x.counters.received + 1, dropped := x.counters.dropped + 1 } } := by
  unfold State.frameInCredit
  dsimp only
  rw [intact, bad, State.malformed_eq, State.latch_modPort]
  rw [Bool.not_true, if_neg Bool.false_ne_true, State.modPort_modPort_same, State.modPort_modPort_same]
  refine State.modPort_congr p _ ?_
  rw [State.latch_port]
  exact if_pos up

theorem State.frameInCredit_damaged {s : State} {p : Port} (up : s.isUp p = true) {c : FrameClass} {bytes : List Byte}
    (bad : frameCheckOk bytes = false) (most : Nat) :
    s.frameInCredit p c bytes most = (s.modPort p (PortState.useAndOwe c)).damaged p := by
  unfold State.frameInCredit
  dsimp only
  rw [bad, State.modPort_modPort_same, State.modPort_congr p s (PortState.oweCredit_useGranted up c)]
  rfl

/-- Settles O23: which discard it is, by the link, the credit and the check; and which bytes are no frame. -/
theorem discardedFrames : Obligations.DiscardedFrames := by
  refine ⟨fun p c bytes s => ⟨fun most up => ?_, fun down => ?_⟩, fun most f p1 p0 rest =>
    ⟨fun c kind h => parseFrame_noKind h c most f p1 p0 rest, fun kind h => parseFrame_answerKind h most f p1 p0 rest, rfl,
      fun a3 a2 a1 a0 tail h => ?_, fun a3 a2 a1 a0 n1 n0 tag tail h => ?_, fun tag code tail h => ?_,
      fun target source c1 c0 tail h => ?_, frameCheckOk_length rfl, frameCheckOk_length rfl, frameCheckOk_length rfl,
      frameCheckOk_length rfl, fun bytes => frameCheckOk_short⟩⟩
  · have arrives := State.frameArrives_up (c := c) up bytes
    have isUp := State.isUp_of_link up
    have owing : (s.modPort p (PortState.useAndOwe c)).isUp p = true :=
      (congrArg (fun x : PortState => x.link.isUp) (State.port_modPort_same _ _ _)).trans isUp
    have window : ((s.modPort p (PortState.useAndOwe c)).port p).window = (s.port p).window :=
      (congrArg PortState.window (State.port_modPort_same _ _ _)).trans rfl
    refine ⟨fun none => happens_of_event (f := State.frameArrives p c bytes) rfl ?_,
      fun some intact bad => happens_of_event (f := State.frameArrives p c bytes) rfl ?_,
      fun some bad few => happens_of_event (f := State.frameArrives p c bytes) rfl ?_,
      fun some bad many => happens_of_event (f := State.frameArrives p c bytes) rfl ?_⟩
    · rw [arrives, if_pos none, State.malformed_eq]
    · rw [arrives, if_neg (Nat.ne_of_gt some), State.frameInCredit_malformed isUp intact bad]
    · rw [arrives, if_neg (Nat.ne_of_gt some), State.frameInCredit_damaged isUp bad, State.damaged_up owing, window,
        if_neg (Nat.not_le.mpr few), State.modPort_modPort_same, State.modPort_modPort_same]
      rfl
    · rw [arrives, if_neg (Nat.ne_of_gt some), State.frameInCredit_damaged isUp bad, State.damaged_up owing, window,
        if_pos many, State.modPort_modPort_same]
      rfl
  · have arrives := State.frameArrives_notUp down c bytes
    refine ⟨fun intact => happens_of_event (f := State.frameArrives p c bytes) rfl ?_,
      fun bad => happens_of_event (f := State.frameArrives p c bytes) rfl ?_⟩
    · rw [arrives, if_pos intact]
    · rw [arrives, if_neg (Bool.eq_false_iff.mp bad), State.damaged_notUp down]
  · subst h
    rw [parseFrame_store, ite_eq_right_iff]
    simp only [reduceCtorEq, imp_false]
    omega
  · subst h
    rw [parseFrame_fetch, ite_eq_right_iff]
    simp only [reduceCtorEq, imp_false]
    omega
  · subst h
    exact parseFrame_answer_none_iff most f p1 p0 tag code tail
  · subst h
    rw [parseFrame_notice, ite_eq_right_iff]
    simp only [reduceCtorEq, imp_false, not_and_or, ne_eq, not_not, Nat.not_le]

end Sys2Proof.Machine
end

section
/-! The proofs about request frames: what becomes of a head taken up, and of a refused FETCH (R41 to R60, R100, R108, R109). -/

namespace Sys2Proof.Machine

/-! ## A frame that enters an empty class is taken up (R41, R100) -/

/-- A request frame has entered a class that was empty. -/
def PortState.tookRequest (r : Request Byte) (x : PortState) : PortState :=
  { x with
    granted := x.granted.set .request (x.granted.request - 1)
    requests := [r]
    counters := { x.counters with received := x.counters.received + 1 } }

/-- A frame within credit that passes its checks enters the tail of its class. -/
theorem State.frameArrives_accepted {s : State} {p : Port} {c : FrameClass} {bytes : List Byte} {most : Nat} {f : Frame}
    (up : (s.port p).link = .up most) (credit : 0 < (s.port p).granted.get c) (intact : frameCheckOk bytes = true)
    (parsed : parseFrame c most bytes = some f) :
    s.frameArrives p c bytes = (s.modPort p fun x => (x.useGranted c).accept f).serveFor f p := by
  rw [State.frameArrives_up up, if_neg (Nat.ne_of_gt credit)]
  unfold State.frameInCredit
  dsimp only
  rw [intact, Bool.not_true, if_neg Bool.false_ne_true, parsed]
  dsimp only
  rw [State.modPort_modPort_same]

theorem State.takeUpRequest_last {s : State} {p : Port} {r : Request Byte} (head : (s.port p).requests = [r]) :
    (s.takeUpRequest p r).serveRequests p = s.takeUpRequest p r := by
  refine State.serveRequests_idle ?_
  rcases RequestHeadDone.takeUpRequest p r s with waits | ⟨_, left⟩
  · exact .inl waits
  · exact .inr (by rw [left, head]; rfl)

theorem State.frameArrives_request {s : State} {p : Port} {bytes : List Byte} {most : Nat} {r : Request Byte}
    (up : (s.port p).link = .up most) (credit : 0 < (s.port p).granted.request) (intact : frameCheckOk bytes = true)
    (parsed : parseFrame .request most bytes = some (.request r)) (empty : (s.port p).requests = [])
    (idle : (s.port p).requestWait = none) :
    s.frameArrives p .request bytes = (s.modPort p (PortState.tookRequest r)).takeUpRequest p r := by
  have enters : (s.modPort p fun x => (x.useGranted .request).accept (.request r)) = s.modPort p (PortState.tookRequest r) := by
    refine State.modPort_congr p s ?_
    unfold PortState.accept PortState.useGranted PortState.count PortState.tookRequest
    dsimp only
    rw [empty]
    rfl
  have port := State.port_modPort_same p (PortState.tookRequest r) s
  rw [State.frameArrives_accepted (c := .request) up credit intact parsed, enters]
  refine (State.serveRequests_cons (rest := []) ?_ ?_).trans (State.takeUpRequest_last ?_)
  · rw [port]
    exact idle
  · rw [port]
    rfl
  · rw [port]
    rfl

/-! ## The head of a request class taken up (R44, R45, R59) -/

/-- A request head with its SPOILED latched, if it is spoiled (R44). -/
def State.spoiledMarked (p : Port) (r : Request Byte) (s : State) : State :=
  if r.spoiled then s.detect (.link p) .spoiled r.subject else s

section Marked

variable (p : Port) (r : Request Byte) (s : State)

theorem State.spoiledMarked_routing : SameRouting s (s.spoiledMarked p r) := by
  unfold State.spoiledMarked
  split
  · exact .detect _ _ _ s
  · exact .refl s

@[simp] theorem State.spoiledMarked_port (q : Port) : (s.spoiledMarked p r).port q = s.port q := by
  unfold State.spoiledMarked
  split
  · exact State.detect_port _ _ _ s q
  · rfl

@[simp] theorem State.spoiledMarked_stallLimit : (s.spoiledMarked p r).stallLimit = s.stallLimit := by
  unfold State.spoiledMarked
  split
  · exact State.detect_stallLimit _ _ _ s
  · rfl

@[simp] theorem State.spoiledMarked_exchange : (s.spoiledMarked p r).exchange = s.exchange := by
  unfold State.spoiledMarked
  split
  · exact State.detect_exchange _ _ _ s
  · rfl

@[simp] theorem State.spoiledMarked_management : (s.spoiledMarked p r).management = s.management := by
  unfold State.spoiledMarked
  split
  · exact State.detect_management _ _ _ s
  · rfl

@[simp] theorem State.spoiledMarked_inbox : (s.spoiledMarked p r).inbox = s.inbox := by
  unfold State.spoiledMarked
  split
  · exact State.detect_inbox _ _ _ s
  · rfl

theorem State.spoiledMarked_modPort (q : Port) (f : PortState → PortState) :
    (s.modPort q f).spoiledMarked p r = (s.spoiledMarked p r).modPort q f := by
  unfold State.spoiledMarked
  split
  · exact State.detect_modPort _ _ _ q f s
  · rfl

end Marked

section TakenUp

variable {p : Port} {r : Request Byte} {s : State}

theorem State.spoiledMarked_decideHead {v : Verdict} (h : s.decideHead (.link p) r = v) :
    (if r.spoiled then s.detect (.link p) .spoiled r.subject else s).decideHead (.link p) r = v :=
  ((s.spoiledMarked_routing p r).decideHead (.link p) r).trans h

theorem State.takeUpRequest_place {d : Port} (h : s.decideHead (.link p) r = .place d) :
    s.takeUpRequest p r
      = ((s.spoiledMarked p r).modPort p fun x => { x with requestWait := some (.lane d s.stallLimit.value) }).offerRequestLane d
          (.link p) := by
  rw [← State.spoiledMarked_stallLimit p r s]
  unfold State.takeUpRequest
  dsimp only
  rw [State.spoiledMarked_decideHead h]
  rfl

theorem State.takeUpRequest_inbox (h : s.decideHead (.link p) r = .inbox) :
    s.takeUpRequest p r = (s.spoiledMarked p r).inboxHead p r := by
  unfold State.takeUpRequest
  dsimp only
  rw [State.spoiledMarked_decideHead h]
  rfl

theorem State.takeUpRequest_refuse {st : AnsStatus} {c : Condition} (h : s.decideHead (.link p) r = .refuse st c) :
    s.takeUpRequest p r = ((s.spoiledMarked p r).detect (.link p) c r.subject).refuseHead p r st s.stallLimit.value := by
  rw [← State.spoiledMarked_stallLimit p r s]
  unfold State.takeUpRequest
  dsimp only
  rw [State.spoiledMarked_decideHead h]
  rfl

/-- A drop at step 10 has latched SPOILED already. -/
theorem State.takeUpRequest_drop {c : Condition} (h : s.decideHead (.link p) r = .drop c) :
    s.takeUpRequest p r
      = (if c = .spoiled then s.spoiledMarked p r else (s.spoiledMarked p r).detect (.link p) c r.subject).dropRequest p := by
  unfold State.takeUpRequest
  dsimp only
  rw [State.spoiledMarked_decideHead h]
  cases c <;> rfl

end TakenUp

/-! ## The head waits for a request lane (R56, R108, R109) -/

theorem State.wantsRequestLane_waiting {s : State} {p d : Port} {left : Nat} (wait : (s.port p).requestWait = some (.lane d left)) :
    s.wantsRequestLane d (.link p) = true := by
  unfold State.wantsRequestLane
  dsimp only
  rw [wait]
  exact beq_self_eq_true d

/-- Whether a position wants a request lane depends on its own waiting head alone. -/
theorem State.wantsRequestLane_modPort {p : Port} {o : Origin} (other : o ≠ .link p) (d : Port) (f : PortState → PortState)
    (s : State) : (s.modPort p f).wantsRequestLane d o = s.wantsRequestLane d o := by
  cases o with
  | m => rfl
  | link q =>
    have ne : q ≠ p := fun e => other (e ▸ rfl)
    unfold State.wantsRequestLane
    dsimp only
    rw [State.port_modPort_ne _ _ ne]

theorem State.wantsRequestLane_congr {s t : State} (ports : ∀ q, t.port q = s.port q) (management : t.management = s.management)
    (d : Port) (o : Origin) : t.wantsRequestLane d o = s.wantsRequestLane d o := by
  cases o with
  | link q =>
    unfold State.wantsRequestLane
    dsimp only
    rw [ports]
  | m =>
    unfold State.wantsRequestLane
    dsimp only
    rw [State.hostHead_congr management]

theorem State.offerRequestLane_granted {s : State} {p d : Port} {left : Nat} (wait : (s.port p).requestWait = some (.lane d left))
    (room : (s.port d).requestRoom = true) (sole : ∀ o, o ≠ .link p → s.wantsRequestLane d o = false) :
    s.offerRequestLane d (.link p) = s.grantLink d p := by
  refine if_pos (State.candidates_sole ?_ fun o ho => ?_)
  · rw [State.isCandidate_request, State.wantsRequestLane_waiting wait, room]
    rfl
  · rw [State.isCandidate_request, sole o ho, Bool.false_and]

theorem State.offerRequestLane_waits {s : State} {p d : Port}
    (h : 12 ≤ (s.port d).requestLane.length ∨ ∃ o, o ≠ .link p ∧ s.wantsRequestLane d o = true) :
    s.offerRequestLane d (.link p) = s := by
  refine if_neg ?_
  cases room : (s.port d).requestRoom with
  | false =>
    rw [State.candidates_none fun o => by rw [State.isCandidate_request, room, Bool.and_false]]
    exact fun k => by cases k
  | true =>
    have free : ¬12 ≤ (s.port d).requestLane.length := Nat.not_le.mpr ((PortState.requestRoom_iff _).mp room).2
    obtain ⟨o, ho, wants⟩ := h.resolve_left free
    exact State.candidates_rival (r := o) (by rw [State.isCandidate_request, room, wants]; rfl) ho

section Granted

variable {s : State} {p d : Port} {left : Nat} {rest : List (Request Byte)} (wait : (s.port p).requestWait = some (.lane d left))

include wait

theorem State.grantLink_store {a : Word32} {b : List Byte} {sp : Bool} (head : (s.port p).requests = .store a b sp :: rest) :
    s.grantLink d p = (s.placeRequest d (.link p) (.store a b sp)).modPort p PortState.popRequest := by
  unfold State.grantLink
  rw [wait, head]

theorem State.grantLink_notice {t f : Byte} {c : Word16} {b : List Byte} {sp : Bool}
    (head : (s.port p).requests = .notice t f c b sp :: rest) :
    s.grantLink d p = (s.placeRequest d (.link p) (.notice t f c b sp)).modPort p PortState.popRequest := by
  unfold State.grantLink
  rw [wait, head]

theorem State.grantLink_fetch_admitted {a : Word32} {n : Nat} {tag : Byte} {sp : Bool} {i : RouterTag}
    (head : (s.port p).requests = .fetch a n tag sp :: rest) (admitted : s.admission (.link p) = .ok i) :
    s.grantLink d p
      = ((s.openEntry i (.link p tag) d a n).placeRequest d (.link p) (.fetch a n i sp)).modPort p PortState.popRequest := by
  unfold State.grantLink
  rw [wait, head]
  dsimp only
  rw [admitted]

theorem State.grantLink_fetch_refused {a : Word32} {n : Nat} {tag : Byte} {sp : Bool} {k : Condition}
    (head : (s.port p).requests = .fetch a n tag sp :: rest) (refused : s.admission (.link p) = .error k) :
    s.grantLink d p
      = ((s.setPointer d .request (.link p)).detect (.link p) k (.fetch a n (some tag) sp)).refuseHead p (.fetch a n tag sp)
          .tableFull left := by
  unfold State.grantLink
  rw [wait, head]
  dsimp only
  rw [refused]
  rfl

end Granted

/-- Changes of another port may be made after both changes of this one. -/
theorem State.modPort_around {p d : Port} (ne : p ≠ d) (f g k h : PortState → PortState) (s : State) :
    (((s.modPort p f).modPort d g).modPort d k).modPort p h = ((s.modPort p fun x => h (f x)).modPort d g).modPort d k := by
  rw [State.modPort_comm k h _ ne.symm, State.modPort_comm g h _ ne.symm, State.modPort_modPort_same p f h]

theorem State.placeRequest_around {p d : Port} (ne : p ≠ d) (f h : PortState → PortState) (o : Origin) (r : Request RouterTag)
    (s : State) :
    ((s.modPort p f).placeRequest d o r).modPort p h
      = ((s.modPort p fun x => h (f x)).modPort d fun x => { x with requestLane := x.requestLane ++ [⟨r, o⟩] }).setPointer d .request
          o := State.modPort_around ne f _ _ h s

/-! ## A refused FETCH wants a slot of its own answer lane (R55, R108) -/

theorem State.wantsForward_congr {s t : State} {q : Port} (answers : SameAnswers q s t) (entries : ∀ i, t.entry i = s.entry i)
    (p : Port) : t.wantsForward q p = s.wantsForward q p := by
  have lookup : ∀ tag, t.lookup tag = s.lookup tag := fun tag => by
    unfold State.lookup
    split
    · rw [entries]
    · rfl
  obtain ⟨same, wait⟩ := answers
  unfold State.wantsForward State.awaitedMatch
  simp only [same, wait, lookup]

theorem State.isCandidate_answer (s : State) (d q : Port) :
    s.isCandidate d .answer (.link q)
      = ((q == d && s.wantsAnswerSlot d && (s.port d).routerMadeRoom) || (s.wantsForward q d && (s.port d).forwardedRoom)) := rfl

theorem PortState.forwardedRoom_iff (x : PortState) :
    x.forwardedRoom = true ↔ x.routerMadeRoom = true ∧ forwardedCount x.answerLane < 6 := by
  unfold PortState.forwardedRoom
  rw [Bool.and_eq_true, decide_eq_true_eq]
  rfl

theorem State.wantsAnswerSlot_waiting {s : State} {p : Port} {st : AnsStatus} {left : Nat}
    (wait : (s.port p).requestWait = some (.answerSlot st left)) : s.wantsAnswerSlot p = true := by
  unfold State.wantsAnswerSlot
  rw [wait]

/-- No other port's answer may go before the refused FETCH. -/
def State.noForwardRival (p : Port) (s : State) : Prop :=
  (∀ q, q ≠ p → s.wantsForward q p = false) ∨ 6 ≤ forwardedCount (s.port p).answerLane

theorem State.offerAnswerLane_slot {s : State} {p : Port} {st : AnsStatus} {left : Nat}
    (wait : (s.port p).requestWait = some (.answerSlot st left)) (room : (s.port p).routerMadeRoom = true) (calm : s.noForwardRival p) :
    s.offerAnswerLane p (.link p) = s.grantSlot p := by
  have wants := State.wantsAnswerSlot_waiting wait
  have sole : s.candidates p .answer = [.link p] := by
    refine State.candidates_sole (State.isCandidate_answer_self wants room) fun o ho => ?_
    cases o with
    | m => rfl
    | link q =>
      have ne : q ≠ p := fun e => ho (e ▸ rfl)
      rw [State.isCandidate_answer_other ne]
      rcases calm with none | many
      · rw [none q ne, Bool.false_and]
      · have full : (s.port p).forwardedRoom = false :=
          Bool.eq_false_iff.mpr fun k => Nat.not_lt.mpr many ((PortState.forwardedRoom_iff _).mp k).2
        rw [full, Bool.and_false]
  exact (if_pos sole).trans (if_pos ⟨rfl, wants, room⟩)

theorem State.offerAnswerLane_waits {s : State} {p d : Port}
    (h : (s.port d).routerMadeRoom = false
      ∨ ∃ o, o ≠ .link p ∧ s.isCandidate d .answer o = true) : s.offerAnswerLane d (.link p) = s := by
  refine if_neg ?_
  rcases h with full | ⟨o, ho, rival⟩
  · rw [State.candidates_none (State.isCandidate_answer_full full)]
    exact fun k => by cases k
  · exact State.candidates_rival rival ho

theorem State.grantSlot_eq {s : State} {p : Port} {st : AnsStatus} {left : Nat} {a : Word32} {n : Nat} {tag : Byte} {sp : Bool}
    {rest : List (Request Byte)} (wait : (s.port p).requestWait = some (.answerSlot st left))
    (head : (s.port p).requests = .fetch a n tag sp :: rest) :
    s.grantSlot p
      = ((s.modPort p (PortState.pushAnswer (routerMadeAnswer tag st))).dropRequest p).setPointer p .answer (.link p) := by
  unfold State.grantSlot
  rw [wait, head]

/-- The refused FETCH waits for its slot. -/
def PortState.awaitsSlot (st : AnsStatus) (left : Nat) (x : PortState) : PortState :=
  { x with requestWait := some (.answerSlot st left) }

section Refused

variable {s : State} {p : Port} {a : Word32} {n : Nat} {tag : Byte} {sp : Bool}

theorem State.awaitsSlot_noForwardRival {st : AnsStatus} {left : Nat} :
    (s.modPort p (PortState.awaitsSlot st left)).noForwardRival p ↔ s.noForwardRival p := by
  have forward : ∀ q, (s.modPort p (PortState.awaitsSlot st left)).wantsForward q p = s.wantsForward q p := fun q =>
    State.wantsForward_congr (.modPort ⟨rfl, rfl⟩) (fun i => State.entry_modPort _ _ _ i) p
  have lane : ((s.modPort p (PortState.awaitsSlot st left)).port p).answerLane = (s.port p).answerLane :=
    (congrArg PortState.answerLane (State.port_modPort_same _ _ _)).trans rfl
  unfold State.noForwardRival
  rw [lane]
  simp only [forward]

/-- With a free slot and no rival the refused FETCH is answered at once (R55). -/
theorem State.refuseHead_answered {rest : List (Request Byte)} (head : (s.port p).requests = .fetch a n tag sp :: rest)
    (up : s.isUp p = true) (room : (s.port p).answerLane.length < 8) (calm : s.noForwardRival p) (st : AnsStatus) (left : Nat) :
    s.refuseHead p (.fetch a n tag sp) st left
      = (s.modPort p fun x =>
          { x with
            requests := rest
            requestWait := none
            owed := x.owed.set .request (x.owed.request + 1)
            answerLane := x.answerLane ++ [⟨⟨tag, st, true, [], false⟩, true⟩]
            counters := { x.counters with dropped := x.counters.dropped + 1 } }).setPointer p .answer (.link p) := by
  have port := State.port_modPort_same p (PortState.awaitsSlot st left) s
  have wait : ((s.modPort p (PortState.awaitsSlot st left)).port p).requestWait = some (.answerSlot st left) := by
    rw [port]
    rfl
  have free : ((s.modPort p (PortState.awaitsSlot st left)).port p).routerMadeRoom = true := by
    rw [port]
    exact (PortState.routerMadeRoom_iff _).mpr ⟨up, room⟩
  have first : ((s.modPort p (PortState.awaitsSlot st left)).port p).requests = .fetch a n tag sp :: rest := by
    rw [port]
    exact head
  have offered : s.refuseHead p (.fetch a n tag sp) st left
      = (s.modPort p (PortState.awaitsSlot st left)).offerAnswerLane p (.link p) := rfl
  rw [offered, State.offerAnswerLane_slot wait free (State.awaitsSlot_noForwardRival.mpr calm), State.grantSlot_eq wait first]
  refine congrArg (State.setPointer p .answer (.link p)) ?_
  unfold State.dropRequest
  rw [State.modPort_modPort_same, State.modPort_modPort_same]
  refine State.modPort_congr p s ?_
  dsimp only
  rw [PortState.popRequest_eq]
  have link : (s.port p).link.isUp = true := up
  simp only [PortState.pushAnswer, PortState.awaitsSlot, PortState.count, link, head, if_true]
  rfl

/-- With no slot, or with a rival for it, the refused FETCH waits (R55). -/
theorem State.refuseHead_waits
    (h : 8 ≤ (s.port p).answerLane.length
      ∨ s.isUp p = true ∧ (∃ q, q ≠ p ∧ s.wantsForward q p = true) ∧ forwardedCount (s.port p).answerLane < 6)
    (st : AnsStatus) (left : Nat) :
    s.refuseHead p (.fetch a n tag sp) st left = s.modPort p fun x => { x with requestWait := some (.answerSlot st left) } := by
  have port := State.port_modPort_same p (PortState.awaitsSlot st left) s
  refine State.offerAnswerLane_waits (s := s.modPort p (PortState.awaitsSlot st left)) ?_
  cases room : ((s.modPort p (PortState.awaitsSlot st left)).port p).routerMadeRoom with
  | false => exact .inl rfl
  | true =>
    rw [port, PortState.routerMadeRoom_iff] at room
    obtain ⟨_, ⟨q, ne, wants⟩, few⟩ := h.resolve_left (Nat.not_le.mpr room.2)
    have forward : (s.modPort p (PortState.awaitsSlot st left)).wantsForward q p = true :=
      (State.wantsForward_congr (.modPort ⟨rfl, rfl⟩) (fun i => State.entry_modPort _ _ _ i) p).trans wants
    have free : ((s.modPort p (PortState.awaitsSlot st left)).port p).forwardedRoom = true := by
      rw [port]
      exact (PortState.forwardedRoom_iff _).mpr ⟨(PortState.routerMadeRoom_iff _).mpr room, few⟩
    exact .inr ⟨.link q, fun e => ne (Origin.link.inj e), by rw [State.isCandidate_answer_other ne, forward, free]; rfl⟩

end Refused

/-! ## A request frame decided (R44 to R62, R100) -/

/-- A request frame has gone through a class that was empty: its credit is owed back. -/
def PortState.passedRequest (x : PortState) : PortState :=
  { x with
    granted := x.granted.set .request (x.granted.request - 1)
    owed := x.owed.set .request (x.owed.request + 1)
    counters := { x.counters with received := x.counters.received + 1 } }

/-- The same, and the frame counts as dropped. -/
def PortState.lostRequest (x : PortState) : PortState :=
  { x.passedRequest with counters := { x.passedRequest.counters with dropped := x.counters.dropped + 1 } }

/-- A request frame waits for a lane in a class that was empty. -/
def PortState.heldRequest (r : Request Byte) (w : RequestWait) (x : PortState) : PortState :=
  { x.tookRequest r with requestWait := some w }

section Arrived

variable {p : Port} {s : State} (up : s.isUp p = true) (empty : (s.port p).requests = []) (idle : (s.port p).requestWait = none)
  (r : Request Byte)

include up empty idle

theorem PortState.popRequest_tookRequest : ((s.port p).tookRequest r).popRequest = (s.port p).passedRequest := by
  have link : (s.port p).link.isUp = true := up
  rw [PortState.popRequest_eq]
  simp only [PortState.tookRequest, PortState.passedRequest, link, if_true, List.tail_cons, ← empty, ← idle]

theorem PortState.popRequest_heldRequest (w : RequestWait) : ((s.port p).heldRequest r w).popRequest = (s.port p).passedRequest :=
  PortState.popRequest_tookRequest up empty idle r

theorem State.popRequest_tookRequest {t : State} (same : t.port p = s.port p) :
    (t.modPort p (PortState.tookRequest r)).modPort p PortState.popRequest = t.modPort p PortState.passedRequest := by
  rw [State.modPort_modPort_same]
  refine State.modPort_congr p t ?_
  rw [same, PortState.popRequest_tookRequest up empty idle r]

theorem State.dropRequest_tookRequest {t : State} (same : t.port p = s.port p) :
    (t.modPort p (PortState.tookRequest r)).dropRequest p = t.modPort p PortState.lostRequest := by
  unfold State.dropRequest
  rw [State.modPort_modPort_same]
  refine State.modPort_congr p t ?_
  rw [same, PortState.popRequest_tookRequest up empty idle r]
  rfl

end Arrived

section Placed

variable {p d : Port} {s : State} {r : Request Byte} (verdict : s.decideHead (.link p) r = .place d)

include verdict

theorem State.arrived_place :
    (s.modPort p (PortState.tookRequest r)).takeUpRequest p r
      = ((s.spoiledMarked p r).modPort p (PortState.heldRequest r (.lane d s.stallLimit.value))).offerRequestLane d (.link p) := by
  have again : (s.modPort p (PortState.tookRequest r)).decideHead (.link p) r = .place d :=
    ((SameRouting.modPort p (PortState.tookRequest r) s rfl).decideHead (.link p) r).trans verdict
  rw [State.takeUpRequest_place again, State.spoiledMarked_modPort, State.modPort_modPort_same]
  rfl

omit verdict in
theorem State.held_wait (l : Nat) :
    (((s.spoiledMarked p r).modPort p (PortState.heldRequest r (.lane d l))).port p).requestWait = some (.lane d l) := by
  rw [State.port_modPort_same]
  rfl

omit verdict in
theorem State.held_wants {o : Origin} (other : o ≠ .link p) (l : Nat) :
    ((s.spoiledMarked p r).modPort p (PortState.heldRequest r (.lane d l))).wantsRequestLane d o = s.wantsRequestLane d o :=
  (State.wantsRequestLane_modPort other d _ _).trans
    (State.wantsRequestLane_congr (s.spoiledMarked_port p r) (s.spoiledMarked_management p r) d o)

theorem State.arrived_granted (other : p ≠ d) (room : (s.port d).requestLane.length < 12)
    (sole : ∀ o, o ≠ .link p → s.wantsRequestLane d o = false) :
    (s.modPort p (PortState.tookRequest r)).takeUpRequest p r
      = ((s.spoiledMarked p r).modPort p (PortState.heldRequest r (.lane d s.stallLimit.value))).grantLink d p := by
  rw [State.arrived_place verdict]
  refine State.offerRequestLane_granted (State.held_wait _) ?_ fun o ho => (State.held_wants ho _).trans (sole o ho)
  rw [State.port_modPort_ne _ _ other.symm, State.spoiledMarked_port]
  exact (PortState.requestRoom_iff _).mpr ⟨State.isUp_of_decide_place verdict, room⟩

theorem State.arrived_waits
    (h : 12 ≤ (s.port d).requestLane.length ∨ ∃ o, o ≠ .link p ∧ s.wantsRequestLane d o = true) :
    (s.modPort p (PortState.tookRequest r)).takeUpRequest p r
      = (s.spoiledMarked p r).modPort p (PortState.heldRequest r (.lane d s.stallLimit.value)) := by
  rw [State.arrived_place verdict]
  refine State.offerRequestLane_waits (h.imp (fun full => ?_) fun ⟨o, ho, wants⟩ => ⟨o, ho, (State.held_wants ho _).trans wants⟩)
  have lane : (((s.spoiledMarked p r).modPort p (PortState.heldRequest r (.lane d s.stallLimit.value))).port d).requestLane
      = (s.port d).requestLane := by
    rw [State.port_modPort, ← State.spoiledMarked_port p r s]
    split
    case isTrue same =>
      rw [same]
      rfl
    case isFalse => rfl
  rw [lane]
  exact full

end Placed

section Passed

variable {p d : Port} {s t : State} (same : t.port p = s.port p) (up : s.isUp p = true) (empty : (s.port p).requests = [])
  (idle : (s.port p).requestWait = none) (r : Request Byte)

include same up empty idle

/-- The head that waited for the lane of another port has entered it. -/
theorem State.held_passes (other : p ≠ d) (w : RequestWait) (o : Origin) (q : Request RouterTag) :
    ((t.modPort p (PortState.heldRequest r w)).placeRequest d o q).modPort p PortState.popRequest
      = ((t.modPort p PortState.passedRequest).modPort d fun x => { x with requestLane := x.requestLane ++ [⟨q, o⟩] }).setPointer d
          .request o := by
  have passed : (t.modPort p fun x => (x.heldRequest r w).popRequest) = t.modPort p PortState.passedRequest := by
    refine State.modPort_congr p t ?_
    rw [same]
    exact PortState.popRequest_heldRequest up empty idle r w
  rw [State.placeRequest_around other, passed]

end Passed

theorem State.admission_congr {s t : State} (h : t.exchange = s.exchange) (o : Origin) : t.admission o = s.admission o := by
  have reads : ∀ u : State, u.admission o = ({ State.reset with exchange := u.exchange } : State).admission o := fun _ => rfl
  rw [reads t, reads s, h]

theorem SameAnswers.of_port {p : Port} {s t : State} (h : t.port p = s.port p) : SameAnswers p s t :=
  ⟨congrArg PortState.answers h, congrArg PortState.answerWait h⟩

/-- A FETCH of a class that was empty, refused at its grant and answered at once. -/
theorem State.arrived_refusedAtGrant {p d : Port} {s : State} {a : Word32} {n : Nat} {tag : Byte} {sp : Bool} (other : p ≠ d)
    (up : s.isUp p = true) (empty : (s.port p).requests = []) (idle : (s.port p).requestWait = none)
    (room : (s.port p).answerLane.length < 8) (calm : ∀ q, s.wantsForward q p = false) (w : RequestWait) (st : AnsStatus) (left : Nat)
    (k : Condition) (x : Subject) :
    (((((s.spoiledMarked p (.fetch a n tag sp)).modPort p (PortState.heldRequest (.fetch a n tag sp) w)).setPointer d .request
      (.link p)).detect (.link p) k x).refuseHead p (.fetch a n tag sp) st left)
      = ((((s.spoiledMarked p (.fetch a n tag sp)).setPointer d .request (.link p)).detect (.link p) k x).modPort p fun y =>
          { y.lostRequest with answerLane := y.answerLane ++ [⟨⟨tag, st, true, [], false⟩, true⟩] }).setPointer p .answer
          (.link p) := by
  have moved : (((s.spoiledMarked p (.fetch a n tag sp)).modPort p (PortState.heldRequest (.fetch a n tag sp) w)).setPointer d .request
      (.link p)).detect (.link p) k x
      = (((s.spoiledMarked p (.fetch a n tag sp)).setPointer d .request (.link p)).detect (.link p) k x).modPort p
          (PortState.heldRequest (.fetch a n tag sp) w) := by
    unfold State.setPointer
    rw [State.modPort_comm _ _ _ other, State.detect_modPort]
  have before : (((s.spoiledMarked p (.fetch a n tag sp)).setPointer d .request (.link p)).detect (.link p) k x).port p = s.port p := by
    unfold State.setPointer
    rw [State.detect_port, State.port_modPort_ne _ _ other, State.spoiledMarked_port]
  have answers : ∀ q, SameAnswers q s
      ((((s.spoiledMarked p (.fetch a n tag sp)).setPointer d .request (.link p)).detect (.link p) k x).modPort p
        (PortState.heldRequest (.fetch a n tag sp) w)) := fun q =>
    (((SameAnswers.of_port (s.spoiledMarked_port p _ q)).trans (.setPointer q d _ _ _)).trans (.detect q _ _ _ _)).trans
      (.modPort ⟨rfl, rfl⟩)
  have entries : ∀ i, ((((s.spoiledMarked p (.fetch a n tag sp)).setPointer d .request (.link p)).detect (.link p) k x).modPort p
      (PortState.heldRequest (.fetch a n tag sp) w)).entry i = s.entry i := fun i => by
    rw [State.entry_modPort, State.detect_entry]
    exact congrArg (fun e : ExchangeTable => e.entries[i]) (s.spoiledMarked_exchange p _)
  have port := (State.port_modPort_same p (PortState.heldRequest (.fetch a n tag sp) w)
    (((s.spoiledMarked p (.fetch a n tag sp)).setPointer d .request (.link p)).detect (.link p) k x)).trans
      (congrArg (PortState.heldRequest (.fetch a n tag sp) w) before)
  rw [moved, State.refuseHead_answered (rest := []) ?head ?up ?room ?calm st left, State.modPort_modPort_same]
  case head =>
    rw [port]
    rfl
  case up => exact (congrArg (fun y : PortState => y.link.isUp) port).trans up
  case room =>
    rw [port]
    exact room
  case calm => exact .inl fun q _ => (State.wantsForward_congr (answers q) entries p).trans (calm q)
  refine congrArg (State.setPointer p .answer (.link p)) (State.modPort_congr p _ ?_)
  rw [before]
  simp only [PortState.heldRequest, PortState.tookRequest, PortState.lostRequest, PortState.passedRequest, ← empty, ← idle]

theorem State.inboxHead_full {s : State} {p : Port} {r : Request Byte} {x : NoticeRecord} (record : r.record (.link p) = some x)
    (full : 16 ≤ s.inbox.length) :
    s.inboxHead p r = ((s.latch .router .inboxOverflow).countRouter RouterCounters.addInboxDrop).dropRequest p := by
  unfold State.inboxHead
  rw [record]
  exact (if_pos ((State.inboxFull_iff s).mpr full)).trans (congrArg (State.dropRequest p) (State.appendInbox_full full x))

theorem State.inboxHead_room {s : State} {p : Port} {r : Request Byte} {x : NoticeRecord} (record : r.record (.link p) = some x)
    (free : s.inbox.length < 16) :
    s.inboxHead p r = (State.latch .router .inboxArrival { s with inbox := s.inbox ++ [x] }).modPort p PortState.popRequest := by
  unfold State.inboxHead
  rw [record]
  exact (if_neg fun k => absurd ((State.inboxFull_iff s).mp k) (Nat.not_le.mpr free)).trans
    (congrArg (State.modPort p PortState.popRequest) (State.appendInbox_room free x))

/-- Settles O24: a frame that enters an empty class is decided, and one that enters behind a waiting head waits behind it. -/
theorem requestFrameDecided : Obligations.RequestFrameDecided := by
  refine ⟨fun p bytes r most s link credit intact parsed empty idle => ?_,
    fun p bytes r head behind w most s link credit intact parsed queue wait => happens_of_event rfl ?_⟩
  · have up := State.isUp_of_link link
    have arrives := State.frameArrives_request link credit intact parsed empty idle
    have first : ∀ w, (((s.spoiledMarked p r).modPort p (PortState.heldRequest r w)).port p).requests = [r] := fun w => by
      rw [State.port_modPort_same]
      rfl
    have marked := s.spoiledMarked_port p r p
    have again : ∀ {v : Verdict}, s.decideHead (.link p) r = v →
        (s.modPort p (PortState.tookRequest r)).decideHead (.link p) r = v :=
      ((SameRouting.modPort p (PortState.tookRequest r) s rfl).decideHead (.link p) r).trans
    refine ⟨fun d verdict other room sole => ?_, fun a b sp st c e verdict => happens_of_event rfl (arrives.trans ?_),
      fun c verdict => happens_of_event rfl (arrives.trans ?_), fun verdict full => happens_of_event rfl (arrives.trans ?_),
      fun t f c b sp e verdict free => happens_of_event rfl (arrives.trans ?_),
      fun d verdict waits => happens_of_event rfl (arrives.trans ((State.arrived_waits verdict waits).trans ?_))⟩
    · have granted := arrives.trans (State.arrived_granted verdict other room sole)
      have wait := State.held_wait (p := p) (d := d) (s := s) (r := r) s.stallLimit.value
      have admission := (State.admission_congr (s := s) (t := (s.spoiledMarked p r).modPort p
        (PortState.heldRequest r (.lane d s.stallLimit.value))) (s.spoiledMarked_exchange p r) (.link p))
      refine ⟨fun a b sp e => happens_of_event rfl (granted.trans ?_), fun t f c b sp e => happens_of_event rfl (granted.trans ?_),
        fun a n tag sp i e admitted => happens_of_event rfl (granted.trans ?_),
        fun a n tag sp k e refused slot calm => happens_of_event rfl (granted.trans ?_)⟩
      · subst e
        rw [State.grantLink_store wait (first _), State.held_passes marked up empty idle _ other]
        rfl
      · subst e
        rw [State.grantLink_notice wait (first _), State.held_passes marked up empty idle _ other]
        rfl
      · subst e
        rw [State.grantLink_fetch_admitted wait (first _) (admission.trans admitted)]
        have passes := State.held_passes (t := (s.spoiledMarked p (.fetch a n tag sp)).setEntry i
          (.opened ⟨.link p tag, d, a, n, 0, 0⟩ .queued (s.spoiledMarked p (.fetch a n tag sp)).exchange.timers.value.timeout)) marked up
          empty idle (.fetch a n tag sp) other (.lane d s.stallLimit.value) (.link p) (.fetch a n i sp)
        rw [State.spoiledMarked_exchange] at passes
        refine Eq.trans ?_ passes
        rw [← State.spoiledMarked_exchange p (.fetch a n tag sp) s]
        rfl
      · subst e
        rw [State.grantLink_fetch_refused wait (first _) (admission.trans refused),
          State.arrived_refusedAtGrant other up empty idle slot calm]
        rfl
    · subst e
      rw [State.takeUpRequest_refuse (again verdict), State.spoiledMarked_modPort, State.detect_modPort]
      exact State.dropRequest_tookRequest up empty idle _ ((State.detect_port _ _ _ _ _).trans marked)
    · rw [State.takeUpRequest_drop (again verdict), State.spoiledMarked_modPort, State.detect_modPort]
      split
      · exact State.dropRequest_tookRequest up empty idle r marked
      · exact State.dropRequest_tookRequest up empty idle r ((State.detect_port _ _ _ _ _).trans marked)
    · obtain ⟨x, record⟩ := State.record_of_decide_inbox verdict
      have stillFull : 16 ≤ ((s.spoiledMarked p r).modPort p (PortState.tookRequest r)).inbox.length := by
        rw [State.modPort_inbox, State.spoiledMarked_inbox]
        exact full
      rw [State.takeUpRequest_inbox (again verdict), State.spoiledMarked_modPort, State.inboxHead_full record stillFull,
        State.latch_modPort]
      exact State.dropRequest_tookRequest (t := ((s.spoiledMarked p r).latch .router .inboxOverflow).countRouter
        RouterCounters.addInboxDrop) up empty idle r ((State.latch_port _ _ _ p).trans marked)
    · subst e
      have inbox := State.spoiledMarked_inbox p (.notice t f c b sp) s
      have stillFree : ((s.spoiledMarked p (.notice t f c b sp)).modPort p (PortState.tookRequest (.notice t f c b sp))).inbox.length
          < 16 := by
        rw [State.modPort_inbox, inbox]
        exact free
      rw [State.takeUpRequest_inbox (again verdict), State.spoiledMarked_modPort,
        State.inboxHead_room (x := ⟨f, .link p, c, b, sp⟩) rfl stillFree]
      have moved := State.latch_modPort .router .inboxArrival p (PortState.tookRequest (.notice t f c b sp))
        { s.spoiledMarked p (.notice t f c b sp) with
          inbox := (s.spoiledMarked p (.notice t f c b sp)).inbox ++ [⟨f, .link p, c, b, sp⟩] }
      refine (congrArg (State.modPort p PortState.popRequest) moved).trans ?_
      rw [inbox]
      exact State.popRequest_tookRequest up empty idle _ ((State.latch_port _ _ _ p).trans marked)
    · refine State.modPort_congr p _ ?_
      rw [marked]
      rfl
  · rw [State.frameArrives_accepted (c := .request) link credit intact parsed]
    refine (State.serveRequests_idle (.inl ?_)).trans (State.modPort_congr p s ?_)
    · rw [State.port_modPort_same]
      exact fun k => Option.some_ne_none w (wait.symm.trans k)
    · unfold PortState.accept PortState.count PortState.useGranted
      dsimp only
      rw [queue]
      rfl

/-- A FETCH refused at its decision: it is in its class, SPOILED and its refusal latched. -/
theorem State.arrived_refused {p : Port} {s : State} {a : Word32} {n : Nat} {tag : Byte} {sp : Bool} {st : AnsStatus} {c : Condition}
    (verdict : s.decideHead (.link p) (.fetch a n tag sp) = .refuse st c) :
    (s.modPort p (PortState.tookRequest (.fetch a n tag sp))).takeUpRequest p (.fetch a n tag sp)
      = (((s.spoiledMarked p (.fetch a n tag sp)).detect (.link p) c (.fetch a n (some tag) sp)).modPort p
          (PortState.tookRequest (.fetch a n tag sp))).refuseHead p (.fetch a n tag sp) st s.stallLimit.value := by
  have again : (s.modPort p (PortState.tookRequest (.fetch a n tag sp))).decideHead (.link p) (.fetch a n tag sp) = .refuse st c :=
    ((SameRouting.modPort p (PortState.tookRequest (.fetch a n tag sp)) s rfl).decideHead (.link p) _).trans verdict
  rw [State.takeUpRequest_refuse again, State.spoiledMarked_modPort, State.detect_modPort]
  rfl

/-- Settles O25: by the room of the port's own answer lane, for a FETCH just decided and for one decided again. -/
theorem refusedFetchIsAnswered : Obligations.RefusedFetchIsAnswered := by
  refine ⟨fun p bytes a n tag sp most st c s link credit intact parsed empty idle verdict => ?_,
    fun p d left a n tag sp rest s wait head up => ?_⟩
  · have up := State.isUp_of_link link
    have arrives := (State.frameArrives_request link credit intact parsed empty idle).trans (State.arrived_refused verdict)
    have before : ((s.spoiledMarked p (.fetch a n tag sp)).detect (.link p) c (.fetch a n (some tag) sp)).port p = s.port p :=
      (State.detect_port _ _ _ _ p).trans (s.spoiledMarked_port p _ p)
    have port := (State.port_modPort_same p (PortState.tookRequest (.fetch a n tag sp))
      ((s.spoiledMarked p (.fetch a n tag sp)).detect (.link p) c (.fetch a n (some tag) sp))).trans
        (congrArg (PortState.tookRequest (.fetch a n tag sp)) before)
    refine ⟨fun room calm => happens_of_event rfl (arrives.trans ?_), fun full => happens_of_event rfl (arrives.trans ?_)⟩
    · have still : ∀ q, _ = s.wantsForward q p := fun q => State.wantsForward_congr (t := ((s.spoiledMarked p (.fetch a n tag
          sp)).detect (.link p) c (.fetch a n (some tag) sp)).modPort p (PortState.tookRequest (.fetch a n tag sp)))
        (((SameAnswers.of_port (s.spoiledMarked_port p _ q)).trans (.detect q _ _ _ _)).trans (.modPort ⟨rfl, rfl⟩))
        (fun i => by
          rw [State.entry_modPort, State.detect_entry]
          exact congrArg (fun e : ExchangeTable => e.entries[i]) (s.spoiledMarked_exchange p _)) p
      rw [State.refuseHead_answered (rest := []) (congrArg PortState.requests port)
        ((congrArg (fun y : PortState => y.link.isUp) port).trans up)
        (lt_of_eq_of_lt (congrArg (fun y : PortState => y.answerLane.length) port) room)
        (.inl fun q _ => (still q).trans (calm q)), State.modPort_modPort_same]
      refine congrArg (State.setPointer p .answer (.link p)) (State.modPort_congr p _ ?_)
      rw [before]
      simp only [PortState.tookRequest, ← empty, ← idle]
    · rw [State.refuseHead_waits (.inl (le_of_le_of_eq full (congrArg (fun y : PortState => y.answerLane.length) port).symm)),
        State.modPort_modPort_same]
      rfl
  · have port := State.detect_port (.link p) .notReadyDrop (.fetch a n (some tag) sp) s p
    have forward : ∀ q, (s.detect (.link p) .notReadyDrop (.fetch a n (some tag) sp)).wantsForward q p = s.wantsForward q p := fun q =>
      State.wantsForward_congr (SameAnswers.detect q _ _ _ s) (fun i => State.detect_entry _ _ _ s i) p
    have again : s.redecideLink p .notReady .notReadyDrop
        = ((s.detect (.link p) .notReadyDrop (.fetch a n (some tag) sp)).refuseHead p (.fetch a n tag sp) .notReady left).serveRequests
            p := by
      unfold State.redecideLink
      rw [wait, head]
      rfl
    have lane := congrArg PortState.answerLane port
    have isUp := congrArg (fun y : PortState => y.link.isUp) port
    refine ⟨fun room calm => again.trans (congrArg (State.serveRequests p) ?_), fun waits => again.trans ?_⟩
    · refine State.refuseHead_answered ((congrArg PortState.requests port).trans head) (isUp.trans up)
        (lt_of_eq_of_lt (congrArg List.length lane) room) ?_ _ _
      exact calm.imp (fun none q ne => (forward q).trans (none q ne)) fun many => le_of_le_of_eq many (congrArg forwardedCount lane.symm)
    · rw [State.refuseHead_waits]
      · refine State.serveRequests_idle (.inl ?_)
        rw [State.port_modPort_same]
        exact Option.some_ne_none _
      · refine waits.imp (fun full => le_of_le_of_eq full (congrArg List.length lane.symm)) fun ⟨⟨q, ne, wants⟩, few⟩ => ?_
        exact ⟨isUp.trans up, ⟨q, ne, (forward q).trans wants⟩, lt_of_eq_of_lt (congrArg forwardedCount lane) few⟩

end Sys2Proof.Machine
end

section
/-! The proofs about answer frames: matched by their tag, forwarded, gathered, held or discarded (R58, R78 to R84, R95, R100). -/

namespace Sys2Proof.Machine

/-! ## A frame that enters an empty class is taken up (R41, R100) -/

/-- An answer frame has entered a class that was empty. -/
def PortState.tookAnswer (a : Answer) (x : PortState) : PortState :=
  { x with
    granted := x.granted.set .answer (x.granted.answer - 1)
    answers := [a]
    counters := { x.counters with received := x.counters.received + 1 } }

/-- An answer frame has gone through a class that was empty: its credit is owed back. -/
def PortState.passedAnswer (x : PortState) : PortState :=
  { x with
    granted := x.granted.set .answer (x.granted.answer - 1)
    owed := x.owed.set .answer (x.owed.answer + 1)
    counters := { x.counters with received := x.counters.received + 1 } }

/-- The same, and the frame counts as dropped. -/
def PortState.lostAnswer (x : PortState) : PortState :=
  { x.passedAnswer with counters := { x.passedAnswer.counters with dropped := x.counters.dropped + 1 } }

/-- An answer frame waits under its stall timer in a class that was empty. -/
def PortState.heldAnswer (a : Answer) (left : Nat) (x : PortState) : PortState := { x.tookAnswer a with answerWait := some left }

theorem State.takeUpAnswer_last {s : State} {p : Port} {a : Answer} (head : (s.port p).answers = [a]) :
    (s.takeUpAnswer p a).serveAnswers p = s.takeUpAnswer p a := by
  refine State.serveAnswers_idle ?_
  rcases AnswerHeadDone.takeUpAnswer p a s with waits | ⟨_, left⟩
  · exact .inl waits
  · exact .inr (by rw [left, head]; rfl)

theorem State.frameArrives_answer {s : State} {p : Port} {bytes : List Byte} {most : Nat} {a : Answer}
    (up : (s.port p).link = .up most) (credit : 0 < (s.port p).granted.answer) (intact : frameCheckOk bytes = true)
    (parsed : parseFrame .answer most bytes = some (.answer a)) (empty : (s.port p).answers = [])
    (idle : (s.port p).answerWait = none) :
    s.frameArrives p .answer bytes = (s.modPort p (PortState.tookAnswer a)).takeUpAnswer p a := by
  have enters : (s.modPort p fun x => (x.useGranted .answer).accept (.answer a)) = s.modPort p (PortState.tookAnswer a) := by
    refine State.modPort_congr p s ?_
    unfold PortState.accept PortState.useGranted PortState.count PortState.tookAnswer
    dsimp only
    rw [empty]
    rfl
  have port := State.port_modPort_same p (PortState.tookAnswer a) s
  rw [State.frameArrives_accepted (c := .answer) up credit intact parsed, enters]
  refine (State.serveAnswers_cons (rest := []) ?_ ?_).trans (State.takeUpAnswer_last ?_)
  · rw [port]
    exact idle
  · rw [port]
    rfl
  · rw [port]
    rfl

/-- An answer head with its SPOILED latched, if it is spoiled (R44, R147). -/
def State.answerMarked (p : Port) (a : Answer) (s : State) : State :=
  if a.spoiled then s.detect (.link p) .spoiled (.answer a.tag a.payload.length none true) else s

section Marked

variable (p : Port) (a : Answer) (s : State)

theorem State.takeUpAnswer_eq : s.takeUpAnswer p a = (s.answerMarked p a).matchAnswer p a := by
  unfold State.takeUpAnswer State.answerMarked
  split
  case isTrue spoiled =>
    have subject : a.subject .free = .answer a.tag a.payload.length none true := by
      rw [← spoiled]
      rfl
    rw [subject]
  case isFalse => rfl

@[simp] theorem State.answerMarked_port (q : Port) : (s.answerMarked p a).port q = s.port q := by
  unfold State.answerMarked
  split
  · exact State.detect_port _ _ _ s q
  · rfl

@[simp] theorem State.answerMarked_stallLimit : (s.answerMarked p a).stallLimit = s.stallLimit := by
  unfold State.answerMarked
  split
  · exact State.detect_stallLimit _ _ _ s
  · rfl

@[simp] theorem State.answerMarked_hostFetch : (s.answerMarked p a).hostFetch = s.hostFetch := by
  unfold State.answerMarked
  split
  · exact State.detect_hostFetch _ _ _ s
  · rfl

@[simp] theorem State.answerMarked_exchange : (s.answerMarked p a).exchange = s.exchange := by
  unfold State.answerMarked
  split
  · exact State.detect_exchange _ _ _ s
  · rfl

@[simp] theorem State.answerMarked_entry (i : RouterTag) : (s.answerMarked p a).entry i = s.entry i :=
  congrArg (fun e : ExchangeTable => e.entries[i]) (s.answerMarked_exchange p a)

theorem State.answerMarked_modPort (q : Port) (f : PortState → PortState) :
    (s.modPort q f).answerMarked p a = (s.answerMarked p a).modPort q f := by
  unfold State.answerMarked
  split
  · exact State.detect_modPort _ _ _ q f s
  · rfl

/-- The head is matched once its SPOILED is latched. -/
theorem State.arrived_answer :
    (s.modPort p (PortState.tookAnswer a)).takeUpAnswer p a
      = ((s.answerMarked p a).modPort p (PortState.tookAnswer a)).matchAnswer p a := by
  rw [State.takeUpAnswer_eq, State.answerMarked_modPort]

end Marked

/-! ## Matched by its tag (R78 to R82) -/

theorem State.matchAnswer_none {s : State} {a : Answer} (h : 64 ≤ a.tag.toNat) (p : Port) :
    s.matchAnswer p a
      = (s.detect (.link p) .strayAnswer (.answer a.tag a.payload.length none a.spoiled)).dropAnswer p := by
  have none : s.lookup a.tag = none := dif_neg (Nat.not_lt.mpr h)
  have subject : s.answerSubject a = .answer a.tag a.payload.length .none a.spoiled := by
    unfold State.answerSubject
    rw [none]
    rfl
  unfold State.matchAnswer
  rw [none, subject]

/-- An answer from a port that is not its exchange's destination is a stray one. -/
theorem State.matchAnswer_elsewhere {s : State} {p : Port} {a : Answer} {i : RouterTag} {x : Exchange} (named : i.val = a.tag.toNat)
    (h : (s.entry i).exchange? = some x) (other : x.dest ≠ p) :
    s.matchAnswer p a
      = (s.detect (.link p) .strayAnswer (.answer a.tag a.payload.length x.origin.tag? a.spoiled)).dropAnswer p := by
  unfold State.matchAnswer
  rw [State.lookup_of_val named, State.answerSubject_of_val named]
  cases e : s.entry i with
  | free =>
    rw [e] at h
    cases h
  | opened y issue d =>
    rw [e] at h
    cases h
    exact if_neg other
  | orphan y issue d =>
    rw [e] at h
    cases h
    exact if_neg other
  | quarantine y c l =>
    rw [e] at h
    cases h
    exact if_neg other

/-! ## What a change of the ingress class leaves to be done after it -/

/-- A change of a port that a withdrawal from its request lane does not meet. -/
def PortState.Apart (f : PortState → PortState) : Prop :=
  ∀ (i : RouterTag) (y : PortState), (f y).withdrawFetch i = f (y.withdrawFetch i)

theorem PortState.popAnswer_apart : PortState.Apart PortState.popAnswer := fun i y => by
  simp only [PortState.popAnswer_eq, PortState.withdrawFetch_eq]

theorem State.withdrawQueued_modPort {f : PortState → PortState} (apart : PortState.Apart f) (p : Port) (i : RouterTag) (x : Exchange)
    (issue : Issue) (s : State) : (s.modPort p f).withdrawQueued i x issue = (s.withdrawQueued i x issue).modPort p f := by
  cases issue with
  | sent => rfl
  | queued =>
    have here : ∀ t : State, t.withdrawQueued i x .queued = t.modPort x.dest (PortState.withdrawFetch i) := fun _ => rfl
    rw [here, here]
    by_cases same : p = x.dest
    · rw [← same, State.modPort_modPort_same, State.modPort_modPort_same]
      exact State.modPort_congr p s (apart i (s.port p))
    · exact State.modPort_comm f (PortState.withdrawFetch i) s same

theorem State.noteForwarded_modPort {f : PortState → PortState} (apart : PortState.Apart f) (p : Port) (i : RouterTag) (x : Exchange)
    (issue : Issue) (d : Nat) (a : Answer) (s : State) :
    (s.modPort p f).noteForwarded i x issue d a = (s.noteForwarded i x issue d a).modPort p f := by
  unfold State.noteForwarded State.freeEntry
  split
  · rw [State.withdrawQueued_modPort apart]
    rfl
  · rfl

/-! ## The head of a class that was empty leaves it -/

section Arrived

variable {p : Port} {s t : State} (up : s.isUp p = true) (empty : (s.port p).answers = []) (idle : (s.port p).answerWait = none)
  (a : Answer) (same : t.port p = s.port p)

include up empty idle

theorem PortState.popAnswer_tookAnswer : ((s.port p).tookAnswer a).popAnswer = (s.port p).passedAnswer := by
  have link : (s.port p).link.isUp = true := up
  rw [PortState.popAnswer_eq]
  simp only [PortState.tookAnswer, PortState.passedAnswer, link, if_true, List.tail_cons, ← empty, ← idle]

include same

theorem State.popAnswer_tookAnswer :
    (t.modPort p (PortState.tookAnswer a)).modPort p PortState.popAnswer = t.modPort p PortState.passedAnswer := by
  rw [State.modPort_modPort_same]
  refine State.modPort_congr p t ?_
  rw [same, PortState.popAnswer_tookAnswer up empty idle a]

theorem State.popAnswer_heldAnswer (left : Nat) :
    (t.modPort p (PortState.heldAnswer a left)).modPort p PortState.popAnswer = t.modPort p PortState.passedAnswer := by
  rw [State.modPort_modPort_same]
  refine State.modPort_congr p t ?_
  rw [same]
  exact PortState.popAnswer_tookAnswer up empty idle a

theorem State.dropAnswer_tookAnswer :
    (t.modPort p (PortState.tookAnswer a)).dropAnswer p = t.modPort p PortState.lostAnswer := by
  unfold State.dropAnswer
  rw [State.modPort_modPort_same]
  refine State.modPort_congr p t ?_
  rw [same, PortState.popAnswer_tookAnswer up empty idle a]
  rfl

end Arrived

/-! ## An answer head that must wait for a lane (R82, R108, R109) -/

/-- The answer waits to be forwarded to the answer lane of `o`. -/
structure State.Forwards (s : State) (p o : Port) (a : Answer) (i : RouterTag) (x : Exchange) (issue : Issue) (d : Nat) (tag : Byte) :
    Prop where
  wait : (s.port p).answerWait ≠ none
  head : (s.port p).answers.head? = some a
  named : i.val = a.tag.toNat
  entry : s.entry i = .opened x issue d
  origin : x.origin = .link o tag

section Forwarded

variable {s : State} {p o : Port} {a : Answer} {i : RouterTag} {x : Exchange} {issue : Issue} {d : Nat} {tag : Byte}

theorem State.Forwards.awaitedMatch (h : s.Forwards p o a i x issue d tag) : s.awaitedMatch p = some (a, i, x, issue, d) := by
  obtain ⟨left, hw⟩ := Option.ne_none_iff_exists'.mp h.wait
  obtain ⟨rest, hr⟩ := List.head?_eq_some_iff.mp h.head
  unfold State.awaitedMatch
  rw [hw, hr]
  dsimp only
  rw [State.lookup_of_val h.named, h.entry]

theorem State.Forwards.wants (h : s.Forwards p o a i x issue d tag) : s.wantsForward p o = true := by
  unfold State.wantsForward
  rw [h.awaitedMatch]
  dsimp only
  rw [h.origin]
  exact beq_self_eq_true _

/-- Granted its lane, the answer is forwarded with its origin tag restored (R82). -/
theorem State.Forwards.granted (h : s.Forwards p o a i x issue d tag) :
    s.grantForward p o
      = (((s.modPort o (PortState.pushAnswer ⟨{ a with tag := tag }, false⟩)).noteForwarded i x issue d a).modPort p
          PortState.popAnswer).setPointer o .answer (.link p) := by
  unfold State.grantForward
  rw [h.awaitedMatch]
  dsimp only
  rw [h.origin]
  exact if_pos rfl

/-- With room, and no rival for it, the answer is forwarded at once. -/
theorem State.Forwards.offered (h : s.Forwards p o a i x issue d tag) (other : o ≠ p) (room : (s.port o).forwardedRoom = true)
    (sole : ∀ q, q ≠ p → s.wantsForward q o = false) (slot : s.wantsAnswerSlot o = false) :
    s.offerAnswerLane o (.link p) = s.grantForward p o := by
  have alone : s.candidates o .answer = [.link p] := by
    refine State.candidates_sole ?_ fun r hr => ?_
    · rw [State.isCandidate_answer, h.wants, room, Bool.and_self, Bool.or_true]
    · cases r with
      | m => rfl
      | link q => rw [State.isCandidate_answer, slot, sole q fun e => hr (e ▸ rfl), Bool.and_false, Bool.false_and, Bool.false_and,
          Bool.or_self]
  exact (if_pos alone).trans (if_neg fun k => other k.1.symm)

/-- A lane with six forwarded answers takes none. -/
theorem State.offerAnswerLane_full (other : o ≠ p) (many : ¬forwardedCount (s.port o).answerLane < 6) :
    s.offerAnswerLane o (.link p) = s := by
  refine if_neg fun k => ?_
  have candidate : Origin.link p ∈ s.candidates o .answer := k ▸ List.mem_singleton_self _
  have here := (List.mem_filter.mp candidate).2
  have full : (s.port o).forwardedRoom = false := Bool.eq_false_iff.mpr fun k => many ((PortState.forwardedRoom_iff _).mp k).2
  rw [State.isCandidate_answer_other other.symm, full, Bool.and_false] at here
  cases here

/-- Without room in the lane, or with a rival for it, the answer waits. -/
theorem State.offerAnswerLane_holds (other : o ≠ p)
    (h : 8 ≤ (s.port o).answerLane.length ∨ 6 ≤ forwardedCount (s.port o).answerLane
      ∨ (∃ q, q ≠ p ∧ s.wantsForward q o = true) ∨ s.wantsAnswerSlot o = true) : s.offerAnswerLane o (.link p) = s := by
  cases made : (s.port o).routerMadeRoom with
  | false => exact State.offerAnswerLane_waits (.inl made)
  | true =>
    have short : ¬8 ≤ (s.port o).answerLane.length := Nat.not_le.mpr ((PortState.routerMadeRoom_iff _).mp made).2
    rcases h.resolve_left short with many | ⟨q, ne, wants⟩ | slot
    · exact State.offerAnswerLane_full other (Nat.not_lt.mpr many)
    · by_cases few : forwardedCount (s.port o).answerLane < 6
      · refine State.offerAnswerLane_waits (.inr ⟨.link q, fun e => ne (Origin.link.inj e), ?_⟩)
        rw [State.isCandidate_answer, wants, (PortState.forwardedRoom_iff _).mpr ⟨made, few⟩, Bool.and_self, Bool.or_true]
      · exact State.offerAnswerLane_full other few
    · exact State.offerAnswerLane_waits
        (.inr ⟨.link o, fun e => other (Origin.link.inj e), State.isCandidate_answer_self slot made⟩)

end Forwarded

/-! ## The answer of an OPEN exchange (R81, R82, R95) -/

theorem State.matchOpen_forwards {s : State} {p o : Port} {a : Answer} {i : RouterTag} {x : Exchange} {tag : Byte} {most : Nat}
    (fits : x.answered + a.payload.length ≤ x.len) (origin : x.origin = .link o tag) (up : (s.port o).link = .up most)
    (small : a.payload.length ≤ most) (issue : Issue) (d : Nat) :
    s.matchOpen p a i x issue d
      = (s.modPort p fun y => { y with answerWait := some (y.answerWait.getD s.stallLimit.value) }).offerAnswerLane o (.link p) := by
  have within : (s.port o).link.effectiveMax.any (· < a.payload.length) = false := by
    rw [up]
    exact decide_eq_false (Nat.not_lt.mpr small)
  unfold State.matchOpen
  dsimp only
  rw [if_neg fun k => Nat.not_lt.mpr fits k.2, origin]
  exact if_neg fun k => Bool.eq_false_iff.mp within k.2

theorem State.matchOpen_gathers {s : State} {p : Port} {a : Answer} {i : RouterTag} {x : Exchange} {issue : Issue} {d : Nat}
    (fits : x.answered + a.payload.length ≤ x.len) (origin : x.origin = .host) :
    s.matchOpen p a i x issue d
      = State.modPort p PortState.popAnswer
          { s.noteForwarded i x issue d a with
            hostFetch :=
              if a.final then ((s.noteForwarded i x issue d a).hostFetch.append a.payload).finish a.status
              else (s.noteForwarded i x issue d a).hostFetch.append a.payload } := by
  unfold State.matchOpen
  dsimp only
  rw [if_neg fun k => Nat.not_lt.mpr fits k.2, origin]

theorem State.noteForwarded_hostFetch (i : RouterTag) (x : Exchange) (issue : Issue) (d : Nat) (a : Answer) (s : State) :
    (s.noteForwarded i x issue d a).hostFetch = s.hostFetch := by
  unfold State.noteForwarded State.freeEntry
  split
  · cases issue <;> rfl
  · rfl

theorem State.modPort_withHostFetch (p : Port) (f : PortState → PortState) (h : HostFetch) (s : State) :
    State.modPort p f { s with hostFetch := h } = { s.modPort p f with hostFetch := h } := rfl

/-- Settles O26: the entry its tag names decides an answer that enters an empty class; behind a waiting head it waits. -/
theorem answerFrameMatched : Obligations.AnswerFrameMatched := by
  refine ⟨fun p bytes a most s link credit intact parsed empty idle => ?_,
    fun p bytes a head behind left most s link credit intact parsed queue wait => happens_of_event rfl ?_⟩
  · have up := State.isUp_of_link link
    have arrives := (State.frameArrives_answer link credit intact parsed empty idle).trans (State.arrived_answer p a s)
    have marked := s.answerMarked_port p a
    have entry : ∀ i, ((s.answerMarked p a).modPort p (PortState.tookAnswer a)).entry i = s.entry i := fun i =>
      (State.entry_modPort _ _ _ i).trans (s.answerMarked_entry p a i)
    have discarded : ∀ (c : Condition) (x : Subject),
        (((s.answerMarked p a).modPort p (PortState.tookAnswer a)).detect (.link p) c x).dropAnswer p
          = ((s.answerMarked p a).detect (.link p) c x).modPort p PortState.lostAnswer := fun c x => by
      rw [State.detect_modPort]
      exact State.dropAnswer_tookAnswer up empty idle a ((State.detect_port _ _ _ _ p).trans (marked p))
    have ended : ∀ {i} (x : Exchange) (issue : Issue) (d : Nat), s.entry i = .opened x issue d → ∀ (c : Condition) (cause : EndCause)
        (y : Subject), (((s.answerMarked p a).detect (.link p) c y).modPort p PortState.lostAnswer).endEntry i cause true
          = State.setEntry i
              (if s.exchange.timers.value.quarantine = 0 then .free else .quarantine x cause s.exchange.timers.value.quarantine)
              (((((s.answerMarked p a).detect (.link p) c y).modPort p PortState.lostAnswer).tellEnd cause x.origin).withdrawQueued i x
                issue) := fun {i} x issue d hx c cause y => by
      have still : (((s.answerMarked p a).detect (.link p) c y).modPort p PortState.lostAnswer).entry i = .opened x issue d :=
        (State.entry_modPort _ _ _ i).trans ((State.detect_entry _ _ _ _ i).trans ((s.answerMarked_entry p a i).trans hx))
      rw [State.endEntry_opened still, State.modPort_exchange, State.detect_exchange, State.answerMarked_exchange]
    have links : ∀ q, (((s.answerMarked p a).modPort p (PortState.tookAnswer a)).port q).link = (s.port q).link := fun q => by
      rw [State.port_modPort, ← marked q]
      split
      case isTrue same =>
        rw [same]
        rfl
      case isFalse => rfl
    refine ⟨fun none => happens_of_event rfl (arrives.trans ?_), fun i named => ⟨fun free => happens_of_event rfl (arrives.trans ?_),
      fun x hx other => happens_of_event rfl (arrives.trans ?_), fun x c l hx hd => happens_of_event rfl (arrives.trans ?_),
      fun x issue d hx hd => happens_of_event rfl (arrives.trans ?_),
      fun x issue d hx hd good more => happens_of_event rfl (arrives.trans ?_),
      fun x issue d o tag room hx hd good fits origin target big => happens_of_event rfl (arrives.trans ?_),
      fun x issue d o tag room hx hd origin other fits target small => ?_,
      fun x issue d n data hx hd origin gathering fits => happens_of_event rfl (arrives.trans ?_)⟩⟩
    · rw [State.matchAnswer_none none, discarded]
      rfl
    · rw [State.matchAnswer_free named ((entry i).trans free), discarded]
      rfl
    · rw [State.matchAnswer_elsewhere named ((congrArg Entry.exchange? (entry i)).trans hx) other, discarded]
      rfl
    · subst hd
      rw [State.matchAnswer_quarantine named ((entry i).trans hx), discarded]
      rfl
    · subst hd
      rw [State.matchAnswer_orphan named ((entry i).trans hx), State.dropAnswer_tookAnswer up empty idle a (marked _)]
      rfl
    · subst hd
      rw [State.matchAnswer_opened named ((entry i).trans hx), State.matchOpen_overrun good more,
        State.answerSubject_of_val named, entry, hx, discarded]
      exact ended _ _ _ hx _ _ _
    · subst hd
      rw [State.matchAnswer_opened named ((entry i).trans hx),
        State.matchOpen_oversize good fits origin ((links o).trans target) big, State.answerSubject_of_val named, entry, hx, discarded]
      exact ended _ _ _ hx _ _ _
    · subst hd
      have here : (s.answerMarked x.dest a).modPort x.dest (PortState.heldAnswer a s.stallLimit.value)
          = ((s.answerMarked x.dest a).modPort x.dest (PortState.tookAnswer a)).modPort x.dest fun y =>
            { y with answerWait := some (y.answerWait.getD s.stallLimit.value) } := by
        rw [State.modPort_modPort_same]
        refine State.modPort_congr x.dest _ ?_
        rw [marked]
        unfold PortState.heldAnswer PortState.tookAnswer
        dsimp only
        rw [idle]
        rfl
      have matched : ((s.answerMarked x.dest a).modPort x.dest (PortState.tookAnswer a)).matchAnswer x.dest a
          = ((s.answerMarked x.dest a).modPort x.dest (PortState.heldAnswer a s.stallLimit.value)).offerAnswerLane o
              (.link x.dest) := by
        rw [State.matchAnswer_opened named ((entry i).trans hx), State.matchOpen_forwards fits origin ((links o).trans target) small,
          State.modPort_stallLimit, State.answerMarked_stallLimit, ← here]
      have port : ∀ q, q ≠ x.dest → ((s.answerMarked x.dest a).modPort x.dest (PortState.heldAnswer a s.stallLimit.value)).port q
          = s.port q := fun q ne => (State.port_modPort_ne _ _ ne).trans (marked q)
      have forward : ∀ q, q ≠ x.dest → ((s.answerMarked x.dest a).modPort x.dest
          (PortState.heldAnswer a s.stallLimit.value)).wantsForward q o = s.wantsForward q o := fun q ne =>
        State.wantsForward_congr (.of_port (port q ne)) (fun i => (State.entry_modPort _ _ _ i).trans (s.answerMarked_entry _ a i)) o
      have slots : ((s.answerMarked x.dest a).modPort x.dest (PortState.heldAnswer a s.stallLimit.value)).wantsAnswerSlot o
          = s.wantsAnswerSlot o := by
        unfold State.wantsAnswerSlot
        rw [port o other]
      have forwards : ((s.answerMarked x.dest a).modPort x.dest (PortState.heldAnswer a s.stallLimit.value)).Forwards x.dest o a i x
          issue d tag := by
        have held := State.port_modPort_same x.dest (PortState.heldAnswer a s.stallLimit.value) (s.answerMarked x.dest a)
        refine ⟨?_, ?_, named, (State.entry_modPort _ _ _ i).trans ((s.answerMarked_entry _ a i).trans hx), origin⟩
        · rw [held]
          exact Option.some_ne_none _
        · rw [held]
          rfl
      refine ⟨fun short few calm slot => happens_of_event rfl (arrives.trans (matched.trans ?_)),
        fun waits => happens_of_event rfl (arrives.trans (matched.trans ?_))⟩
      · have room := (PortState.forwardedRoom_iff (s.port o)).mpr
          ⟨(PortState.routerMadeRoom_iff _).mpr ⟨State.isUp_of_link target, short⟩, few⟩
        rw [forwards.offered other ((congrArg PortState.forwardedRoom (port o other)).trans room)
          (fun q ne => (forward q ne).trans (calm q)) (slots.trans slot), forwards.granted,
          ← State.noteForwarded_modPort PortState.popAnswer_apart, State.modPort_comm _ _ _ other,
          State.popAnswer_heldAnswer up empty idle a (marked _)]
        rfl
      · refine State.offerAnswerLane_holds other ?_
        rw [port o other, slots]
        exact waits.imp_right (Or.imp_right (Or.imp_left fun ⟨q, ne, wants⟩ => ⟨q, ne, (forward q ne).trans wants⟩))
    · subst hd
      have buffer : ((s.answerMarked x.dest a).modPort x.dest (PortState.tookAnswer a)).hostFetch = .gathering i n data :=
        (s.answerMarked_hostFetch _ a).trans gathering
      rw [State.matchAnswer_opened named ((entry i).trans hx), State.matchOpen_gathers fits origin, State.noteForwarded_hostFetch, buffer]
      have popped : (((s.answerMarked x.dest a).modPort x.dest (PortState.tookAnswer a)).noteForwarded i x issue d a).modPort x.dest
          PortState.popAnswer = ((s.answerMarked x.dest a).modPort x.dest PortState.passedAnswer).noteForwarded i x issue d a := by
        rw [← State.noteForwarded_modPort PortState.popAnswer_apart, State.popAnswer_tookAnswer up empty idle a (marked _)]
      refine (State.modPort_withHostFetch _ _ _ _).trans ?_
      rw [popped]
      rfl
  · rw [State.frameArrives_accepted (c := .answer) link credit intact parsed]
    refine (State.serveAnswers_idle (.inl ?_)).trans (State.modPort_congr p s ?_)
    · rw [State.port_modPort_same]
      exact fun k => Option.some_ne_none left (wait.symm.trans k)
    · unfold PortState.accept PortState.count PortState.useGranted
      dsimp only
      rw [queue]
      rfl

end Sys2Proof.Machine
end

section
/-! The proofs about frames that begin to be sent, and about stall timers (R65, R77, R90, R106, R107, R112). -/

namespace Sys2Proof.Machine

/-! ## Sending (R106, R107) -/

theorem PortState.freeToSend_iff (x : PortState) :
    x.freeToSend = true ↔ x.link.isUp = true ∧ x.sending = none ∧ x.owed.request = 0 ∧ x.owed.answer = 0 := by
  unfold PortState.freeToSend
  simp [and_assoc]

section Transmit

variable {s : State} {p : Port}

theorem State.transmit_busy (h : (s.port p).freeToSend = false) : s.transmit p = s := if_neg (Bool.eq_false_iff.mp h)

theorem State.transmit_idle (answers : (s.port p).answerLane = [] ∨ (s.port p).partner.answer = 0)
    (requests : (s.port p).requestLane = [] ∨ (s.port p).partner.request = 0) : s.transmit p = s := by
  have noCredit : ∀ {n : Nat}, n = 0 → ¬0 < n := fun h k => Nat.ne_of_gt k h
  unfold State.transmit
  dsimp only
  split
  case isFalse => rfl
  case isTrue =>
    cases ha : (s.port p).answerLane with
    | nil =>
      cases hr : (s.port p).requestLane with
      | nil => rfl
      | cons r rs => exact if_neg (noCredit (requests.resolve_left fun k => List.cons_ne_nil r rs (hr.symm.trans k)))
    | cons a as =>
      dsimp only
      rw [if_neg (noCredit (answers.resolve_left fun k => List.cons_ne_nil a as (ha.symm.trans k)))]
      cases hr : (s.port p).requestLane with
      | nil => rfl
      | cons r rs => exact if_neg (noCredit (requests.resolve_left fun k => List.cons_ne_nil r rs (hr.symm.trans k)))

/-- The answer lane goes first. -/
theorem State.transmit_answer (free : (s.port p).freeToSend = true) {a : LaneAnswer} {rest : List LaneAnswer}
    (lane : (s.port p).answerLane = a :: rest) (credit : 0 < (s.port p).partner.answer) : s.transmit p = s.sendAnswer p a rest := by
  unfold State.transmit
  dsimp only
  rw [if_pos free, lane]
  exact if_pos credit

theorem State.transmit_request (free : (s.port p).freeToSend = true)
    (answers : (s.port p).answerLane = [] ∨ (s.port p).partner.answer = 0) {r : LaneRequest} {rest : List LaneRequest}
    (lane : (s.port p).requestLane = r :: rest) (credit : 0 < (s.port p).partner.request) :
    s.transmit p = s.sendRequest p r rest := by
  unfold State.transmit
  dsimp only
  rw [if_pos free, lane]
  cases ha : (s.port p).answerLane with
  | nil => exact if_pos credit
  | cons a as =>
    have none : (s.port p).partner.answer = 0 := answers.resolve_left fun k => List.cons_ne_nil a as (ha.symm.trans k)
    dsimp only
    rw [if_neg fun k => Nat.ne_of_gt k none, if_pos credit]

theorem State.sendAnswer_eq (a : LaneAnswer) (rest : List LaneAnswer) :
    s.sendAnswer p a rest
      = s.modPort p fun x =>
        { x with
          answerLane := rest
          sending := some (.answer a.answer)
          partner := { x.partner with answer := x.partner.answer - 1 }
          counters :=
            { x.counters with
              sent := x.counters.sent + 1
              routerMade := if a.routerMade then x.counters.routerMade + 1 else x.counters.routerMade } } := by
  unfold State.sendAnswer
  split <;> rfl

end Transmit

/-- Settles O28: the answer lane first, each lane as its credit allows; a FETCH sent is SENT. -/
theorem transmitChoosesAnswersFirst : Obligations.TransmitChoosesAnswersFirst := by
  refine ⟨PortState.freeToSend_iff, fun p s h => happens_of_event (f := State.transmit p) rfl ?_,
    fun p s free => ⟨fun a rest lane credit => happens_of_event (f := State.transmit p) rfl ?_, fun answers r rest lane credit => ?_⟩⟩
  · rcases h with busy | ⟨answers, requests⟩
    · exact State.transmit_busy busy
    · exact State.transmit_idle answers requests
  · rw [State.transmit_answer free lane credit, State.sendAnswer_eq]
  · have sends := State.transmit_request free answers lane credit
    have entry : ∀ i f, (s.modPort p f).entry i = s.entry i := fun i f => State.entry_modPort p f s i
    refine ⟨fun a b sp e => happens_of_event (f := State.transmit p) rfl (sends.trans ?_),
      fun t f c b sp e => happens_of_event (f := State.transmit p) rfl (sends.trans ?_),
      fun a n i sp x issue d e hx => happens_of_event (f := State.transmit p) rfl (sends.trans ?_),
      fun a n i sp x issue d e hx => happens_of_event (f := State.transmit p) rfl (sends.trans ?_)⟩
    · unfold State.sendRequest
      rw [e]
      rfl
    · unfold State.sendRequest
      rw [e]
      rfl
    · unfold State.sendRequest
      rw [e]
      dsimp only
      rw [entry, hx]
      rfl
    · unfold State.sendRequest
      rw [e]
      dsimp only
      rw [entry, hx]
      rfl

/-! ## Stall timers (R65, R90, R112) -/

theorem State.hostHead_waiting {s : State} {c : Message} {r : Request Unit} {d : Port} {left : Nat}
    (h : s.management.running = some ⟨c, .awaitLane r d left⟩) : s.hostHead = some (r, d, left) := by
  unfold State.hostHead
  rw [h]

theorem State.head_of_awaitedMatch {s : State} {p : Port} {a : Answer} {i : RouterTag} {x : Exchange} {issue : Issue} {d : Nat}
    (h : s.awaitedMatch p = some (a, i, x, issue, d)) : ∃ rest, (s.port p).answers = a :: rest := by
  unfold State.awaitedMatch at h
  split at h
  case h_1 left b rest wait head =>
    split at h
    case h_1 => exact ⟨rest, by rw [head]; cases h; rfl⟩
    case h_2 => cases h
  case h_2 => cases h

/-- Settles O30: each timer drops its head. -/
theorem stallDropsTheHead : Obligations.StallDropsTheHead := by
  refine ⟨fun p s w r rest wait head => happens_of_event (f := State.stall (.ingress p .request)) rfl ?_,
    fun p s left a i x issue d wait matched => happens_of_event (f := State.stall (.ingress p .answer)) rfl ?_,
    fun s c h p left running => ?_⟩
  · unfold State.stall State.stallRequest
    dsimp only
    rw [wait, head]
  · obtain ⟨rest, head⟩ := State.head_of_awaitedMatch matched
    unfold State.stall State.stallAnswer
    dsimp only
    rw [wait, head, matched]
  · have stalls : s.stall .m = ((s.elapse left).detect .m .stallDrop h.hostSubject).conclude (.answer .stalled) .empty := by
      unfold State.stall State.stallHost
      rw [State.hostHead_waiting running]
    have elapsed : (s.elapse left).management.running = some ⟨c, .awaitLane h p (left - left)⟩ := by
      show (s.management.elapse left).running = _
      unfold ManagementLink.elapse
      rw [running]
      rfl
    have still : ((s.elapse left).detect .m .stallDrop h.hostSubject).management = (s.elapse left).management :=
      State.detect_management _ _ _ _
    have concludes : s.stall .m
        = ((s.elapse left).detect .m .stallDrop h.hostSubject).offerResponse c (c.response (.answer .stalled) .empty) := by
      rw [stalls]
      unfold State.conclude
      rw [still, elapsed]
    have may : ((s.elapse left).detect .m .stallDrop h.hostSubject).management.mayEnter .response = s.management.mayEnter .response := by
      rw [still, State.elapse_mayEnter]
    refine ⟨fun place => happens_of_event' (f := State.stall .m) rfl ⟨(s.elapse left).management.without .response, ?_⟩,
      fun full => happens_of_event (f := State.stall .m) rfl ?_⟩
    · rw [concludes, State.offerResponse_enters c _ (may.trans place)]
      unfold State.enterResponse
      rw [still]
      rfl
    · rw [concludes, State.offerResponse_waits c _ (may.trans full), still]

end Sys2Proof.Machine
end

section
/-! What stands behind the head of an ingress class takes no part when the head is taken up (R41, R57): taking it up and then putting
the rest behind it comes to the same as taking it up with the rest behind it. -/

namespace Sys2Proof.Machine

/-! ## What an arbiter reads (R108, R109) -/

/-- The two states hold the same candidates for every lane. -/
structure SameArbiters (s t : State) : Prop where
  wait : ∀ q, (t.port q).requestWait = (s.port q).requestWait
  matched : ∀ q, t.awaitedMatch q = s.awaitedMatch q
  link : ∀ q, (t.port q).link = (s.port q).link
  requestLane : ∀ q, (t.port q).requestLane = (s.port q).requestLane
  answerLane : ∀ q, (t.port q).answerLane = (s.port q).answerLane
  pointer : ∀ q, (t.port q).pointer = (s.port q).pointer
  management : t.management = s.management

section Arbiters

variable {s t : State} (h : SameArbiters s t)

include h

theorem SameArbiters.routerMadeRoom (d : Port) : (t.port d).routerMadeRoom = (s.port d).routerMadeRoom := by
  unfold PortState.routerMadeRoom
  rw [h.link, h.answerLane]

theorem SameArbiters.forwardedRoom (d : Port) : (t.port d).forwardedRoom = (s.port d).forwardedRoom := by
  unfold PortState.forwardedRoom
  rw [h.routerMadeRoom, h.answerLane]

theorem SameArbiters.requestRoom (d : Port) : (t.port d).requestRoom = (s.port d).requestRoom := by
  unfold PortState.requestRoom
  rw [h.link, h.requestLane]

theorem SameArbiters.wantsRequestLane (d : Port) (o : Origin) : t.wantsRequestLane d o = s.wantsRequestLane d o := by
  unfold State.wantsRequestLane
  cases o with
  | link q =>
    dsimp only
    rw [h.wait]
  | m =>
    dsimp only
    rw [State.hostHead_congr h.management]

theorem SameArbiters.wantsAnswerSlot (p : Port) : t.wantsAnswerSlot p = s.wantsAnswerSlot p := by
  unfold State.wantsAnswerSlot
  rw [h.wait]

theorem SameArbiters.wantsForward (p o : Port) : t.wantsForward p o = s.wantsForward p o := by
  unfold State.wantsForward
  rw [h.matched]

theorem SameArbiters.isCandidate (d : Port) (c : FrameClass) (o : Origin) : t.isCandidate d c o = s.isCandidate d c o := by
  cases c with
  | request => rw [State.isCandidate_request, State.isCandidate_request, h.wantsRequestLane, h.requestRoom]
  | answer =>
    cases o with
    | m => rfl
    | link q =>
      rw [State.isCandidate_answer, State.isCandidate_answer, h.wantsAnswerSlot, h.routerMadeRoom, h.wantsForward, h.forwardedRoom]

theorem SameArbiters.candidates (d : Port) (c : FrameClass) : t.candidates d c = s.candidates d c := by
  unfold State.candidates
  rw [h.pointer]
  exact List.filter_congr fun o _ => h.isCandidate d c o

end Arbiters

theorem State.awaitedMatch_congr {s t : State} {q : Port} (wait : (t.port q).answerWait = (s.port q).answerWait)
    (head : (t.port q).answers.head? = (s.port q).answers.head?) (entries : ∀ i, t.entry i = s.entry i) :
    t.awaitedMatch q = s.awaitedMatch q := by
  have lookup : ∀ tag, t.lookup tag = s.lookup tag := fun tag => by
    unfold State.lookup
    split
    · rw [entries]
    · rfl
  unfold State.awaitedMatch
  rw [wait]
  cases ht : (t.port q).answers with
  | nil =>
    rw [ht, List.head?_nil] at head
    rw [List.head?_eq_none_iff.mp head.symm]
    cases (s.port q).answerWait <;> rfl
  | cons a rest =>
    rw [ht, List.head?_cons] at head
    obtain ⟨rest', hs⟩ := List.head?_eq_some_iff.mp head.symm
    rw [hs]
    simp only [lookup]
    cases (s.port q).answerWait <;> rfl

/-! ## Two changes of ports -/

/-- Two changes commute when they do so on the port they both meet. -/
theorem State.modPort_swap {p q : Port} {f g : PortState → PortState} {s : State}
    (h : q = p → f (g (s.port p)) = g (f (s.port p))) : (s.modPort p g).modPort q f = (s.modPort q f).modPort p g := by
  by_cases e : q = p
  · subst e
    rw [State.modPort_modPort_same, State.modPort_modPort_same]
    exact State.modPort_congr q s (h rfl)
  · exact State.modPort_comm g f s fun k => e k.symm

/-! ## Behind the head of a request class -/

/-- These frames stand behind those of the request class. -/
def PortState.behindRequests (rest : List (Request Byte)) (x : PortState) : PortState := { x with requests := x.requests ++ rest }

/-- These frames stand behind those of the answer class. -/
def PortState.behindAnswers (rest : List Answer) (x : PortState) : PortState := { x with answers := x.answers ++ rest }

section Requests

variable {p : Port} {rest : List (Request Byte)}

theorem SameArbiters.behindRequests (p : Port) (rest : List (Request Byte)) (s : State) :
    SameArbiters s (s.modPort p (PortState.behindRequests rest)) := by
  have same : ∀ q, (s.modPort p (PortState.behindRequests rest)).port q = s.port q
      ∨ (s.modPort p (PortState.behindRequests rest)).port q = (s.port q).behindRequests rest := fun q => by
    rw [State.port_modPort]
    split
    case isTrue e => exact .inr (e ▸ rfl)
    case isFalse => exact .inl rfl
  have field : ∀ {α : Type} (f : PortState → α), (∀ y, f (y.behindRequests rest) = f y) → ∀ q,
      f ((s.modPort p (PortState.behindRequests rest)).port q) = f (s.port q) := fun f hf q =>
    (same q).elim (congrArg f) fun e => (congrArg f e).trans (hf _)
  exact ⟨field _ fun _ => rfl, fun q => State.awaitedMatch_congr (field PortState.answerWait (fun _ => rfl) q)
    (field (fun y => y.answers.head?) (fun _ => rfl) q) (fun i => State.entry_modPort _ _ _ i), field _ fun _ => rfl,
    field _ fun _ => rfl, field _ fun _ => rfl, field _ fun _ => rfl, rfl⟩

theorem PortState.popRequest_behind {x : PortState} (h : x.requests ≠ []) :
    (x.behindRequests rest).popRequest = x.popRequest.behindRequests rest := by
  simp only [PortState.popRequest_eq, PortState.behindRequests, List.tail_append_of_ne_nil h]

theorem State.popRequest_behind {s : State} (h : (s.port p).requests ≠ []) :
    (s.modPort p (PortState.behindRequests rest)).modPort p PortState.popRequest
      = (s.modPort p PortState.popRequest).modPort p (PortState.behindRequests rest) :=
  State.modPort_swap fun _ => PortState.popRequest_behind h

theorem State.dropRequest_behind {s : State} (h : (s.port p).requests ≠ []) :
    (s.modPort p (PortState.behindRequests rest)).dropRequest p = (s.dropRequest p).modPort p (PortState.behindRequests rest) :=
  State.modPort_swap fun _ => congrArg (PortState.count Counters.addDropped) (PortState.popRequest_behind h)

theorem State.setPointer_behind (d : Port) (c : FrameClass) (o : Origin) (s : State) :
    (s.modPort p (PortState.behindRequests rest)).setPointer d c o
      = (s.setPointer d c o).modPort p (PortState.behindRequests rest) :=
  State.modPort_swap fun _ => rfl

theorem State.placeRequest_behind (d : Port) (o : Origin) (r : Request RouterTag) (s : State) :
    (s.modPort p (PortState.behindRequests rest)).placeRequest d o r
      = (s.placeRequest d o r).modPort p (PortState.behindRequests rest) := by
  unfold State.placeRequest
  rw [← State.setPointer_behind]
  exact congrArg (State.setPointer d .request o) (State.modPort_swap fun _ => rfl)

theorem State.grantSlot_behind {s : State} {st : AnsStatus} {left : Nat} {a : Word32} {n : Nat} {tag : Byte} {sp : Bool}
    {more : List (Request Byte)} (wait : (s.port p).requestWait = some (.answerSlot st left))
    (head : (s.port p).requests = .fetch a n tag sp :: more) :
    (s.modPort p (PortState.behindRequests rest)).grantSlot p = (s.grantSlot p).modPort p (PortState.behindRequests rest) := by
  have port := State.port_modPort_same p (PortState.behindRequests rest) s
  have waitBehind : ((s.modPort p (PortState.behindRequests rest)).port p).requestWait = some (.answerSlot st left) := by
    rw [port]
    exact wait
  have headBehind : ((s.modPort p (PortState.behindRequests rest)).port p).requests = .fetch a n tag sp :: (more ++ rest) := by
    rw [port]
    exact congrArg (· ++ rest) head
  have pushed : (s.modPort p (PortState.behindRequests rest)).modPort p (PortState.pushAnswer (routerMadeAnswer tag st))
      = (s.modPort p (PortState.pushAnswer (routerMadeAnswer tag st))).modPort p (PortState.behindRequests rest) :=
    State.modPort_swap fun _ => rfl
  have full : ((s.modPort p (PortState.pushAnswer (routerMadeAnswer tag st))).port p).requests ≠ [] := by
    rw [State.port_modPort_same]
    exact fun k => List.cons_ne_nil _ _ (head.symm.trans k)
  rw [State.grantSlot_eq waitBehind headBehind, State.grantSlot_eq wait head, pushed, State.dropRequest_behind full,
    State.setPointer_behind]

/-- Offered a slot of its own lane, a refused FETCH takes it or waits. -/
theorem State.offerAnswerLane_ownSlot {s : State} {st : AnsStatus} {left : Nat}
    (wait : (s.port p).requestWait = some (.answerSlot st left)) :
    s.offerAnswerLane p (.link p) = if s.candidates p .answer = [.link p] then s.grantSlot p else s := by
  unfold State.offerAnswerLane
  by_cases sole : s.candidates p .answer = [.link p]
  · rw [if_pos sole, if_pos sole]
    have room : (s.port p).routerMadeRoom = true := by
      by_contra full
      rw [State.candidates_none (State.isCandidate_answer_full (Bool.eq_false_iff.mpr full))] at sole
      cases sole
    exact if_pos ⟨rfl, State.wantsAnswerSlot_waiting wait, room⟩
  · rw [if_neg sole, if_neg sole]

theorem State.refuseHead_behind {s : State} {r : Request Byte} {more : List (Request Byte)} (head : (s.port p).requests = r :: more)
    (st : AnsStatus) (left : Nat) :
    (s.modPort p (PortState.behindRequests rest)).refuseHead p r st left
      = (s.refuseHead p r st left).modPort p (PortState.behindRequests rest) := by
  have full : (s.port p).requests ≠ [] := fun k => List.cons_ne_nil r more (head.symm.trans k)
  cases r with
  | store a b sp => exact State.dropRequest_behind full
  | notice t f c b sp => exact State.dropRequest_behind full
  | fetch a n tag sp =>
    have offered : ∀ u : State, u.refuseHead p (.fetch a n tag sp) st left
        = (u.modPort p (PortState.awaitsSlot st left)).offerAnswerLane p (.link p) := fun _ => rfl
    have moved : (s.modPort p (PortState.behindRequests rest)).modPort p (PortState.awaitsSlot st left)
        = (s.modPort p (PortState.awaitsSlot st left)).modPort p (PortState.behindRequests rest) := State.modPort_swap fun _ => rfl
    have port := State.port_modPort_same p (PortState.awaitsSlot st left) s
    have wait : ((s.modPort p (PortState.awaitsSlot st left)).port p).requestWait = some (.answerSlot st left) := by
      rw [port]
      rfl
    have waitBehind : (((s.modPort p (PortState.awaitsSlot st left)).modPort p (PortState.behindRequests rest)).port p).requestWait
        = some (.answerSlot st left) := by
      rw [State.port_modPort_same]
      exact wait
    rw [offered, offered, moved, State.offerAnswerLane_ownSlot waitBehind, State.offerAnswerLane_ownSlot wait,
      (SameArbiters.behindRequests p rest _).candidates]
    split
    · refine State.grantSlot_behind wait (a := a) (n := n) (tag := tag) (sp := sp) (more := more) ?_
      rw [port]
      exact head
    · rfl

theorem State.grantLink_behind {s : State} {d : Port} {left : Nat} {r : Request Byte} {more : List (Request Byte)}
    (wait : (s.port p).requestWait = some (.lane d left)) (head : (s.port p).requests = r :: more) :
    (s.modPort p (PortState.behindRequests rest)).grantLink d p = (s.grantLink d p).modPort p (PortState.behindRequests rest) := by
  have port := State.port_modPort_same p (PortState.behindRequests rest) s
  have waitBehind : ((s.modPort p (PortState.behindRequests rest)).port p).requestWait = some (.lane d left) := by
    rw [port]
    exact wait
  have headBehind : ((s.modPort p (PortState.behindRequests rest)).port p).requests = r :: (more ++ rest) := by
    rw [port]
    exact congrArg (· ++ rest) head
  have full : ∀ o q, ((s.placeRequest d o q).port p).requests ≠ [] := fun o q => by
    rw [(SameRequests.placeRequest p d o q s).1]
    exact fun k => List.cons_ne_nil r more (head.symm.trans k)
  cases r with
  | store a b sp =>
    rw [State.grantLink_store waitBehind headBehind, State.grantLink_store wait head, State.placeRequest_behind,
      State.popRequest_behind (full _ _)]
  | notice t f c b sp =>
    rw [State.grantLink_notice waitBehind headBehind, State.grantLink_notice wait head, State.placeRequest_behind,
      State.popRequest_behind (full _ _)]
  | fetch a n tag sp =>
    have same : (s.modPort p (PortState.behindRequests rest)).admission (.link p) = s.admission (.link p) :=
      State.admission_congr rfl _
    cases admission : s.admission (.link p) with
    | ok i =>
      have opened : (s.modPort p (PortState.behindRequests rest)).openEntry i (.link p tag) d a n
          = (s.openEntry i (.link p tag) d a n).modPort p (PortState.behindRequests rest) := rfl
      have stillFull : (((s.openEntry i (.link p tag) d a n).placeRequest d (.link p) (.fetch a n i sp)).port p).requests ≠ [] := by
        rw [(SameRequests.placeRequest p d _ _ _).1]
        exact fun k => List.cons_ne_nil _ more (head.symm.trans k)
      rw [State.grantLink_fetch_admitted waitBehind headBehind (same.trans admission),
        State.grantLink_fetch_admitted wait head admission, opened, State.placeRequest_behind, State.popRequest_behind stillFull]
    | error k =>
      rw [State.grantLink_fetch_refused waitBehind headBehind (same.trans admission),
        State.grantLink_fetch_refused wait head admission, State.setPointer_behind, State.detect_modPort,
        State.refuseHead_behind (more := more) ?_]
      rw [State.detect_port, (SameRequests.setPointer p d _ _ s).1]
      exact head

theorem State.inboxHead_behind {s : State} {r : Request Byte} {x : NoticeRecord} (record : r.record (.link p) = some x)
    (full : (s.port p).requests ≠ []) :
    (s.modPort p (PortState.behindRequests rest)).inboxHead p r
      = (s.inboxHead p r).modPort p (PortState.behindRequests rest) := by
  by_cases free : s.inbox.length < 16
  · have still : (s.modPort p (PortState.behindRequests rest)).inbox.length < 16 := free
    rw [State.inboxHead_room record free, State.inboxHead_room record still]
    have moved := State.latch_modPort .router .inboxArrival p (PortState.behindRequests rest) { s with inbox := s.inbox ++ [x] }
    refine (congrArg (State.modPort p PortState.popRequest) moved).trans (State.popRequest_behind ?_)
    rw [State.latch_port]
    exact full
  · have many : 16 ≤ s.inbox.length := Nat.not_lt.mp free
    have still : 16 ≤ (s.modPort p (PortState.behindRequests rest)).inbox.length := many
    rw [State.inboxHead_full record many, State.inboxHead_full record still, State.latch_modPort]
    refine State.dropRequest_behind (s := (s.latch .router .inboxOverflow).countRouter RouterCounters.addInboxDrop) ?_
    have same : ((s.latch .router .inboxOverflow).countRouter RouterCounters.addInboxDrop).port p = s.port p :=
      State.latch_port _ _ _ p
    rw [same]
    exact full

/-- The head of a request class is taken up alike whatever stands behind it. -/
theorem State.takeUpRequest_behind {s : State} {r : Request Byte} {more : List (Request Byte)} (head : (s.port p).requests = r :: more) :
    (s.modPort p (PortState.behindRequests rest)).takeUpRequest p r
      = (s.takeUpRequest p r).modPort p (PortState.behindRequests rest) := by
  have again : ∀ {v : Verdict}, s.decideHead (.link p) r = v →
      (s.modPort p (PortState.behindRequests rest)).decideHead (.link p) r = v :=
    ((SameRouting.modPort p (PortState.behindRequests rest) s rfl).decideHead (.link p) r).trans
  have full : (s.port p).requests ≠ [] := fun k => List.cons_ne_nil r more (head.symm.trans k)
  have marked := s.spoiledMarked_port p r p
  have headMarked : ∀ c x, (((s.spoiledMarked p r).detect (.link p) c x).port p).requests = r :: more := fun c x => by
    rw [State.detect_port, marked]
    exact head
  cases verdict : s.decideHead (.link p) r with
  | place d =>
    have moved : ∀ w, ((s.spoiledMarked p r).modPort p (PortState.behindRequests rest)).modPort p
        (fun x => { x with requestWait := some w })
          = ((s.spoiledMarked p r).modPort p fun x => { x with requestWait := some w }).modPort p
              (PortState.behindRequests rest) := fun w => State.modPort_swap fun _ => rfl
    rw [State.takeUpRequest_place (again verdict), State.takeUpRequest_place verdict, State.spoiledMarked_modPort,
      State.modPort_stallLimit, moved]
    unfold State.offerRequestLane
    rw [(SameArbiters.behindRequests p rest _).candidates]
    split
    · refine State.grantLink_behind (left := s.stallLimit.value) (r := r) (more := more) ?_ ?_
      · rw [State.port_modPort_same]
      · rw [State.port_modPort_same, marked]
        exact head
    · rfl
  | inbox =>
    obtain ⟨x, record⟩ := State.record_of_decide_inbox verdict
    rw [State.takeUpRequest_inbox (again verdict), State.takeUpRequest_inbox verdict, State.spoiledMarked_modPort]
    exact State.inboxHead_behind record (marked.symm ▸ full)
  | refuse st c =>
    rw [State.takeUpRequest_refuse (again verdict), State.takeUpRequest_refuse verdict, State.spoiledMarked_modPort,
      State.detect_modPort, State.modPort_stallLimit, State.refuseHead_behind (headMarked _ _)]
  | drop c =>
    rw [State.takeUpRequest_drop (again verdict), State.takeUpRequest_drop verdict, State.spoiledMarked_modPort,
      State.detect_modPort]
    split
    · exact State.dropRequest_behind (marked.symm ▸ full)
    · refine State.dropRequest_behind ?_
      rw [headMarked]
      exact List.cons_ne_nil r more

end Requests

/-! ## Behind the head of an answer class -/

section Answers

variable {p : Port} {rest : List Answer}

theorem SameArbiters.behindAnswers {s : State} (h : (s.port p).answers ≠ []) (rest : List Answer) :
    SameArbiters s (s.modPort p (PortState.behindAnswers rest)) := by
  have same : ∀ q, (s.modPort p (PortState.behindAnswers rest)).port q = s.port q
      ∨ q = p ∧ (s.modPort p (PortState.behindAnswers rest)).port q = (s.port q).behindAnswers rest := fun q => by
    rw [State.port_modPort]
    split
    case isTrue e => exact .inr ⟨e, e ▸ rfl⟩
    case isFalse => exact .inl rfl
  have field : ∀ {α : Type} (f : PortState → α), (∀ y, f (y.behindAnswers rest) = f y) → ∀ q,
      f ((s.modPort p (PortState.behindAnswers rest)).port q) = f (s.port q) := fun f hf q =>
    (same q).elim (congrArg f) fun e => (congrArg f e.2).trans (hf _)
  have heads : ∀ q, ((s.modPort p (PortState.behindAnswers rest)).port q).answers.head? = (s.port q).answers.head? := fun q => by
    rcases same q with e | ⟨rfl, e⟩
    · rw [e]
    · rw [e]
      exact List.head?_append_of_ne_nil _ h
  exact ⟨field _ fun _ => rfl, fun q => State.awaitedMatch_congr (field PortState.answerWait (fun _ => rfl) q) (heads q)
    (fun i => State.entry_modPort _ _ _ i), field _ fun _ => rfl,
    field _ fun _ => rfl, field _ fun _ => rfl, field _ fun _ => rfl, rfl⟩

theorem PortState.behindAnswers_apart (rest : List Answer) : PortState.Apart (PortState.behindAnswers rest) := fun i y => by
  simp only [PortState.withdrawFetch_eq, PortState.behindAnswers]

theorem PortState.popAnswer_behind {x : PortState} (h : x.answers ≠ []) :
    (x.behindAnswers rest).popAnswer = x.popAnswer.behindAnswers rest := by
  simp only [PortState.popAnswer_eq, PortState.behindAnswers, List.tail_append_of_ne_nil h]

theorem State.popAnswer_behind {s : State} (h : (s.port p).answers ≠ []) :
    (s.modPort p (PortState.behindAnswers rest)).modPort p PortState.popAnswer
      = (s.modPort p PortState.popAnswer).modPort p (PortState.behindAnswers rest) :=
  State.modPort_swap fun _ => PortState.popAnswer_behind h

theorem State.dropAnswer_behind {s : State} (h : (s.port p).answers ≠ []) :
    (s.modPort p (PortState.behindAnswers rest)).dropAnswer p = (s.dropAnswer p).modPort p (PortState.behindAnswers rest) :=
  State.modPort_swap fun _ => congrArg (PortState.count Counters.addDropped) (PortState.popAnswer_behind h)

theorem State.tellEnd_behind (cause : EndCause) (o : Requester) (s : State) :
    (s.modPort p (PortState.behindAnswers rest)).tellEnd cause o
      = (s.tellEnd cause o).modPort p (PortState.behindAnswers rest) := by
  cases o with
  | host => rfl
  | link q tag =>
    have room : ((s.modPort p (PortState.behindAnswers rest)).port q).routerMadeRoom = (s.port q).routerMadeRoom := by
      rw [State.port_modPort]
      split
      case isTrue e => exact e ▸ rfl
      case isFalse => rfl
    cases made : (s.port q).routerMadeRoom with
    | true =>
      rw [State.tellEnd_room (room.trans made), State.tellEnd_room made]
      exact State.modPort_swap fun _ => rfl
    | false => rw [State.tellEnd_noRoom (room.trans made), State.tellEnd_noRoom made]

theorem State.endEntry_behind {s : State} {i : RouterTag} {x : Exchange} {issue : Issue} {d : Nat} (h : s.entry i = .opened x issue d)
    (cause : EndCause) :
    (s.modPort p (PortState.behindAnswers rest)).endEntry i cause true
      = (s.endEntry i cause true).modPort p (PortState.behindAnswers rest) := by
  have again : (s.modPort p (PortState.behindAnswers rest)).entry i = .opened x issue d := (State.entry_modPort _ _ _ i).trans h
  rw [State.endEntry_opened again, State.endEntry_opened h, State.tellEnd_behind,
    State.withdrawQueued_modPort (PortState.behindAnswers_apart rest)]
  rfl

theorem State.setPointer_behindAnswers (d : Port) (c : FrameClass) (o : Origin) (s : State) :
    (s.modPort p (PortState.behindAnswers rest)).setPointer d c o = (s.setPointer d c o).modPort p (PortState.behindAnswers rest) :=
  State.modPort_swap fun _ => rfl

theorem State.grantSlot_behindAnswers (q : Port) (s : State) :
    (s.modPort p (PortState.behindAnswers rest)).grantSlot q = (s.grantSlot q).modPort p (PortState.behindAnswers rest) := by
  have wait : ((s.modPort p (PortState.behindAnswers rest)).port q).requestWait = (s.port q).requestWait := by
    rw [State.port_modPort]
    split
    case isTrue e => exact e ▸ rfl
    case isFalse => rfl
  have requests : ((s.modPort p (PortState.behindAnswers rest)).port q).requests = (s.port q).requests := by
    rw [State.port_modPort]
    split
    case isTrue e => exact e ▸ rfl
    case isFalse => rfl
  have pushed : ∀ a, (s.modPort p (PortState.behindAnswers rest)).modPort q (PortState.pushAnswer a)
      = (s.modPort q (PortState.pushAnswer a)).modPort p (PortState.behindAnswers rest) := fun a => State.modPort_swap fun _ => rfl
  have dropped : ∀ t : State, (t.modPort p (PortState.behindAnswers rest)).dropRequest q
      = (t.dropRequest q).modPort p (PortState.behindAnswers rest) := fun t =>
    State.modPort_swap fun _ => by simp only [PortState.popRequest_eq, PortState.behindAnswers, PortState.count]
  unfold State.grantSlot
  rw [wait, requests]
  split
  · rw [pushed, dropped, State.setPointer_behindAnswers]
  · rfl

theorem State.grantForward_behind {s : State} (full : (s.port p).answers ≠ []) (o : Port) :
    (s.modPort p (PortState.behindAnswers rest)).grantForward p o
      = (s.grantForward p o).modPort p (PortState.behindAnswers rest) := by
  unfold State.grantForward
  rw [(SameArbiters.behindAnswers full rest).matched]
  cases s.awaitedMatch p with
  | none => rfl
  | some m =>
    obtain ⟨a, i, x, issue, d⟩ := m
    dsimp only
    cases x.origin with
    | host => rfl
    | link q tag =>
      dsimp only
      split
      · have pushed : (s.modPort p (PortState.behindAnswers rest)).modPort o (PortState.pushAnswer ⟨{ a with tag := tag }, false⟩)
            = (s.modPort o (PortState.pushAnswer ⟨{ a with tag := tag }, false⟩)).modPort p (PortState.behindAnswers rest) :=
          State.modPort_swap fun _ => rfl
        have still : (((s.modPort o (PortState.pushAnswer ⟨{ a with tag := tag }, false⟩)).noteForwarded i x issue d a).port p).answers
            ≠ [] := by
          have same : SameAnswers p s
              ((s.modPort o (PortState.pushAnswer ⟨{ a with tag := tag }, false⟩)).noteForwarded i x issue d a) :=
            (SameAnswers.modPort ⟨rfl, rfl⟩).trans (.noteForwarded p i x issue d a _)
          rw [same.1]
          exact full
        rw [pushed, State.noteForwarded_modPort (PortState.behindAnswers_apart rest), State.popAnswer_behind still,
          State.setPointer_behindAnswers]
      · rfl

theorem State.offerAnswerLane_behind {s : State} (full : (s.port p).answers ≠ []) (o : Port) :
    (s.modPort p (PortState.behindAnswers rest)).offerAnswerLane o (.link p)
      = (s.offerAnswerLane o (.link p)).modPort p (PortState.behindAnswers rest) := by
  have same := SameArbiters.behindAnswers full rest
  unfold State.offerAnswerLane
  rw [same.candidates]
  split
  · unfold State.grantAnswerLane
    dsimp only
    rw [same.wantsAnswerSlot, same.routerMadeRoom]
    split
    · exact State.grantSlot_behindAnswers o s
    · exact State.grantForward_behind full o
  · rfl

theorem State.answerSubject_behind (a : Answer) (s : State) :
    (s.modPort p (PortState.behindAnswers rest)).answerSubject a = s.answerSubject a := rfl

theorem State.matchOpen_behind {s : State} (full : (s.port p).answers ≠ []) {a : Answer} {i : RouterTag} {x : Exchange}
    {issue : Issue} {d : Nat} (h : s.entry i = .opened x issue d) :
    (s.modPort p (PortState.behindAnswers rest)).matchOpen p a i x issue d
      = (s.matchOpen p a i x issue d).modPort p (PortState.behindAnswers rest) := by
  have dropped : ∀ c y, ((s.modPort p (PortState.behindAnswers rest)).detect (.link p) c y).dropAnswer p
      = ((s.detect (.link p) c y).dropAnswer p).modPort p (PortState.behindAnswers rest) := fun c y => by
    rw [State.detect_modPort]
    exact State.dropAnswer_behind ((State.detect_port _ _ _ s p).symm ▸ full)
  have ends : ∀ c y cause, (((s.modPort p (PortState.behindAnswers rest)).detect (.link p) c y).dropAnswer p).endEntry i cause true
      = (((s.detect (.link p) c y).dropAnswer p).endEntry i cause true).modPort p (PortState.behindAnswers rest) :=
    fun c y cause => by
      rw [dropped]
      exact State.endEntry_behind ((State.entry_modPort _ _ _ i).trans ((State.detect_entry _ _ _ s i).trans h)) cause
  have links : ∀ o, ((s.modPort p (PortState.behindAnswers rest)).port o).link = (s.port o).link :=
    (SameArbiters.behindAnswers full rest).link
  unfold State.matchOpen
  dsimp only
  rw [State.answerSubject_behind]
  split
  · exact ends _ _ _
  · cases x.origin with
    | host =>
      dsimp only
      have still : ((s.noteForwarded i x issue d a).port p).answers ≠ [] := by
        rw [(SameAnswers.noteForwarded p i x issue d a s).1]
        exact full
      rw [State.noteForwarded_modPort (PortState.behindAnswers_apart rest)]
      exact State.popAnswer_behind (s := { s.noteForwarded i x issue d a with hostFetch := _ }) still
    | link o tag =>
      dsimp only
      rw [links]
      split
      · exact ends _ _ _
      · have moved : ∀ l, (s.modPort p (PortState.behindAnswers rest)).modPort p
            (fun y => { y with answerWait := some (y.answerWait.getD l) })
              = (s.modPort p fun y => { y with answerWait := some (y.answerWait.getD l) }).modPort p
                  (PortState.behindAnswers rest) := fun l => State.modPort_swap fun _ => rfl
        rw [State.modPort_stallLimit, moved]
        refine State.offerAnswerLane_behind ?_ o
        rw [State.port_modPort_same]
        exact full

theorem State.matchAnswer_behind {s : State} (full : (s.port p).answers ≠ []) (a : Answer) :
    (s.modPort p (PortState.behindAnswers rest)).matchAnswer p a
      = (s.matchAnswer p a).modPort p (PortState.behindAnswers rest) := by
  have dropped : ∀ c y, ((s.modPort p (PortState.behindAnswers rest)).detect (.link p) c y).dropAnswer p
      = ((s.detect (.link p) c y).dropAnswer p).modPort p (PortState.behindAnswers rest) := fun c y => by
    rw [State.detect_modPort]
    exact State.dropAnswer_behind ((State.detect_port _ _ _ s p).symm ▸ full)
  have lookup : (s.modPort p (PortState.behindAnswers rest)).lookup a.tag = s.lookup a.tag := rfl
  unfold State.matchAnswer
  dsimp only
  rw [State.answerSubject_behind, lookup, dropped, dropped]
  cases found : s.lookup a.tag with
  | none => rfl
  | some e =>
    obtain ⟨i, e⟩ := e
    have entry : s.entry i = e := by
      unfold State.lookup at found
      split at found
      case isTrue => cases found; rfl
      case isFalse => cases found
    cases e with
    | free => rfl
    | opened x issue d =>
      dsimp only
      split
      · exact State.matchOpen_behind full entry
      · rfl
    | orphan x issue d =>
      dsimp only
      split
      · split
        · unfold State.freeEntry
          rw [State.dropAnswer_behind full, State.withdrawQueued_modPort (PortState.behindAnswers_apart rest)]
          rfl
        · exact State.dropAnswer_behind full
      · rfl
    | quarantine x c l =>
      dsimp only
      split <;> rfl

/-- The head of an answer class is taken up alike whatever stands behind it. -/
theorem State.takeUpAnswer_behind {s : State} (full : (s.port p).answers ≠ []) (a : Answer) :
    (s.modPort p (PortState.behindAnswers rest)).takeUpAnswer p a
      = (s.takeUpAnswer p a).modPort p (PortState.behindAnswers rest) := by
  rw [State.takeUpAnswer_eq, State.takeUpAnswer_eq, State.answerMarked_modPort]
  exact State.matchAnswer_behind ((s.answerMarked_port p a p).symm ▸ full) a

end Answers

end Sys2Proof.Machine
end

section
/-! The proof about the arbiters (R41, R56, R64, R66, R74, R82, R93, R108, R109): whose turn it is, what a grant does, and that heads are
taken up one after another. -/

namespace Sys2Proof.Machine

/-! ## Whose turn it is (R108, R109) -/

theorem Origin.mem_after (k o : Origin) : o ∈ Origin.after k := by
  rcases k with k | _ <;> rcases o with o | _
  · cases k <;> cases o <;> decide
  · cases k <;> decide
  · cases o <;> decide
  · decide

theorem State.isCandidate_of_first {s : State} {d : Port} {c : FrameClass} {o : Origin} {rest : List Origin}
    (h : s.candidates d c = o :: rest) : s.isCandidate d c o = true := by
  have first : o ∈ s.candidates d c := h ▸ List.mem_cons_self
  exact (List.mem_filter.mp first).2

theorem State.candidates_nil_iff (s : State) (d : Port) (c : FrameClass) :
    s.candidates d c = [] ↔ ∀ o, s.isCandidate d c o = false := by
  refine ⟨fun h o => Bool.eq_false_iff.mpr ?_, State.candidates_none⟩
  exact List.filter_eq_nil_iff.mp h o (Origin.mem_after _ o)

/-- Those passed over hold no candidate. -/
theorem State.candidates_skipped {s : State} {d : Port} {c : FrameClass} {o : Origin} {rest : List Origin}
    (h : s.candidates d c = o :: rest) :
    ∃ skipped, Origin.after ((s.port d).pointer.get c)
        = skipped ++ o :: (Origin.after ((s.port d).pointer.get c)).drop (skipped.length + 1)
      ∧ ∀ x ∈ skipped, s.isCandidate d c x = false := by
  obtain ⟨skipped, behind, parts, passed, _, _⟩ := List.filter_eq_cons_iff.mp h
  refine ⟨skipped, ?_, fun x hx => Bool.eq_false_iff.mpr (passed x hx)⟩
  have left : (skipped ++ o :: behind).drop (skipped.length + 1) = behind := by
    rw [← List.drop_drop, List.drop_left]
    rfl
  rw [parts, left]

theorem State.wantsRequestLane_link_iff (s : State) (d q : Port) :
    s.wantsRequestLane d (.link q) = true ↔ ∃ left, (s.port q).requestWait = some (.lane d left) := by
  unfold State.wantsRequestLane
  dsimp only
  split
  case h_1 target left wait =>
    rw [wait, beq_iff_eq]
    exact ⟨fun e => ⟨left, e ▸ rfl⟩, fun ⟨_, k⟩ => by cases k; rfl⟩
  case h_2 no =>
    exact iff_of_false Bool.false_ne_true fun ⟨left, k⟩ => no d left k

theorem State.wantsRequestLane_m_iff (s : State) (d : Port) :
    s.wantsRequestLane d .m = true ↔ ∃ c h left, s.management.running = some ⟨c, .awaitLane h d left⟩ := by
  unfold State.wantsRequestLane State.hostHead
  dsimp only
  constructor
  · intro h
    split at h
    case h_1 r target left found =>
      split at found
      case h_1 c r' d' l' running =>
        cases found
        rw [beq_iff_eq] at h
        exact ⟨c, r, left, h ▸ running⟩
      case h_2 => cases found
    case h_2 => cases h
  · rintro ⟨c, r, left, running⟩
    rw [running]
    exact beq_self_eq_true d

theorem State.wantsAnswerSlot_iff (s : State) (p : Port) :
    s.wantsAnswerSlot p = true ↔ ∃ st left, (s.port p).requestWait = some (.answerSlot st left) := by
  unfold State.wantsAnswerSlot
  split
  case h_1 st left wait => exact iff_of_true rfl ⟨st, left, wait⟩
  case h_2 no => exact iff_of_false Bool.false_ne_true fun ⟨st, left, k⟩ => no st left k

theorem State.wantsForward_iff (s : State) (q d : Port) :
    s.wantsForward q d = true ↔ ∃ left a more i x issue dl tag, (s.port q).answerWait = some left ∧ (s.port q).answers = a :: more
      ∧ i.val = a.tag.toNat ∧ s.entry i = .opened x issue dl ∧ x.origin = .link d tag := by
  constructor
  · intro h
    unfold State.wantsForward State.awaitedMatch at h
    cases hw : (s.port q).answerWait with
    | none => simp [hw] at h
    | some left =>
      cases ha : (s.port q).answers with
      | nil => simp [hw, ha] at h
      | cons a more =>
        by_cases lt : a.tag.toNat < 64
        · have found : s.lookup a.tag = some (⟨a.tag.toNat, lt⟩, s.entry ⟨a.tag.toNat, lt⟩) := State.lookup_of_val rfl
          rw [hw, ha] at h
          dsimp only at h
          rw [found] at h
          cases he : s.entry ⟨a.tag.toNat, lt⟩ with
          | opened x issue dl =>
            rw [he] at h
            dsimp only at h
            cases ho : x.origin with
            | host => simp [ho, Requester.origin] at h
            | link o tag =>
              rw [ho] at h
              have same : o = d := Origin.link.inj (beq_iff_eq.mp h)
              exact ⟨left, a, more, _, x, issue, dl, tag, rfl, rfl, rfl, he, same ▸ ho⟩
          | free => simp [he] at h
          | orphan x issue dl => simp [he] at h
          | quarantine x c l => simp [he] at h
        · have none : s.lookup a.tag = none := dif_neg lt
          simp [hw, ha, none] at h
  · rintro ⟨left, a, more, i, x, issue, dl, tag, hw, ha, named, he, ho⟩
    exact State.Forwards.wants (a := a) (i := i) (x := x) (issue := issue) (d := dl) (tag := tag)
      ⟨by rw [hw]; exact Option.some_ne_none _, by rw [ha]; rfl, named, he, ho⟩

theorem State.isCandidate_request_iff (s : State) (d : Port) (o : Origin) :
    s.isCandidate d .request o = true ↔ s.isUp d = true ∧ (s.port d).requestLane.length < 12
      ∧ match o with
        | .link q => ∃ left, (s.port q).requestWait = some (.lane d left)
        | .m => ∃ c h left, s.management.running = some ⟨c, .awaitLane h d left⟩ := by
  rw [State.isCandidate_request, Bool.and_eq_true, PortState.requestRoom_iff, and_comm, and_assoc]
  cases o with
  | link q => exact and_congr_right fun _ => and_congr_right fun _ => State.wantsRequestLane_link_iff s d q
  | m => exact and_congr_right fun _ => and_congr_right fun _ => State.wantsRequestLane_m_iff s d

theorem State.isCandidate_answer_iff (s : State) (d : Port) (o : Origin) :
    s.isCandidate d .answer o = true ↔ s.isUp d = true ∧ (s.port d).answerLane.length < 8
      ∧ match o with
        | .link q =>
          (q = d ∧ ∃ st left, (s.port d).requestWait = some (.answerSlot st left))
            ∨ (forwardedCount (s.port d).answerLane < 6
              ∧ ∃ left a more i x issue dl tag, (s.port q).answerWait = some left ∧ (s.port q).answers = a :: more
                ∧ i.val = a.tag.toNat ∧ s.entry i = .opened x issue dl ∧ x.origin = .link d tag)
        | .m => False := by
  cases o with
  | m => exact iff_of_false Bool.false_ne_true fun k => k.2.2
  | link q =>
    dsimp only
    rw [State.isCandidate_answer, Bool.or_eq_true, Bool.and_eq_true, Bool.and_eq_true, Bool.and_eq_true, beq_iff_eq,
      State.wantsAnswerSlot_iff, State.wantsForward_iff, PortState.forwardedRoom_iff, PortState.routerMadeRoom_iff]
    have isUp : (s.port d).link.isUp = s.isUp d := rfl
    rw [isUp]
    constructor
    · rintro (⟨own, up, free⟩ | ⟨wants, ⟨up, free⟩, few⟩)
      · exact ⟨up, free, .inl own⟩
      · exact ⟨up, free, .inr ⟨few, wants⟩⟩
    · rintro ⟨up, free, own | ⟨few, wants⟩⟩
      · exact .inl ⟨own, up, free⟩
      · exact .inr ⟨wants, ⟨up, free⟩, few⟩

/-! ## A request lane granted (R56, R64, R66, R74, R75, R93) -/

section Grant

variable {s : State} {d : Port}

theorem State.grantDown_skips {o : Origin} (h : s.isCandidate d .request o = false) (rest : List Origin) :
    State.grantDown d (o :: rest) s = State.grantDown d rest s := if_neg (Bool.eq_false_iff.mp h)

/-- One that admission does not refuse takes the room. -/
theorem State.grantDown_takes {o : Origin} (h : s.isCandidate d .request o = true) (takes : s.admissionRefuses o = false)
    (rest : List Origin) : State.grantDown d (o :: rest) s = (s.grantRequestLane d o).serveOrigin .request o :=
  (if_pos h).trans (if_neg (Bool.eq_false_iff.mp takes))

/-- One that admission refuses leaves the room to the next. -/
theorem State.grantDown_leaves {o : Origin} (h : s.isCandidate d .request o = true) (refused : s.admissionRefuses o = true)
    (rest : List Origin) :
    State.grantDown d (o :: rest) s = State.grantDown d rest ((s.grantRequestLane d o).serveOrigin .request o) :=
  (if_pos h).trans (if_pos refused)

theorem State.admissionRefuses_store {q : Port} {a : Word32} {b : List Byte} {sp : Bool} {more : List (Request Byte)}
    (head : (s.port q).requests = .store a b sp :: more) : s.admissionRefuses (.link q) = false := by
  unfold State.admissionRefuses
  dsimp only
  rw [head]
  rfl

theorem State.admissionRefuses_notice {q : Port} {t f : Byte} {c : Word16} {b : List Byte} {sp : Bool} {more : List (Request Byte)}
    (head : (s.port q).requests = .notice t f c b sp :: more) : s.admissionRefuses (.link q) = false := by
  unfold State.admissionRefuses
  dsimp only
  rw [head]
  rfl

theorem State.admissionRefuses_admitted {o : Origin} {i : RouterTag} (h : s.admission o = .ok i) : s.admissionRefuses o = false := by
  unfold State.admissionRefuses
  dsimp only
  rw [h]
  exact Bool.and_false _

theorem State.admissionRefuses_fetch {q : Port} {a : Word32} {n : Nat} {tag : Byte} {sp : Bool} {more : List (Request Byte)}
    {k : Condition} (head : (s.port q).requests = .fetch a n tag sp :: more) (refused : s.admission (.link q) = .error k) :
    s.admissionRefuses (.link q) = true := by
  unfold State.admissionRefuses
  dsimp only
  rw [head, refused]
  rfl

theorem State.admissionRefuses_hostFetch {a : Word32} {n left : Nat} {u : Unit} {sp : Bool} {p : Port} {k : Condition}
    (head : s.hostHead = some (.fetch a n u sp, p, left)) (refused : s.admission .m = .error k) : s.admissionRefuses .m = true := by
  unfold State.admissionRefuses
  dsimp only
  rw [head, refused]
  rfl

theorem State.admissionRefuses_host {r : Request Unit} {p : Port} {left : Nat} (head : s.hostHead = some (r, p, left))
    (other : ∀ a n u sp, r ≠ .fetch a n u sp) : s.admissionRefuses .m = false := by
  unfold State.admissionRefuses
  dsimp only
  rw [head]
  cases r with
  | fetch a n u sp => exact absurd rfl (other a n u sp)
  | store a b sp => rfl
  | notice t f c b sp => rfl

/-- The state `t` once the command in progress has its result: answered if a place is free, and waiting for one if not. -/
def State.concluded (s : State) (c : Message) (st : Status) (v : Values) (t : State) : State :=
  { t with management :=
    if s.management.mayEnter .response then
      { s.management with
        running := none
        outgoing := s.management.outgoing ++ [c.response st v]
        waiting := s.management.without .response
        last := some ⟨c.msg.seq, c.msg.check, c.response st v⟩ }
    else { s.management with running := some ⟨c, .answered (c.response st v)⟩ } }

theorem State.conclude_eq {t : State} {c : Message} {stage : Stage} (running : s.management.running = some ⟨c, stage⟩)
    (same : t.management = s.management) (st : Status) (v : Values) : t.conclude st v = s.concluded c st v t := by
  unfold State.conclude
  rw [same, running]
  dsimp only
  unfold State.concluded
  cases may : s.management.mayEnter .response with
  | true =>
    rw [State.offerResponse_enters c _ (same ▸ may)]
    unfold State.enterResponse
    rw [same]
    rfl
  | false =>
    rw [State.offerResponse_waits c _ (same ▸ may), same]
    rfl

end Grant

/-! ## An answer lane granted (R55, R82) -/

theorem State.grantLane_answer {s : State} {d : Port} {o : Origin} {rest : List Origin} (h : s.candidates d .answer = o :: rest) :
    s.grantLane d .answer = (s.grantAnswerLane d o).serveOrigin .answer o := by
  unfold State.grantLane
  dsimp only
  rw [h]

/-- The cycle order, from each position on. -/
theorem Origin.after_of_getElem? {n : Nat} {o : Origin} (h : Origin.cycle[n]? = some o) :
    Origin.after o = Origin.cycle.drop (n + 1) ++ Origin.cycle.take (n + 1) := by
  have at_n : Origin.cycle.idxOf o = n := by
    have distinct : Origin.cycle.Nodup := by decide
    obtain ⟨lt, e⟩ := List.getElem?_eq_some_iff.mp h
    rw [← e]
    exact distinct.idxOf_getElem n lt
  unfold Origin.after
  rw [at_n]

/-- Settles O27: whose turn it is, what each grant does, and that heads are taken up one after another. -/
theorem laneGrantGoesRound : Obligations.LaneGrantGoesRound := by
  refine ⟨fun d s => ⟨fun q rest left r more first wait head => ?_, fun rest c h left first running => ?_,
      fun q rest st left a n tag sp more first own wait head => happens_of_event (f := State.grantLane d .answer) rfl ?_,
      fun q rest left a more i x issue dl tag first other wait head named hx origin =>
        happens_of_event (f := State.grantLane d .answer) rfl ?_,
      fun c o rest => State.candidates_skipped, fun c => State.candidates_nil_iff s d c, State.isCandidate_request_iff s d,
      State.isCandidate_answer_iff s d⟩,
    fun n o => Origin.after_of_getElem?, fun d o rest t => ⟨rfl, fun h => State.grantDown_skips h rest,
      fun q left a b sp more own candidate wait head => ?_⟩,
    fun p s => ⟨State.serveRequests_idle, fun r rest wait head => ⟨State.serveRequests_cons wait head, ?_⟩,
      State.serveAnswers_idle, fun a rest wait head => ⟨State.serveAnswers_cons wait head, ?_⟩⟩,
    fun p bytes most s up intact => ⟨fun r parsed credit empty idle => happens_of_event (f := State.frameArrives p .request bytes) rfl
        (State.frameArrives_request up credit intact parsed empty idle),
      fun a parsed credit empty idle => happens_of_event (f := State.frameArrives p .answer bytes) rfl
        (State.frameArrives_answer up credit intact parsed empty idle)⟩⟩
  · have lane : s.grantLane d .request = State.grantDown d (.link q :: rest) s := congrArg (State.grantDown d · s) first
    have candidate := State.isCandidate_of_first first
    refine ⟨fun a b sp e => happens_of_event (f := State.grantLane d .request) rfl (lane.trans ?_),
      fun t f c b sp e => happens_of_event (f := State.grantLane d .request) rfl (lane.trans ?_),
      fun a n tag sp i e admitted => happens_of_event (f := State.grantLane d .request) rfl (lane.trans ?_),
      fun a n tag sp k e refused => happens_of_event (f := State.grantLane d .request) rfl (lane.trans ?_)⟩
    · subst e
      rw [State.grantDown_takes candidate (State.admissionRefuses_store head), ← State.grantLink_store wait head]
      rfl
    · subst e
      rw [State.grantDown_takes candidate (State.admissionRefuses_notice head), ← State.grantLink_notice wait head]
      rfl
    · subst e
      rw [State.grantDown_takes candidate (State.admissionRefuses_admitted admitted),
        ← State.grantLink_fetch_admitted wait head admitted]
      rfl
    · subst e
      rw [State.grantDown_leaves candidate (State.admissionRefuses_fetch head refused),
        ← State.grantLink_fetch_refused wait head refused]
      rfl
  · have lane : s.grantLane d .request = State.grantDown d (.m :: rest) s := congrArg (State.grantDown d · s) first
    have candidate := State.isCandidate_of_first first
    have hostHead := State.hostHead_waiting running
    have granted : (s.grantRequestLane d .m).serveOrigin .request .m = s.grantHost d := rfl
    refine ⟨fun a b sp e => happens_of_event (f := State.grantLane d .request) rfl (lane.trans ?_),
      fun t f k b sp e => happens_of_event (f := State.grantLane d .request) rfl (lane.trans ?_),
      fun a n sp i e admitted => happens_of_event (f := State.grantLane d .request) rfl (lane.trans ?_),
      fun a n sp k e refused => happens_of_event (f := State.grantLane d .request) rfl (lane.trans ?_)⟩
    · subst e
      rw [State.grantDown_takes candidate (State.admissionRefuses_host hostHead fun _ _ _ _ k => by cases k), granted]
      unfold State.grantHost
      rw [hostHead]
      exact State.conclude_eq (t := s.placeRequest d .m (.store a b sp)) running rfl _ _
    · subst e
      rw [State.grantDown_takes candidate (State.admissionRefuses_host hostHead fun _ _ _ _ k => by cases k), granted]
      unfold State.grantHost
      rw [hostHead]
      exact State.conclude_eq (t := s.placeRequest d .m (.notice t f k b sp)) running rfl _ _
    · subst e
      rw [State.grantDown_takes candidate (State.admissionRefuses_admitted admitted), granted]
      unfold State.grantHost
      rw [hostHead]
      dsimp only
      rw [admitted]
      exact State.conclude_eq (t := { (s.openEntry i .host d a n).placeRequest d .m (.fetch a n i sp) with hostFetch := .gathering i n [] }) running rfl _ _
    · subst e
      rw [State.grantDown_leaves candidate (State.admissionRefuses_hostFetch hostHead refused), granted]
      refine congrArg (State.grantDown d rest) ?_
      unfold State.grantHost
      rw [hostHead]
      dsimp only
      rw [refused]
      exact State.conclude_eq (t := (s.setPointer d .request .m).detect .m k (.fetch a n none sp)) running
        (State.detect_management _ _ _ _) _ _
  · subst own
    have room : (s.port q).routerMadeRoom = true := by
      obtain ⟨up, free, _⟩ := (State.isCandidate_answer_iff s q (.link q)).mp (State.isCandidate_of_first first)
      exact (PortState.routerMadeRoom_iff _).mpr ⟨up, free⟩
    have granted : s.grantAnswerLane q (.link q) = s.grantSlot q := if_pos ⟨rfl, State.wantsAnswerSlot_waiting wait, room⟩
    rw [State.grantLane_answer first, granted, State.grantSlot_eq wait head]
    rfl
  · have granted : s.grantAnswerLane d (.link q) = s.grantForward q d := if_neg fun k => other k.1
    have forwards : s.Forwards q d a i x issue dl tag :=
      ⟨by rw [wait]; exact Option.some_ne_none _, by rw [head]; rfl, named, hx, origin⟩
    rw [State.grantLane_answer first, granted, forwards.granted]
    rfl
  · subst own
    rw [State.grantDown_takes candidate (State.admissionRefuses_store head), ← State.grantLink_store wait head]
    rfl
  · have whole : s = (s.modPort p fun x => { x with requests := [r] }).modPort p (PortState.behindRequests rest) := by
      rw [State.modPort_modPort_same]
      refine (State.modPort_self p s ?_).symm
      unfold PortState.behindRequests
      dsimp only
      rw [List.singleton_append, ← head]
    conv_lhs => rw [whole]
    refine State.takeUpRequest_behind (more := []) ?_
    rw [State.port_modPort_same]
  · have whole : s = (s.modPort p fun x => { x with answers := [a] }).modPort p (PortState.behindAnswers rest) := by
      rw [State.modPort_modPort_same]
      refine (State.modPort_self p s ?_).symm
      unfold PortState.behindAnswers
      dsimp only
      rw [List.singleton_append, ← head]
    conv_lhs => rw [whole]
    refine State.takeUpAnswer_behind ?_ a
    rw [State.port_modPort_same]
    exact List.cons_ne_nil _ _

end Sys2Proof.Machine
end

section
/-! The proofs about links: HOLD BAY, training, greetings and accepts, failed attempts, losses, the damaged window (R119, R123 to R130,
R133, R198, R201). -/

namespace Sys2Proof.Machine

/-! ## HOLD BAY (R133) -/

theorem exec_holdBay (m : HostMsg) (s : State) :
    exec (.holdBay m) s = event (State.take ⟨0x41, m⟩ false (State.runAct ⟨0x41, m⟩ actHoldBay)) s := rfl

theorem actHoldBay_named {b : Byte} {bay : Bay} (h : Bay.ofByte b = some bay) (s : State) :
    actHoldBay [b] s = some (holdBayTo bay s) := by
  simp only [actHoldBay, h]

theorem actHoldBay_none {b : Byte} (h : b = 0 ∨ 6 < b.toNat) (s : State) : actHoldBay [b] s = some (refuse .badValue s) := by
  simp only [actHoldBay, Bay.ofByte_eq_none h]

theorem Link.eq_up_of_isUp {l : Link} (h : l.isUp = true) : ∃ most, l = .up most := by
  cases l with
  | up most => exact ⟨most, rfl⟩
  | _ => cases h

/-- Settles O32, by the link's state. -/
theorem holdBayByLinkState : Obligations.HoldBayByLinkState := by
  refine ⟨fun m b s h hp none => h.refused (c := ⟨0x41, m⟩) (exec_holdBay m s) hp (actHoldBay_none none _),
    fun m b bay s h hp named => ?_⟩
  have he := exec_holdBay m s
  have act := actHoldBay_named named s.taken
  have same : s.taken.port bay.port = s.port bay.port := rfl
  refine ⟨fun up => ?_, fun other => h.answers (c := ⟨0x41, m⟩) he hp (act.trans ?_),
    fun held => h.answers (c := ⟨0x41, m⟩) he hp (act.trans ?_), fun off => h.refused (c := ⟨0x41, m⟩) he hp (act.trans ?_)⟩
  · obtain ⟨most, hl⟩ := Link.eq_up_of_isUp up
    refine effect_of_act he h.toTaken (.inr h.running) (hp ▸ act.trans ?_)
    unfold holdBayTo
    dsimp only
    rw [same, hl]
    rfl
  · unfold holdBayTo
    dsimp only
    rw [same]
    cases hl : (s.port bay.port).link with
    | disabled => simp [hl, Link.name] at other
    | up most => simp [hl, Link.name] at other
    | held => simp [hl, Link.name] at other
    | down q => rfl
    | training a => rfl
    | failed => rfl
  · unfold holdBayTo
    dsimp only
    rw [same, held]
    rfl
  · unfold holdBayTo
    dsimp only
    rw [same, off]

/-! ## Training begins (R123, R124) -/

theorem State.tryTraining_present {s : State} {p : Port} (link : (s.port p).link = .down none) (signal : s.pins.signal.get p = true) :
    s.tryTraining p = s.startTraining p := by
  unfold State.tryTraining
  rw [link]
  exact if_pos signal

theorem State.tryTraining_absent {s : State} {p : Port} (link : (s.port p).link = .down none) (signal : s.pins.signal.get p = false) :
    s.tryTraining p = s := by
  unfold State.tryTraining
  rw [link]
  exact if_neg (Bool.eq_false_iff.mp signal)

theorem State.tryTraining_other {s : State} {p : Port} (link : (s.port p).link ≠ .down none) : s.tryTraining p = s := by
  unfold State.tryTraining
  split
  case h_1 h => exact absurd h link
  case h_2 => rfl

theorem State.quietEnds_down {s : State} {p : Port} {q : Nat} (link : (s.port p).link = .down (some q)) :
    s.quietEnds p = ((s.elapse q).setLink p (.down none)).tryTraining p := by
  unfold State.quietEnds
  rw [link]

/-- A change of the partner signal, which PORN low does not stop, with what then follows (R123, R126, R128). -/
theorem happens_of_signal {i : Instr} {f : State → State} {p : Port} {present : Bool} {s t : State}
    (he : exec i s = event f (s.setSignal p present)) (h : f (s.setSignal p present) = t) : Happens i s t := fun porn =>
  ⟨t.noteWaiting.management.waiting, by
    rw [he, event_high (s := s.setSignal p present) f porn, h]
    exact congrArg _ (State.noteWaiting_eq t)⟩

theorem State.startTraining_eq (p : Port) (s : State) :
    s.startTraining p
      = (s.modPort p fun x =>
          { x with link := .training ⟨2, true, none, false⟩, offered := some (s.port p).settings.value.max }).emit
          (.greeting p (greetingBytes (s.port p).settings.value.max)) := rfl

/-- Settles O35: what the signal's level decides at the end of a quiet interval and later, and what a transmitter does. -/
theorem trainingBegins : Obligations.TrainingBegins := by
  refine ⟨fun p q s link => ⟨fun absent => happens_of_event (f := State.quietEnds p) rfl ?_,
      fun present => happens_of_event (f := State.quietEnds p) rfl ?_⟩,
    fun p s link => happens_of_signal (f := State.tryTraining p) (p := p) (present := true) rfl ?_,
    fun p s link => happens_of_signal (f := State.tryTraining p) (p := p) (present := true) rfl ?_,
    fun p a offer s link going offered => happens_of_event (f := State.repeatGreeting p) rfl ?_, fun x => ⟨fun quiet => ?_,
      fun idle => ?_, fun a training => ?_, fun most up => ⟨fun none => ?_, fun f some => ?_, ?_⟩⟩⟩
  · have ended : (((s.elapse q).setLink p (.down none)).port p).link = .down none :=
      congrArg PortState.link (State.port_modPort_same p _ _)
    rw [State.quietEnds_down link, State.tryTraining_absent ended absent]
    rfl
  · have ended : (((s.elapse q).setLink p (.down none)).port p).link = .down none :=
      congrArg PortState.link (State.port_modPort_same p _ _)
    have settings : (((s.elapse q).setLink p (.down none)).port p).settings = (s.port p).settings := by
      unfold State.setLink
      rw [State.port_modPort_same, State.elapse_port]
      rfl
    rw [State.quietEnds_down link, State.tryTraining_present ended present, State.startTraining_eq, settings]
    unfold State.setLink
    rw [State.modPort_modPort_same]
    refine congrArg (State.emit _) (State.modPort_congr p _ ?_)
    rw [State.elapse_port]
    rfl
  · have down : ((s.setSignal p true).port p).link = .down none := link
    have present : (s.setSignal p true).pins.signal.get p = true := PerPort.get_set_same _ _ _
    rw [State.tryTraining_present down present, State.startTraining_eq]
    rfl
  · exact State.tryTraining_other link
  · have offer : (s.port p).offeredMax = offer := by
      unfold PortState.offeredMax
      rw [offered]
      rfl
    unfold State.repeatGreeting
    rw [link]
    dsimp only
    rw [if_neg (Bool.eq_false_iff.mp going), offer]
    rfl
  · have transmitter : x.transmitter = .quiet := by
      unfold PortState.transmitter
      rcases quiet with h | h | h | ⟨q, h⟩ <;> rw [h]
    exact ⟨transmitter, by unfold PortState.drives; rw [transmitter]; rfl⟩
  · have transmitter : x.transmitter = .idle := by
      unfold PortState.transmitter
      rw [idle]
    exact ⟨transmitter, by unfold PortState.drives; rw [transmitter]; rfl⟩
  · have transmitter : x.transmitter = .training := by
      unfold PortState.transmitter
      rw [training]
    exact ⟨transmitter, by unfold PortState.drives; rw [transmitter]; rfl⟩
  · unfold PortState.transmitter
    rw [up, none]
    rfl
  · unfold PortState.transmitter
    rw [up, some]
    rfl
  · unfold PortState.drives PortState.transmitter
    rw [up]
    dsimp only
    split <;> rfl

/-! ## A failed attempt (R126) -/

theorem State.failAttempt_again {s : State} {p : Port} (h : (s.port p).attempts < 2) (cause : FailCause) :
    s.failAttempt p cause
      = s.modPort p fun x => { x with link := .down (some 1), attempts := x.attempts + 1, failCause := some cause } := by
  have fewer : (s.port p).attempts + 1 < Config.attemptsMax := Nat.succ_lt_succ h
  unfold State.failAttempt
  dsimp only
  rw [if_pos fewer]
  unfold State.setLink
  rw [State.modPort_modPort_same]
  rfl

theorem State.failAttempt_last {s : State} {p : Port} (h : 2 ≤ (s.port p).attempts) (cause : FailCause) :
    s.failAttempt p cause
      = (s.modPort p fun x => { x with link := .failed, attempts := x.attempts + 1, failCause := some cause }).latch
          (.origin (.link p)) .linkFailed := by
  have all : ¬(s.port p).attempts + 1 < Config.attemptsMax := Nat.not_lt.mpr (Nat.succ_le_succ h)
  unfold State.failAttempt
  dsimp only
  rw [if_neg all]
  unfold State.setLink
  rw [State.modPort_modPort_same]
  rfl

/-! ## Greetings (R124, R125, R198) -/

theorem State.comeUp_eq {s : State} {p : Port} {offer : Nat} (offered : (s.port p).offered = some offer) (g : Greeting) :
    s.comeUp p g
      = (s.modPort p fun x =>
          { x with
            link := .up (min offer g.capability), attempts := 0, greeting := some g, window := [], granted := ⟨4, 4⟩, owed := ⟨0, 0⟩,
            partner := ⟨g.requestCredits, g.answerCredits⟩ }).latch (.origin (.link p)) .linkUp := by
  have offer' : (s.port p).offeredMax = offer := by
    unfold PortState.offeredMax
    rw [offered]
    rfl
  refine congrArg (State.latch _ _) (State.modPort_congr p s ?_)
  rw [offer']
  rfl

theorem checkGreeting_length {bytes : List Byte} (h : bytes.length ≠ 9) : checkGreeting bytes = .damaged := by
  unfold checkGreeting
  split
  case h_1 => exact absurd rfl h
  case h_2 => rfl

section Greetings

variable {k c1 c0 r a x3 x2 x1 x0 : Byte}

theorem checkGreeting_damaged (h : crc32 [k, c1, c0, r, a] ≠ word32 x3 x2 x1 x0) :
    checkGreeting [k, c1, c0, r, a, x3, x2, x1, x0] = .damaged := if_neg h

theorem checkGreeting_intact (h : crc32 [k, c1, c0, r, a] = word32 x3 x2 x1 x0) :
    checkGreeting [k, c1, c0, r, a, x3, x2, x1, x0]
      = match greetingValues k (word16 c1 c0).toNat r.toNat a.toNat with
        | some g => .good g
        | none => .bad := if_pos h

end Greetings

/-- The ranges of R125. -/
def greetingInRange (capability req ans : Nat) : Prop :=
  capability ∈ [64, 128, 256, 512, 1024] ∧ 1 ≤ req ∧ req ≤ 16 ∧ 1 ≤ ans ∧ ans ≤ 16

theorem greetingValues_some {kind : Byte} {k : PartnerKind} {capability req ans : Nat} (named : PartnerKind.ofCode kind = some k)
    (h : greetingInRange capability req ans) : greetingValues kind capability req ans = some ⟨k, capability, req, ans⟩ := by
  have listed : Config.capabilities.contains capability = true := List.contains_iff_mem.mpr h.1
  unfold greetingValues
  rw [named]
  exact if_pos ⟨listed, h.2⟩

theorem PartnerKind.ofCode_eq_none {kind : Byte} (h : kind = 0 ∨ 3 < kind.toNat) : PartnerKind.ofCode kind = none := by
  have out : kind.toNat = 0 ∨ 3 < kind.toNat := h.imp_left fun k => by rw [k]; rfl
  unfold PartnerKind.ofCode
  split
  case h_4 => rfl
  all_goals omega

theorem greetingValues_none {kind : Byte} {capability req ans : Nat}
    (h : ¬greetingInRange capability req ans ∨ kind = 0 ∨ 3 < kind.toNat) : greetingValues kind capability req ans = none := by
  unfold greetingValues
  rcases h with out | none
  · have failed : ¬(Config.capabilities.contains capability ∧ 1 ≤ req ∧ req ≤ 16 ∧ 1 ≤ ans ∧ ans ≤ 16) := fun k =>
      out ⟨List.contains_iff_mem.mp k.1, k.2⟩
    split
    · exact if_neg failed
    · rfl
  · rw [PartnerKind.ofCode_eq_none none]

theorem State.greetingArrives_training {s : State} {p : Port} {a : Attempt} (link : (s.port p).link = .training a) (bytes : List Byte) :
    s.greetingArrives p bytes = s.greetingInTraining p a bytes := by
  unfold State.greetingArrives
  rw [link]

theorem State.greetingArrives_up {s : State} {p : Port} (up : s.isUp p = true) (bytes : List Byte) :
    s.greetingArrives p bytes
      = if checkGreeting bytes = .damaged then s.damaged p else s.leaveUp p (.down (some 1)) .greeting := by
  obtain ⟨most, link⟩ := Link.eq_up_of_isUp up
  unfold State.greetingArrives
  rw [link]
  rfl

/-- Settles O36: what a greeting and an accept do to an attempt, and which bytes are a greeting. -/
theorem greetingAndAcceptBringTheLinkUp : Obligations.GreetingAndAcceptBringTheLinkUp := by
  refine ⟨fun p a offer s link offered => ?_, fun k c1 c0 req ans x3 x2 x1 x0 => ⟨checkGreeting_damaged, fun intact => ?_⟩,
    fun bytes => checkGreeting_length⟩
  · have arrives := State.greetingArrives_training link
    have notUp : s.isUp p = false := by
      unfold State.isUp
      rw [link]
      rfl
    refine ⟨fun bytes g fresh good => ⟨fun going => happens_of_event (f := State.greetingArrives p bytes) rfl ((arrives bytes).trans ?_),
        fun accepted => happens_of_event (f := State.greetingArrives p bytes) rfl ((arrives bytes).trans ?_)⟩,
      fun bytes g kept intact => happens_of_event (f := State.greetingArrives p bytes) rfl ((arrives bytes).trans ?_),
      fun greeted => ⟨fun g kept => happens_of_event (f := State.acceptArrives p) rfl ?_,
        fun fresh => happens_of_event (f := State.acceptArrives p) rfl ?_⟩,
      fun bytes fresh bad few => happens_of_event (f := State.greetingArrives p bytes) rfl ((arrives bytes).trans ?_),
      fun bytes fresh bad many => happens_of_event (f := State.greetingArrives p bytes) rfl ((arrives bytes).trans ?_),
      fun bytes damaged => happens_of_event (f := State.greetingArrives p bytes) rfl ((arrives bytes).trans ?_)⟩
    · unfold State.greetingInTraining
      rw [good, fresh]
      exact if_neg (Bool.eq_false_iff.mp going)
    · unfold State.greetingInTraining
      rw [good, fresh]
      exact (if_pos accepted).trans (State.comeUp_eq (s := s.emit (.accept p)) offered g)
    · unfold State.greetingInTraining
      rw [kept]
      cases check : checkGreeting bytes with
      | damaged => exact absurd check intact
      | bad => rfl
      | good g' => rfl
    · unfold State.acceptArrives
      rw [link]
      refine (if_pos greeted).trans ?_
      unfold State.progress
      dsimp only
      rw [kept]
      exact State.comeUp_eq offered g
    · unfold State.acceptArrives
      rw [link]
      refine (if_pos greeted).trans ?_
      unfold State.progress
      dsimp only
      rw [fresh]
      rfl
    · unfold State.greetingInTraining
      rw [bad, fresh]
      exact State.failAttempt_again few _
    · unfold State.greetingInTraining
      rw [bad, fresh]
      exact State.failAttempt_last many _
    · unfold State.greetingInTraining
      rw [damaged]
      exact State.damaged_notUp notUp
  · have check := checkGreeting_intact intact
    refine ⟨fun range kind => check.trans ?_, fun range kind => check.trans ?_, fun range kind => check.trans ?_,
      fun out => check.trans ?_⟩
    · rw [greetingValues_some (k := .module) (kind ▸ rfl) range]
    · rw [greetingValues_some (k := .router) (kind ▸ rfl) range]
    · rw [greetingValues_some (k := .controller) (kind ▸ rfl) range]
    · rw [greetingValues_none out]

/-! ## Losses and the damaged window (R126, R128 to R130) -/

/-- Settles O37: a failed attempt, a lost signal, a greeting or an accept while UP, and the oldest damaged frame. -/
theorem failuresLossesAndWindowExpiry : Obligations.FailuresLossesAndWindowExpiry := by
  refine ⟨fun p a s link => ?_, fun p s => ⟨fun up => ?_, fun a link => ?_, fun other => ?_⟩,
    fun p bytes s up intact => happens_of_event (f := State.greetingArrives p bytes) rfl ((State.greetingArrives_up up bytes).trans ?_),
    fun p bytes s up damaged => ⟨fun few => happens_of_event (f := State.greetingArrives p bytes) rfl
        ((State.greetingArrives_up up bytes).trans ?_), fun many => happens_of_event (f := State.greetingArrives p bytes) rfl
        ((State.greetingArrives_up up bytes).trans ?_)⟩,
    fun p s up => happens_of_event (f := State.acceptArrives p) rfl ?_,
    fun p s left rest window => happens_of_event (f := State.windowExpires p) rfl ?_⟩
  · have ends : s.attemptTimesOut p = (s.elapse a.left).failAttempt p .timeout := by
      unfold State.attemptTimesOut
      rw [link]
    have attempts : ((s.elapse a.left).port p).attempts = (s.port p).attempts := by
      rw [State.elapse_port]
      rfl
    exact ⟨fun few => happens_of_event (f := State.attemptTimesOut p) rfl
        (ends.trans (State.failAttempt_again (lt_of_eq_of_lt attempts few) _)),
      fun many => happens_of_event (f := State.attemptTimesOut p) rfl
        (ends.trans (State.failAttempt_last (le_of_le_of_eq many attempts.symm) _))⟩
  · refine happens_of_signal (f := State.signalLost p) (p := p) (present := false) rfl ?_
    obtain ⟨most, link⟩ := Link.eq_up_of_isUp up
    have same : ((s.setSignal p false).port p).link = .up most := link
    unfold State.signalLost
    rw [same]
    rfl
  · refine happens_of_signal (f := State.signalLost p) (p := p) (present := false) rfl ?_
    have same : ((s.setSignal p false).port p).link = .training a := link
    unfold State.signalLost
    rw [same]
    rfl
  · refine happens_of_signal (f := State.signalLost p) (p := p) (present := false) rfl ?_
    have same : ((s.setSignal p false).port p).link = (s.port p).link := rfl
    unfold State.signalLost
    rw [same]
    cases link : (s.port p).link with
    | up most => simp [link, Link.name] at other
    | training a => simp [link, Link.name] at other
    | _ => rfl
  · rw [if_neg intact]
  · rw [if_pos damaged, State.damaged_up up, if_neg (Nat.not_le.mpr few), State.modPort_modPort_same]
    rfl
  · rw [if_pos damaged, State.damaged_up up, if_pos many]
    rfl
  · obtain ⟨most, link⟩ := Link.eq_up_of_isUp up
    unfold State.acceptArrives
    rw [link]
  · unfold State.windowExpires
    rw [window]
    refine State.modPort_congr p _ ?_
    rw [State.elapse_port]
    unfold PortState.elapse
    dsimp only
    rw [window]
    rfl

end Sys2Proof.Machine
end

section
/-! The proof about the RESET symbol (R67, R132, R137, R154, R169, R178). -/

namespace Sys2Proof.Machine

/-- The RESET symbols that go out stand at the end of the wire, in the order of the bays. -/
theorem foldl_resetSymbols (bays : List Bay) (s : State) :
    bays.foldl (fun t b => if t.isUp b.port then t.emit (.resetSymbol b.port) else t) s
      = { s with wire := s.wire ++ (bays.filter fun b => s.isUp b.port).map fun b => .resetSymbol b.port } := by
  induction bays generalizing s with
  | nil => exact congrArg (fun w => { s with wire := w }) (List.append_nil s.wire).symm
  | cons b bays ih =>
    rw [List.foldl_cons]
    cases up : s.isUp b.port with
    | true =>
      rw [if_pos rfl, ih, List.filter_cons_of_pos (p := fun b : Bay => s.isUp b.port) up, List.map_cons, List.append_cons]
      rfl
    | false => rw [if_neg Bool.false_ne_true, ih, List.filter_cons_of_neg (p := fun b : Bay => s.isUp b.port) (Bool.eq_false_iff.mp up)]

theorem State.resetBays_eq (s : State) :
    s.resetBays = { s with wire := s.wire ++ (Bay.all.filter fun b => s.isUp b.port).map fun b => .resetSymbol b.port } :=
  foldl_resetSymbols Bay.all s

/-- What a trunk reset leaves, with this management link (R169). -/
def State.afterTrunkReset (m : ManagementLink) (s : State) : State :=
  { State.reset with
    pending := s.pending
    pins := s.pins
    conditions := s.conditions.afterReset
    loader := Loader.begin .trunkReset s.lostFetch
    management := m
    wire := s.wire ++ (Bay.all.filter fun b => s.isUp b.port).map fun b => .resetSymbol b.port }

theorem State.trunkReset_idle {s : State} (h : s.hostHead = none) : s.trunkReset = s.afterTrunkReset s.management := by
  have none : s.resetBays.endHostHead = s.resetBays := by
    unfold State.endHostHead
    rw [State.hostHead_congr s.resetBays_management, h]
    rfl
  unfold State.trunkReset
  rw [none, State.resetBays_eq]
  rfl

theorem State.trunkReset_running {s : State} {c : Message} {r : Request Unit} {d : Port} {left : Nat}
    (running : s.management.running = some ⟨c, .awaitLane r d left⟩) :
    s.trunkReset = s.afterTrunkReset (s.concluded c .notReady .empty s).management := by
  have ends : s.resetBays.endHostHead = s.concluded c .notReady .empty s.resetBays := by
    unfold State.endHostHead
    rw [State.hostHead_congr s.resetBays_management, State.hostHead_waiting running]
    exact State.conclude_eq running s.resetBays_management _ _
  unfold State.trunkReset
  rw [ends, State.resetBays_eq]
  rfl

theorem State.resetArrives_down {s : State} {p : Port} (down : s.isUp p = false) : s.resetArrives p = s :=
  if_pos (by rw [down]; rfl)

theorem State.resetArrives_malformed {s : State} {p : Port} (up : s.isUp p = true)
    (h : ¬(p = .t ∧ (s.port p).partnerMayReset = true)) : s.resetArrives p = s.latch (.origin (.link p)) .malformed :=
  (if_neg (by rw [up]; exact Bool.false_ne_true)).trans (if_neg h)

theorem State.resetArrives_trunk {s : State} (up : s.isUp .t = true) (may : (s.port .t).partnerMayReset = true) :
    s.resetArrives .t = s.trunkReset :=
  (if_neg (by rw [up]; exact Bool.false_ne_true)).trans (if_pos ⟨rfl, may⟩)

theorem PortState.partnerMayReset_iff {x : PortState} {g : Greeting} (h : x.greeting = some g) :
    x.partnerMayReset = true ↔ g.kind ≠ .module := by
  unfold PortState.partnerMayReset
  rw [h]
  dsimp only
  cases g.kind <;> decide

/-- Settles O39: a RESET symbol is dropped, is malformed, or resets the router, by the port and its partner. -/
theorem resetSymbolByPort : Obligations.ResetSymbolByPort := by
  refine ⟨fun p s => ⟨fun down => happens_of_event (f := State.resetArrives p) rfl (State.resetArrives_down down),
      fun up bay => happens_of_event (f := State.resetArrives p) rfl (State.resetArrives_malformed up fun k => bay k.1),
      fun g trunk up greeting kind => ?_, fun g trunk up greeting kind => ?_⟩,
    fun k => ⟨k.mem_afterReset, rfl, rfl, rfl, fun c => by cases c <;> rfl⟩,
    fun s => ⟨fun i n d e => ?_, fun i n d st e => ?_, fun e idle => ?_, fun e start => ?_⟩⟩
  · subst trunk
    exact happens_of_event (f := State.resetArrives .t) rfl
      (State.resetArrives_malformed up fun k => (PortState.partnerMayReset_iff greeting).mp k.2 kind)
  · subst trunk
    have resets := State.resetArrives_trunk up ((PortState.partnerMayReset_iff greeting).mpr kind)
    refine ⟨fun none => happens_of_event (f := State.resetArrives .t) rfl (resets.trans (State.trunkReset_idle none)),
      fun c h d left running => ⟨fun may => happens_of_event' (f := State.resetArrives .t) rfl
          ⟨s.management.without .response, resets.trans ((State.trunkReset_running running).trans ?_)⟩,
        fun full => happens_of_event (f := State.resetArrives .t) rfl
          (resets.trans ((State.trunkReset_running running).trans ?_))⟩⟩
    · unfold State.concluded
      rw [if_pos may]
      rfl
    · unfold State.concluded
      rw [if_neg (Bool.eq_false_iff.mp full)]
      rfl
  · unfold State.lostFetch
    rw [e]
  · unfold State.lostFetch
    rw [e]
  · unfold State.lostFetch
    rw [e]
    exact if_neg (by rw [idle]; exact Bool.false_ne_true)
  · unfold State.lostFetch
    rw [e]
    exact if_pos start

end Sys2Proof.Machine
end

section
/-! The proofs about a detection and about the condition commands (R140 to R148). -/

namespace Sys2Proof.Machine

/-! ## A detection (R140, R141, R148) -/

theorem State.latch_eq (i : SetId) (c : Condition) (s : State) :
    s.latch i c = { s with
      conditions := { s.conditions with sets := (s.latch i c).conditions.sets }
      notification := { s.notification with marks := (s.latch i c).notification.marks } } := by
  unfold State.latch
  dsimp only
  split <;> rfl

/-- A detection changes the sets, the captures and the marks. -/
theorem State.detect_eq (o : Origin) (c : Condition) (x : Subject) (s : State) :
    s.detect o c x = { s with
      conditions :=
        { s.conditions with
          sets := (s.detect o c x).conditions.sets
          routingCapture := (s.detect o c x).conditions.routingCapture
          exchangeCapture := (s.detect o c x).conditions.exchangeCapture }
      notification := { s.notification with marks := (s.detect o c x).notification.marks } } := by
  unfold State.detect State.fillCapture State.latch
  dsimp only
  split <;> split <;> rfl

theorem State.marks_detect (o : Origin) (c : Condition) (x : Subject) (s : State) (k : Category) :
    (s.detect o c x).notification.marks.get k
      = (s.notification.marks.get k || (k == c.category && !(s.latched (.origin o)).contains c && s.reports c)) := by
  rw [State.detect, State.fillCapture_notification, State.marks_latch]

theorem captured_eq (old : Option Capture) (o : Origin) (c : Condition) (x : Subject) :
    captured old o c x = some (match old with
      | none => ⟨o, c, x, 0⟩
      | some k => { k with later := min (k.later + 1) 65535 }) := by
  cases old <;> rfl

/-- A detection keeps the capture of another category. -/
theorem State.detect_routingCapture_of_ne {c : Condition} (o : Origin) (x : Subject) (s : State) (h : c.category ≠ .routing) :
    (s.detect o c x).conditions.routingCapture = s.conditions.routingCapture := by
  unfold State.detect State.fillCapture
  split
  next e => exact absurd e h
  next => exact State.latch_routingCapture ..
  next => exact State.latch_routingCapture ..
  next => exact State.latch_routingCapture ..

theorem State.detect_exchangeCapture_of_ne {c : Condition} (o : Origin) (x : Subject) (s : State) (h : c.category ≠ .exchange) :
    (s.detect o c x).conditions.exchangeCapture = s.conditions.exchangeCapture := by
  unfold State.detect State.fillCapture
  split
  next => exact State.latch_exchangeCapture ..
  next e => exact absurd e h
  next => exact State.latch_exchangeCapture ..
  next => exact State.latch_exchangeCapture ..

theorem marks_form (a b : Bool) (k : Category) (s : State) (c : Condition) :
    (a || (k == c.category && !b && s.reports c))
      = (a || (k == c.category && !b && (s.conditions.reporting.get c.category).value.enable
        && !(s.conditions.reporting.get c.category).value.masked.contains c)) := by
  simp only [State.reports, Bool.and_assoc]

/-- Settles O40, by the laws of `latch` and `fillCapture`. -/
theorem detectionLatchesReportsAndCaptures : Obligations.DetectionLatchesReportsAndCaptures := by
  refine ⟨fun s i c => ⟨fun j k => State.mem_latched_latch i j c k s, fun k => ?_, State.latch_eq i c s⟩,
    fun s o c x => ⟨fun i k => State.mem_latched_detect o c k x s i, fun k => ?_, fun h => ⟨?_, ?_⟩, fun h => ⟨?_, ?_⟩,
      fun h => ⟨?_, ?_⟩, State.detect_eq o c x s⟩⟩
  · exact (State.marks_latch i c s k).trans (marks_form ..)
  · exact (State.marks_detect o c x s k).trans (marks_form ..)
  · exact (State.detect_routingCapture o x s h).trans (captured_eq ..)
  · exact State.detect_exchangeCapture_of_ne o x s (by rw [h]; decide)
  · exact (State.detect_exchangeCapture o x s h).trans (captured_eq ..)
  · exact State.detect_routingCapture_of_ne o x s (by rw [h]; decide)
  · exact State.detect_routingCapture_of_ne o x s (by rcases h with h | h <;> rw [h] <;> decide)
  · exact State.detect_exchangeCapture_of_ne o x s (by rcases h with h | h <;> rw [h] <;> decide)

/-! ## The names in a parameter list (R138, R195) -/

theorem listParam_cons {n : Byte} {items : List Byte} (h : items.length = n.toNat) : listParam (n :: items) = some items := if_pos h

theorem conditionNames_eq_some {allowed : Condition → Bool} {bytes : List Byte} {names : List Condition}
    (h : bytes.mapM Condition.ofByte = some names) (all : ∀ c ∈ names, allowed c = true) :
    conditionNames allowed bytes = some names := by
  unfold conditionNames
  induction bytes generalizing names with
  | nil => exact h
  | cons b rest ih =>
    obtain ⟨c, hc, cs, hcs, rfl⟩ : ∃ c, Condition.ofByte b = some c ∧ ∃ cs, rest.mapM Condition.ofByte = some cs ∧ c :: cs = names := by
      simpa [Option.bind_eq_some_iff] using h
    have named : (Condition.ofByte b).filter allowed = some c := by
      rw [hc, Option.filter_some, if_pos (all c List.mem_cons_self)]
    rw [List.mapM_cons, named, ih hcs fun k hk => all k (List.mem_cons_of_mem c hk)]
    rfl

/-- One byte that names no allowed condition spoils the list. -/
theorem conditionNames_eq_none {allowed : Condition → Bool} {bytes : List Byte} {b : Byte} (hb : b ∈ bytes)
    (bad : ∀ c, Condition.ofByte b = some c → allowed c = false) : conditionNames allowed bytes = none := by
  have named : (Condition.ofByte b).filter allowed = none :=
    Option.filter_eq_none_iff.mpr fun c hc => Bool.eq_false_iff.mp (bad c hc)
  unfold conditionNames
  induction bytes with
  | nil => cases hb
  | cons x rest ih =>
    rw [List.mapM_cons]
    rcases List.mem_cons.mp hb with rfl | later
    · rw [named]; rfl
    · rw [ih later]
      cases (Condition.ofByte x).filter allowed <;> rfl

/-- A name that a list of bytes gives is named by one of its bytes. -/
theorem exists_byte_of_mem_names {bytes : List Byte} {names : List Condition} {c : Condition}
    (h : bytes.mapM Condition.ofByte = some names) (hc : c ∈ names) : ∃ b ∈ bytes, Condition.ofByte b = some c := by
  induction bytes generalizing names with
  | nil =>
    cases h
    cases hc
  | cons b rest ih =>
    obtain ⟨k, hk, cs, hcs, rfl⟩ : ∃ k, Condition.ofByte b = some k ∧ ∃ cs, rest.mapM Condition.ofByte = some cs ∧ k :: cs = names := by
      simpa [Option.bind_eq_some_iff] using h
    rcases List.mem_cons.mp hc with rfl | later
    · exact ⟨b, List.mem_cons_self, hk⟩
    · obtain ⟨x, hx, e⟩ := ih hcs later
      exact ⟨x, List.mem_cons_of_mem b hx, e⟩

/-! ## SET REPORTING (R143) -/

theorem exec_setReporting (m : HostMsg) (s : State) :
    exec (.setReporting m) s = event (State.take ⟨0x50, m⟩ false
      (State.runAct ⟨0x50, m⟩ fun params s => actSetReporting s.isForwarding false params s)) s := rfl

theorem Category.ofByte_of_three_lt {b : Byte} (h : 3 < b.toNat) : Category.ofByte b = none := by
  obtain ⟨n, hn⟩ := Nat.exists_eq_add_of_le' h
  simp only [Category.ofByte, hn]

theorem actSetReporting_some {k e n : Byte} {items : List Byte} {cat : Category} {enable : Bool} {names : List Condition}
    (hn : items.length = n.toNat) (hk : Category.ofByte k = some cat) (he : flagOfByte e = some enable)
    (hi : items.mapM Condition.ofByte = some names) (all : ∀ c ∈ names, c.category = cat) (forwarding fix : Bool) (s : State) :
    actSetReporting forwarding fix (k :: e :: n :: items) s = some (setReportingTo cat ⟨enable, inOrder names⟩ fix s) := by
  have hnames := conditionNames_eq_some (allowed := fun c => c.category == cat) hi fun c hc => beq_iff_eq.mpr (all c hc)
  simp only [actSetReporting, listParam_cons hn, Option.map_some, hk, he, hnames]

theorem actSetReporting_badValue {k e n : Byte} {items : List Byte} (hn : items.length = n.toNat)
    (h : 3 < k.toNat ∨ 1 < e.toNat
      ∨ ∃ cat b, Category.ofByte k = some cat ∧ b ∈ items ∧ ∀ c, Condition.ofByte b = some c → c.category ≠ cat)
    (forwarding fix : Bool) (s : State) :
    actSetReporting forwarding fix (k :: e :: n :: items) s = some (refuse .badValue s) := by
  simp only [actSetReporting, listParam_cons hn, Option.map_some]
  refine congrArg some ?_
  rcases h with h | h | ⟨cat, b, hk, hb, bad⟩
  · rw [Category.ofByte_of_three_lt h]
  · rw [flagOfByte_of_one_lt h]
    cases Category.ofByte k <;> rfl
  · have hnames : conditionNames (fun c => c.category == cat) items = none :=
      conditionNames_eq_none hb fun c hc => beq_eq_false_iff_ne.mpr (bad c hc)
    rw [hk]
    cases flagOfByte e with
    | none => rfl
    | some enable => simp only [hnames]

/-! ## READ CONDITIONS and CLEAR CONDITIONS (R145, R146) -/

theorem exec_readConditions (m : HostMsg) (s : State) :
    exec (.readConditions m) s = event (State.take ⟨0x51, m⟩ false (State.runAct ⟨0x51, m⟩ actReadConditions)) s := rfl

theorem exec_clearConditions (m : HostMsg) (s : State) :
    exec (.clearConditions m) s = event (State.take ⟨0x52, m⟩ false (State.runAct ⟨0x52, m⟩ actClearConditions)) s := rfl

theorem actReadConditions_some {sel : Byte} {i : SetId} (h : SetId.ofByte sel = some i) (s : State) :
    actReadConditions [sel] s = some (done (.conditions (s.latched i) s.conditions.reporting) s) := by
  simp only [actReadConditions, h]

theorem actReadConditions_none {sel : Byte} (h : 8 < sel.toNat) (s : State) :
    actReadConditions [sel] s = some (refuse .badValue s) := by
  simp only [actReadConditions, SetId.ofByte_of_eight_lt h]

theorem actClearConditions_some {sel : Byte} {i : SetId} (h : SetId.ofByte sel = some i) (rest : List Byte) (s : State) :
    actClearConditions (sel :: rest) s = clearConditions i rest s := by
  simp only [actClearConditions, h]

theorem actClearConditions_none {sel : Byte} (h : 8 < sel.toNat) (s : State) :
    actClearConditions [sel, 0xFF] s = some (refuse .badValue s) := by
  simp only [actClearConditions, SetId.ofByte_of_eight_lt h, if_true]

/-- Clearing all the names empties the set and tells what it held. -/
theorem clearNames_all (i : SetId) (s : State) : clearNames i Condition.all s = done (.names (s.latched i)) (s.setLatched i []) := by
  have kept : (s.latched i).filter Condition.all.contains = s.latched i :=
    List.filter_eq_self.mpr fun c _ => List.contains_iff_mem.mpr (Condition.mem_all c)
  have gone : ((s.latched i).filter fun c => !Condition.all.contains c) = [] :=
    List.filter_eq_nil_iff.mpr fun c _ => by
      rw [List.contains_iff_mem.mpr (Condition.mem_all c)]
      exact Bool.false_ne_true
  simp only [clearNames, kept, gone]

section
variable {n : Byte} {items : List Byte} (hn : items.length = n.toNat)
include hn

/-- A list whose count byte is right is not ALL. -/
theorem listParam_ne_all : n :: items ≠ [0xFF] := by
  rintro e
  cases e
  cases hn

theorem clearConditions_empty (empty : items = []) (i : SetId) (s : State) : clearConditions i (n :: items) s = some (refuse .badValue s) := by
  simp only [clearConditions, if_neg (listParam_ne_all hn), listParam_cons hn, Option.map_some, if_pos (Or.inl empty)]

/-- The list of a command that names 1 to 21 conditions is read. -/
theorem clearConditions_named {i : SetId} {names : List Condition} (h1 : 1 ≤ items.length) (h21 : items.length ≤ 21)
    (h : conditionNames i.mayHold items = some names) (s : State) : clearConditions i (n :: items) s = some (clearNames i names s) := by
  have within : ¬(items = [] ∨ Condition.all.length < items.length) := by
    rintro (rfl | long)
    · exact Nat.not_succ_le_zero 0 h1
    · exact Nat.not_lt.mpr h21 long
  simp only [clearConditions, if_neg (listParam_ne_all hn), listParam_cons hn, Option.map_some, if_neg within, h]

theorem clearConditions_unnamed {i : SetId} (h : conditionNames i.mayHold items = none) (s : State) :
    clearConditions i (n :: items) s = some (refuse .badValue s) := by
  simp only [clearConditions, if_neg (listParam_ne_all hn), listParam_cons hn, Option.map_some, h, ite_self]

end

/-- Settles O41: each act answers from its selector and its list. -/
theorem conditionCommandResults : Obligations.ConditionCommandResults := by
  refine ⟨⟨fun m k e n items cat enable names s h hp hn hk he hi all => ⟨fun same => ?_, fun hf hv => ?_⟩,
    fun m k e n items s h hp hn bad => ?_, fun m sel s h hp hs => ?_, fun m sel s h hp => ⟨fun i hi => ?_, fun hs => ?_⟩,
    fun m sel i s h hp hi => ?_⟩,
    fun m sel n items i s h hp hn hi => ⟨fun empty _ => ?_, fun names h1 h21 hnames => ⟨fun all => ?_, fun odd => ?_⟩⟩⟩
  · have reply : setReportingTo cat ⟨enable, inOrder names⟩ false s.taken = _ := writeItem_taken same
    rw [Bool.or_false] at reply
    exact h.answers (exec_setReporting m s) hp ((actSetReporting_some hn hk he hi all _ _ _).trans (congrArg some reply))
  · exact h.refused (exec_setReporting m s) hp
      ((actSetReporting_some hn hk he hi all _ _ _).trans (congrArg some (writeItem_fixed hf hv)))
  · exact h.refused (exec_setReporting m s) hp (actSetReporting_badValue hn bad _ _ _)
  · exact h.refused (exec_clearConditions m s) hp (actClearConditions_none hs s.taken)
  · exact h.answers (exec_readConditions m s) hp (actReadConditions_some hi s.taken)
  · exact h.refused (exec_readConditions m s) hp (actReadConditions_none hs s.taken)
  · exact h.answers (exec_clearConditions m s) hp
      ((actClearConditions_some hi _ _).trans (congrArg some (clearNames_all i s.taken)))
  · exact h.refused (exec_clearConditions m s) hp ((actClearConditions_some hi _ _).trans (clearConditions_empty hn empty i s.taken))
  · exact h.answers (exec_clearConditions m s) hp
      ((actClearConditions_some hi _ _).trans (clearConditions_named hn h1 h21 (conditionNames_eq_some hnames all) s.taken))
  · obtain ⟨c, hc, bad⟩ := odd
    obtain ⟨b, hb, hbc⟩ := exists_byte_of_mem_names hnames hc
    have unnamed : conditionNames i.mayHold items = none :=
      conditionNames_eq_none hb fun k hk => by rw [← Option.some.inj (hbc.symm.trans hk)]; exact bad
    exact h.refused (exec_clearConditions m s) hp ((actClearConditions_some hi _ _).trans (clearConditions_unnamed hn unnamed s.taken))

end Sys2Proof.Machine
end

section
/-! The proof about OPEN and CLOSE ROUTING and READ LOAD REPORT (R57, R179 to R181): closing decides again the heads that wait for a
lane, and one port's heads leave the request classes of the others alone. -/

namespace Sys2Proof.Machine

/-! ## The heads of one port, and the classes of another -/

section
variable {p q : Port} (ne : q ≠ p)
include ne

theorem SameRequests.modPort_of_ne (f : PortState → PortState) (s : State) : SameRequests q s (s.modPort p f) := by
  unfold SameRequests
  rw [State.port_modPort, if_neg ne]
  exact ⟨rfl, rfl⟩

theorem SameRequests.grantSlot_of_ne (s : State) : SameRequests q s (s.grantSlot p) := by
  unfold State.grantSlot
  split
  · exact ((SameRequests.modPort_of_ne ne _ s).trans (.modPort_of_ne ne _ _)).trans (.setPointer _ _ _ _ _)
  · exact .refl q s

omit ne in
/-- An answer that is forwarded leaves every request class as it is. -/
theorem SameRequests.grantForward (q p o : Port) (s : State) : SameRequests q s (s.grantForward p o) := by
  unfold State.grantForward
  split
  · split
    · split
      · refine (((SameRequests.modPort ⟨rfl, rfl⟩).trans (.noteForwarded _ _ _ _ _ _ _)).trans (.modPort ?_)).trans
          (.setPointer _ _ _ _ _)
        rw [PortState.popAnswer_eq]
        exact ⟨rfl, rfl⟩
      · exact .refl q s
    · exact .refl q s
  · exact .refl q s

theorem SameRequests.offerAnswerLane_of_ne (s : State) : SameRequests q s (s.offerAnswerLane p (.link p)) := by
  unfold State.offerAnswerLane State.grantAnswerLane
  dsimp only
  split
  · split
    · exact .grantSlot_of_ne ne s
    · exact .grantForward q p p s
  · exact .refl q s

theorem SameRequests.refuseHead_of_ne (r : Request Byte) (st : AnsStatus) (left : Nat) (s : State) :
    SameRequests q s (s.refuseHead p r st left) := by
  cases r with
  | store a b sp => exact .modPort_of_ne ne _ s
  | fetch a n t sp => exact (SameRequests.modPort_of_ne ne _ s).trans (.offerAnswerLane_of_ne ne _)
  | notice t f c b sp => exact .modPort_of_ne ne _ s

theorem SameRequests.grantLink_of_ne (d : Port) (s : State) : SameRequests q s (s.grantLink d p) := by
  have placed : ∀ (t : State) r, t.ports = s.ports → SameRequests q s ((t.placeRequest d (.link p) r).modPort p PortState.popRequest) :=
    fun t r e => ((SameRequests.of_ports e).trans (.placeRequest q d _ r t)).trans (.modPort_of_ne ne _ _)
  unfold State.grantLink
  split
  · split
    · split
      · exact placed _ _ rfl
      · exact ((SameRequests.setPointer _ _ _ _ s).trans (.detect _ _ _ _ _)).trans (.refuseHead_of_ne ne _ _ _ _)
    · exact placed s _ rfl
    · exact placed s _ rfl
  · exact .refl q s

theorem SameRequests.offerRequestLane_of_ne (d : Port) (s : State) : SameRequests q s (s.offerRequestLane d (.link p)) := by
  unfold State.offerRequestLane
  split
  · exact .grantLink_of_ne ne d s
  · exact .refl q s

theorem SameRequests.takeUpRequest_of_ne (r : Request Byte) (s : State) : SameRequests q s (s.takeUpRequest p r) := by
  have marked : SameRequests q s (if r.spoiled then s.detect (.link p) .spoiled r.subject else s) := by
    split
    · exact .detect _ _ _ _ _
    · exact .refl q s
  unfold State.takeUpRequest
  generalize (if r.spoiled then s.detect (.link p) .spoiled r.subject else s) = t at marked
  refine marked.trans ?_
  dsimp only
  split
  · rename_i d _
    exact (SameRequests.modPort_of_ne ne (fun x => { x with requestWait := some (.lane d t.stallLimit.value) }) t).trans
      (.offerRequestLane_of_ne ne d _)
  · unfold State.inboxHead
    split
    · have appended := fun x => SameRequests.of_ports (p := q) (ports_appendInbox x t)
      split
      · exact (appended _).trans (.modPort_of_ne ne _ _)
      · exact (appended _).trans (.modPort_of_ne ne _ _)
    · exact .refl q t
  · exact (SameRequests.detect _ _ _ _ t).trans (.refuseHead_of_ne ne _ _ _ _)
  · exact .modPort_of_ne ne _ t
  · exact (SameRequests.detect _ _ _ _ t).trans (.modPort_of_ne ne _ _)

theorem SameRequests.serveRequests_of_ne (s : State) : SameRequests q s (s.serveRequests p) := by
  unfold State.serveRequests
  generalize (s.port p).requests.length = n
  induction n generalizing s with
  | zero => exact .refl q s
  | succ n ih =>
    unfold State.serveRequestsUpTo
    split
    · exact (SameRequests.takeUpRequest_of_ne ne _ s).trans (ih _)
    · exact .refl q s

theorem SameRequests.redecideLink_of_ne (st : AnsStatus) (c : Condition) (s : State) : SameRequests q s (s.redecideLink p st c) := by
  unfold State.redecideLink
  split
  · exact ((SameRequests.detect _ _ _ _ s).trans (.refuseHead_of_ne ne _ _ _ _)).trans (.serveRequests_of_ne ne _)
  · exact .refl q s

end

/-! ## Decided again -/

/-- A head that waits for no lane is left as it is. -/
theorem State.redecideLink_noLane {p : Port} {s : State} (h : ∀ d left, (s.port p).requestWait ≠ some (.lane d left)) (st : AnsStatus)
    (c : Condition) : s.redecideLink p st c = s := by
  unfold State.redecideLink
  split
  · rename_i wait _
    exact absurd wait (h _ _)
  · rfl

theorem State.redecideLink_cons {p d : Port} {left : Nat} {r : Request Byte} {rest : List (Request Byte)} {s : State}
    (wait : (s.port p).requestWait = some (.lane d left)) (head : (s.port p).requests = r :: rest) (st : AnsStatus) (c : Condition) :
    s.redecideLink p st c = ((s.detect (.link p) c r.subject).refuseHead p r st left).serveRequests p := by
  unfold State.redecideLink
  rw [wait, head]

/-- Ports of which none has a head that waits for a lane. -/
theorem State.redecideLinks_noLane {l : List Port} {s : State}
    (h : ∀ q ∈ l, ∀ d left, (s.port q).requestWait ≠ some (.lane d left)) (st : AnsStatus) (c : Condition) :
    l.foldl (fun s p => s.redecideLink p st c) s = s := by
  induction l with
  | nil => rfl
  | cons q l ih =>
    rw [List.foldl_cons, State.redecideLink_noLane (h q List.mem_cons_self)]
    exact ih fun o ho => h o (List.mem_cons_of_mem q ho)

/-- When one port alone has a head that waits for a lane, that head alone is decided again. -/
theorem State.redecideAll_single {p : Port} {s : State}
    (h : ∀ q d left, q ≠ p → (s.port q).requestWait ≠ some (.lane d left)) :
    s.redecideAll = s.redecideLink p .notReady .notReadyDrop := by
  have mem : p ∈ Port.all := by cases p <;> decide
  have nodup : Port.all.Nodup := by decide
  obtain ⟨before, after, split⟩ := List.append_of_mem mem
  rw [split, List.nodup_middle, List.nodup_cons, List.mem_append, not_or] at nodup
  obtain ⟨⟨notBefore, notAfter⟩, _⟩ := nodup
  unfold State.redecideAll
  rw [split, List.foldl_append, List.foldl_cons,
    State.redecideLinks_noLane fun q hq d left => h q d left fun e => notBefore (e ▸ hq)]
  refine State.redecideLinks_noLane (fun q hq d left => ?_) _ _
  have ne : q ≠ p := fun e => notAfter (e ▸ hq)
  rw [(SameRequests.redecideLink_of_ne ne .notReady .notReadyDrop s).2]
  exact h q d left ne

/-- A waiting head that is a STORE or a notice is dropped, with a credit owed on a link that is UP (R57, R44). -/
theorem State.dropRequest_detect {p : Port} {r : Request Byte} {rest : List (Request Byte)} {s : State}
    (head : (s.port p).requests = r :: rest) (o : Origin) (c : Condition) (x : Subject) :
    (s.detect o c x).dropRequest p
      = (s.detect o c x).modPort p fun y =>
        { y with
          requests := rest
          requestWait := none
          owed := if s.isUp p then y.owed.set .request (y.owed.request + 1) else y.owed
          counters := { y.counters with dropped := y.counters.dropped + 1 } } := by
  have port := State.detect_port o c x s p
  have isUp : (s.detect o c x).isUp p = s.isUp p := congrArg (fun y : PortState => y.link.isUp) port
  rw [State.dropRequest_eq, isUp]
  refine State.modPort_congr p _ ?_
  rw [port, head]
  rfl

/-! ## The commands -/

theorem exec_openRouting (m : HostMsg) (s : State) :
    exec (.openRouting m) s = event (State.take ⟨0x72, m⟩ false (State.runAct ⟨0x72, m⟩ actOpenRouting)) s := rfl

theorem exec_closeRouting (m : HostMsg) (s : State) :
    exec (.closeRouting m) s = event (State.take ⟨0x73, m⟩ false (State.runAct ⟨0x73, m⟩ actCloseRouting)) s := rfl

theorem exec_readLoadReport (m : HostMsg) (s : State) :
    exec (.readLoadReport m) s = event (State.take ⟨0x71, m⟩ true (State.runAct ⟨0x71, m⟩ actReadLoadReport)) s := rfl

theorem actOpenRouting_configuring {s : State} (h : s.loader.state = .configuring) :
    actOpenRouting [] s
      = some (if s.routes.ownStation.value = 0 then refuse .wrongState s else done .empty (s.setRouterState .forwarding)) := by
  simp only [actOpenRouting, h]

theorem actOpenRouting_forwarding {s : State} (h : s.loader.state = .forwarding) :
    actOpenRouting [] s = some (refuse .wrongState s) := by
  simp only [actOpenRouting, h]

theorem actCloseRouting_forwarding {s : State} (h : s.loader.state = .forwarding) :
    actCloseRouting [] s = some (done .empty (s.setRouterState .configuring).redecideAll) := by
  simp only [actCloseRouting, h]

theorem actCloseRouting_configuring {s : State} (h : s.loader.state = .configuring) :
    actCloseRouting [] s = some (refuse .wrongState s) := by
  simp only [actCloseRouting, h]

/-- A command without parameters that is given some. -/
theorem actOpenRouting_params {params : List Byte} (h : params ≠ []) (s : State) : actOpenRouting params s = none := by
  obtain ⟨b, rest, rfl⟩ := List.exists_cons_of_ne_nil h
  rfl

theorem actCloseRouting_params {params : List Byte} (h : params ≠ []) (s : State) : actCloseRouting params s = none := by
  obtain ⟨b, rest, rfl⟩ := List.exists_cons_of_ne_nil h
  rfl

theorem actReadLoadReport_params {params : List Byte} (h : params ≠ []) (s : State) : actReadLoadReport params s = none := by
  obtain ⟨b, rest, rfl⟩ := List.exists_cons_of_ne_nil h
  rfl

/-- Settles O49: the acts by the router state, and the heads decided again port by port. -/
theorem routingOpenedClosedAndReportRead : Obligations.RoutingOpenedClosedAndReportRead := by
  refine ⟨fun m s => ⟨fun h => ⟨fun hp => ?_, fun hp conf own => ?_, fun hp conf own => ?_, fun hp forw => ?_⟩, fun h start => ?_⟩,
    fun m s => ⟨fun h => ⟨fun hp => ?_, fun hp forw => ?_, fun hp conf => ?_⟩, fun h start => ?_⟩,
    fun flag params t hf => runRecord_notInLoad params t hf (by decide) rfl,
    fun s none => State.redecideLinks_noLane (fun q _ => none q) _ _, fun p s _ others => State.redecideAll_single others,
    fun p d left r rest s wait head => ⟨fun a b sp hr => ?_, fun t f c b sp hr => ?_, fun a n tag sp hr full => ?_⟩,
    fun m s h => ⟨fun hp => ?_, fun hp => ?_⟩⟩
  · exact h.badLength (exec_openRouting m s) (actOpenRouting_params hp _)
  · exact h.answers (exec_openRouting m s) hp ((actOpenRouting_configuring (s := s.taken) conf).trans (congrArg some (if_neg own)))
  · exact h.refused (exec_openRouting m s) hp ((actOpenRouting_configuring (s := s.taken) conf).trans (congrArg some (if_pos own)))
  · exact h.refused (exec_openRouting m s) hp (actOpenRouting_forwarding (s := s.taken) forw)
  · exact answers_notReady (exec_openRouting m s) h start
  · exact h.badLength (exec_closeRouting m s) (actCloseRouting_params hp _)
  · exact effect_of_act (exec_closeRouting m s) h.toTaken (.inr h.running) (hp ▸ actCloseRouting_forwarding (s := s.taken) forw)
  · exact h.refused (exec_closeRouting m s) hp (actCloseRouting_configuring (s := s.taken) conf)
  · exact answers_notReady (exec_closeRouting m s) h start
  · subst hr
    exact (State.redecideLink_cons wait head _ _).trans (congrArg (State.serveRequests p) (State.dropRequest_detect head _ _ _))
  · subst hr
    exact (State.redecideLink_cons wait head _ _).trans (congrArg (State.serveRequests p) (State.dropRequest_detect head _ _ _))
  · subst hr
    have lane := congrArg PortState.answerLane (State.detect_port (.link p) .notReadyDrop (.fetch a n (some tag) sp) s p)
    refine (State.redecideLink_cons wait head _ _).trans ?_
    refine (congrArg (State.serveRequests p) (State.refuseHead_waits (.inl (le_of_le_of_eq full (congrArg List.length lane.symm))) _ _)).trans ?_
    refine State.serveRequests_idle (.inl ?_)
    rw [State.port_modPort_same]
    exact Option.some_ne_none _
  · exact answers_of_done (exec_readLoadReport m s) h (.inl rfl) (hp ▸ rfl)
  · exact answers_badLength (exec_readLoadReport m s) h (.inl rfl) (actReadLoadReport_params hp _)

end Sys2Proof.Machine
end

section
/-! The proof about the load image: the records of an image that passes its tests, and what reading it comes to (R172, R199). -/

namespace Sys2Proof.Machine

/-! ## The tests of an image (R172) -/

/-- The area of these records. -/
def recordsArea (rs : List LoadRecord) : List Byte := rs.flatMap LoadRecord.bytes

theorem LoadRecord.length_body_le_area {rs : List LoadRecord} {r : LoadRecord} (h : r ∈ rs) :
    r.body.length ≤ (recordsArea rs).length := by
  have part : List.Sublist r.bytes (recordsArea rs) := List.sublist_flatten_of_mem (List.mem_map_of_mem h)
  refine le_trans ?_ part.length_le
  unfold LoadRecord.bytes
  rw [List.length_append]
  exact Nat.le_add_left _ _

/-- An image with a whole header. -/
theorem parseImage_header (m1 m0 n1 n0 l1 l0 c1 c0 : Byte) (rest : List Byte) :
    parseImage (m1 :: m0 :: n1 :: n0 :: l1 :: l0 :: c1 :: c0 :: rest)
      = if word16 m1 m0 = 0x5A7E ∧ (word16 n1 n0).toNat ≤ 64 ∧ (word16 l1 l0).toNat ≤ 4096
            ∧ (rest.take (word16 l1 l0).toNat).length = (word16 l1 l0).toNat
            ∧ crc16 (rest.take (word16 l1 l0).toNat) = word16 c1 c0 then
          parseRecords (word16 n1 n0).toNat (rest.take (word16 l1 l0).toNat)
        else none := rfl

theorem parseImage_short {bytes : List Byte} (h : bytes.length < 8) : parseImage bytes = none := by
  unfold parseImage
  split
  · simp only [List.length_cons] at h
    omega
  · rfl

/-- An image made of its records is read as them. -/
theorem parseImage_of_records {rs : List LoadRecord} (few : rs.length ≤ 64) (small : (recordsArea rs).length ≤ 4096)
    (bodies : ∀ r ∈ rs, 1 ≤ r.body.length) (more : List Byte) :
    parseImage ([0x5A, 0x7E] ++ nat16 rs.length ++ nat16 (recordsArea rs).length ++ bytes16 (crc16 (recordsArea rs)) ++ recordsArea rs
      ++ more) = some rs := by
  have count := word16_nat16 rs.length (lt_of_le_of_lt few (by decide))
  have total := word16_nat16 (recordsArea rs).length (lt_of_le_of_lt small (by decide))
  have check := word16_bytes (crc16 (recordsArea rs))
  have area : (recordsArea rs ++ more).take (recordsArea rs).length = recordsArea rs := List.take_left
  have shape : [0x5A, 0x7E] ++ nat16 rs.length ++ nat16 (recordsArea rs).length ++ bytes16 (crc16 (recordsArea rs)) ++ recordsArea rs
      ++ more
      = 0x5A :: 0x7E :: BitVec.ofNat 8 (rs.length / 256) :: BitVec.ofNat 8 rs.length
        :: BitVec.ofNat 8 ((recordsArea rs).length / 256) :: BitVec.ofNat 8 (recordsArea rs).length
        :: (crc16 (recordsArea rs)).extractLsb' 8 8 :: (crc16 (recordsArea rs)).extractLsb' 0 8 :: (recordsArea rs ++ more) := by
    simp only [nat16, bytes16, List.cons_append, List.nil_append]
  rw [shape, parseImage_header, count, total, area, check, if_pos ⟨rfl, few, small, rfl, rfl⟩]
  exact parseRecords_of_area rs fun r hr =>
    ⟨bodies r hr, lt_of_le_of_lt (LoadRecord.length_body_le_area hr) (lt_of_le_of_lt small (by decide))⟩

/-- An image that fails one of its tests is none. -/
theorem parseImage_bad {m1 m0 n1 n0 l1 l0 c1 c0 : Byte} {rest : List Byte}
    (bad : word16 m1 m0 ≠ 0x5A7E ∨ 64 < (word16 n1 n0).toNat ∨ 4096 < (word16 l1 l0).toNat ∨ rest.length < (word16 l1 l0).toNat
      ∨ crc16 (rest.take (word16 l1 l0).toNat) ≠ word16 c1 c0
      ∨ ∀ rs : List LoadRecord, rs.length = (word16 n1 n0).toNat → (∀ r ∈ rs, r.fits) →
          recordsArea rs ≠ rest.take (word16 l1 l0).toNat) :
    parseImage (m1 :: m0 :: n1 :: n0 :: l1 :: l0 :: c1 :: c0 :: rest) = none := by
  rw [parseImage_header]
  split
  · rename_i good
    obtain ⟨marker, few, small, long, check⟩ := good
    rw [List.length_take] at long
    rcases bad with h | h | h | h | h | unread
    · exact absurd marker h
    · exact absurd few (Nat.not_le.mpr h)
    · exact absurd small (Nat.not_le.mpr h)
    · exact absurd long (ne_of_lt (lt_of_le_of_lt (Nat.min_le_right _ _) h))
    · exact absurd check h
    · refine Option.eq_none_iff_forall_ne_some.mpr fun rs hrs => ?_
      obtain ⟨count, fit, area⟩ := area_of_parseRecords hrs
      exact unread rs count fit area
  · rfl

/-! ## Reading the image -/

/-- The device was read. -/
def State.memoryWasRead (s : State) : State := { s with wire := s.wire ++ [.memoryRead 0x51 0] }

theorem State.loadImage_reading {s : State} (h : s.loader.state = .start .reading) (r : ImageRead) :
    s.loadImage r = s.memoryWasRead.imageRead r := by
  unfold State.loadImage
  rw [h]
  rfl

theorem State.imageRead_absent {r : ImageRead} (h : r.deviceAck = false) (s : State) : s.imageRead r = s.setPhase (.offering .absent) := by
  unfold State.imageRead
  rw [h]
  rfl

/-- What follows the tests of an image. -/
def State.imageTested (image : Option (List LoadRecord)) (s : State) : State :=
  match image with
  | none => (s.latch .router .loadFailed).setPhase (.offering .badImage)
  | some [] => s.setPhase (.offering .good)
  | some (x :: rest) => s.setPhase (.replaying 1 (x :: rest))

/-- A device that answers is read whole or not. -/
theorem State.imageRead_answered {r : ImageRead} (ack : r.deviceAck = true) (s : State) :
    s.imageRead r = s.imageTested (if r.allAck then parseImage r.bytes else none) := by
  unfold State.imageRead
  rw [ack]
  rfl

/-- Settles O45: an area is read as the records that fill it, and an image fails with any one test. -/
theorem loadImageReadByTest : Obligations.LoadImageReadByTest := by
  refine ⟨fun rs more few small bodies => parseImage_of_records few small bodies more, fun bytes h => parseImage_short h,
    fun m1 m0 n1 n0 l1 l0 c1 c0 rest bad => parseImage_bad bad,
    fun r s start => ⟨fun absent => ?_, fun ack bad => ?_, fun ack all empty => ?_, fun x rest ack all image => ?_⟩⟩
  · exact happens_of_event rfl ((State.loadImage_reading start r).trans (State.imageRead_absent absent _))
  · have none : (if r.allAck then parseImage r.bytes else none) = none := by
      rcases bad with cut | bad
      · exact if_neg (Bool.eq_false_iff.mp cut)
      · rw [bad, ite_self]
    refine happens_of_event rfl ((State.loadImage_reading start r).trans ((State.imageRead_answered ack _).trans ?_))
    rw [none]
    unfold State.imageTested State.setPhase
    dsimp only
    rw [State.latch_loader]
    rfl
  · have image : (if r.allAck then parseImage r.bytes else none) = some [] := (if_pos all).trans empty
    exact happens_of_event rfl ((State.loadImage_reading start r).trans ((State.imageRead_answered ack _).trans
      (congrArg (fun k => State.imageTested k s.memoryWasRead) image)))
  · have image : (if r.allAck then parseImage r.bytes else none) = some (x :: rest) := (if_pos all).trans image
    exact happens_of_event rfl ((State.loadImage_reading start r).trans ((State.imageRead_answered ack _).trans
      (congrArg (fun k => State.imageTested k s.memoryWasRead) image)))

end Sys2Proof.Machine
end

section
/-! The proof about the tests that come before a command runs: memory, NOT READY, BAD KIND and the length of its parameters (R167, R186,
R195). -/

namespace Sys2Proof

open Machine

/-- The number of parameter bytes of a command whose parameters have a fixed length (R195). -/
def Instr.paramCount : Instr → Option Nat
  | .identify _ | .resetRouter _ | .readLoadReport _ | .openRouting _ | .closeRouting _ => some 0
  | .setStation _ | .readRoutes _ | .cancelExchange _ | .listExchanges _ | .readLanes _ | .holdBay _ | .releaseBay _ | .retrain _
  | .readLink _ | .readConditions _ | .readCapture _ | .releaseCapture _ | .ackNotify _ _ | .maskStream _ | .unmaskStream _ _ => some 1
  | .setSpoiled _ | .readInbox _ | .setStallLimit _ | .readCounters _ | .setStreams _ => some 2
  | .setBayRange _ | .setPermits _ | .setQuota _ => some 3
  | .setExchangeTimers _ | .setLink _ => some 4
  | .issueFetch _ => some 6
  | .setWindow _ | .setDirected _ => some 10
  | _ => none

end Sys2Proof

namespace Sys2Proof.Machine

/-! ## A command of its own kind -/

/-- A message is taken with its row's body, unless a command kind is named as a bad one. -/
theorem exec_of_message {i : Instr} {kind : Byte} {m : HostMsg} (hm : i.message = some (kind, m))
    (own : ∀ k n, i = .badKindMessage k n → isCommandKind k = false) (s : State) :
    exec i s = event (State.take ⟨kind, m⟩ i.inStart i.body) s := by
  have answered := exec_answered i s
  generalize out : exec i s = x at answered
  cases answered with
  | command k n h =>
    obtain ⟨rfl, rfl⟩ := Prod.mk.inj (Option.some.inj (h.symm.trans hm))
    rfl
  | commandKind k n h =>
    subst h
    obtain ⟨rfl, rfl⟩ := Prod.mk.inj (Option.some.inj hm)
    exact out.symm.trans ((exec_badKindMessage _ _ s).trans (if_neg (Bool.eq_false_iff.mp (own _ _ rfl))))
  | event h => cases h.symm.trans hm
  | signal p level h => rcases h with rfl | rfl <;> cases hm
  | power h => rcases h with ⟨_, _, rfl⟩ | rfl <;> cases hm

theorem exec_of_command {i : Instr} {kind : Byte} {m : HostMsg} (hm : i.message = some (kind, m)) (own : ∀ k n, i ≠ .badKindMessage k n)
    (s : State) : exec i s = event (State.take ⟨kind, m⟩ i.inStart i.body) s :=
  exec_of_message hm (fun k n e => absurd e (own k n)) s

/-- The commands that run in START are IDENTIFY and READ LOAD REPORT (R167). -/
theorem inStart_iff_of_message {i : Instr} {kind : Byte} {m : HostMsg} (hm : i.message = some (kind, m))
    (own : ∀ k n, i ≠ .badKindMessage k n) : i.inStart = true ↔ kind = 0x01 ∨ kind = 0x71 := by
  cases i
  case badKindMessage k n => exact absurd rfl (own k n)
  all_goals cases hm
  all_goals simp [Instr.inStart]

/-- A table of R195, by instruction. -/
theorem paramCount_of_message {i : Instr} {kind : Byte} {m : HostMsg} {n : Nat} (hm : i.message = some (kind, m))
    (own : ∀ k n, i ≠ .badKindMessage k n)
    (h : (kind, n) ∈
      [((0x01 : Byte), 0), (0x10, 1), (0x11, 3), (0x12, 10), (0x13, 10), (0x14, 3), (0x15, 2), (0x16, 1), (0x20, 2), (0x30, 3),
        (0x31, 4), (0x32, 1), (0x33, 6), (0x34, 1), (0x38, 2), (0x39, 1), (0x40, 4), (0x41, 1), (0x42, 1), (0x43, 1),
        (0x44, 1), (0x51, 1), (0x53, 1), (0x54, 1), (0x55, 2), (0x60, 2), (0x61, 1), (0x62, 1), (0x63, 1), (0x70, 0),
        (0x71, 0), (0x72, 0), (0x73, 0)]) : i.paramCount = some n := by
  cases i
  case badKindMessage k n => exact absurd rfl (own k n)
  all_goals cases hm
  all_goals simp at h
  all_goals simp [Instr.paramCount, h]

theorem State.runAct_none {c : Message} {act : Act} {s : State} (h : act c.msg.params s = none) :
    s.runAct c act = s.respond c .badLength .empty := by
  unfold State.runAct
  rw [h]

theorem State.runReleasing_none {c : Message} {act : Act} {s : State} (h : act c.msg.params s = none) (first : Bool) :
    s.runReleasing c act first = s.respond c .badLength .empty := by
  unfold State.runReleasing
  rw [h]

theorem withStream_none {params : List Byte} (h : params.length ≠ 1) (s : State) (f : Nat → Stream → Reply) :
    withStream params s f = none := by
  unfold withStream
  split
  · exact absurd rfl h
  · rfl

/-- A command whose parameters must have a fixed length is answered BAD LENGTH when they have another (test 4 of R186). -/
theorem body_of_badLength {i : Instr} {kind : Byte} {m : HostMsg} {n : Nat} (hm : i.message = some (kind, m))
    (count : i.paramCount = some n) (wrong : m.params.length ≠ n) (s : State) :
    i.body s = s.respond ⟨kind, m⟩ .badLength .empty := by
  cases i with
  | ackNotify m first | unmaskStream m first =>
    cases hm
    cases count
    exact State.runReleasing_none (withStream_none wrong s _) first
  | maskStream m =>
    cases hm
    cases count
    exact State.runAct_none (withStream_none wrong s _)
  | issueFetch m =>
    cases hm
    cases count
    dsimp only [Instr.body, State.startFetch]
    split
    · rename_i e
      rw [e] at wrong
      exact absurd rfl wrong
    · rfl
  | resetRouter m =>
    cases hm
    cases count
    dsimp only [Instr.body, State.startReset]
    split
    · rename_i e
      rw [e] at wrong
      exact absurd rfl wrong
    · rfl
  | setStation m | setBayRange m | setWindow m | setDirected m | setPermits m | setSpoiled m | readRoutes m | readInbox m | setQuota m
  | setExchangeTimers m | cancelExchange m | listExchanges m | setStallLimit m | readLanes m | setLink m | holdBay m | releaseBay m
  | retrain m | readLink m | readConditions m | readCapture m | releaseCapture m | readCounters m | setStreams m | readLoadReport m
  | openRouting m | closeRouting m | identify m =>
    cases hm
    cases count
    refine State.runAct_none ?_
    dsimp only [actSetStation, actSetBayRange, actSetWindow, actSetDirected, actSetPermits, actSetSpoiled, actReadRoutes, actReadInbox,
      actSetQuota, actSetExchangeTimers, actCancelExchange, actListExchanges, actSetStallLimit, actReadLanes, actSetLink, actHoldBay,
      actReleaseBay, actRetrain, actReadLink, actReadConditions, actReadCapture, actReleaseCapture, actReadCounters, actSetStreams,
      actReadLoadReport, actOpenRouting, actCloseRouting, actIdentify]
    split
    · rename_i e
      rw [e] at wrong
      exact absurd rfl wrong
    · rfl
  | _ => cases count

/-! ## Parameters of no fixed length -/

theorem flagOfByte_eq_some_iff (b : Byte) (flag : Bool) : flagOfByte b = some flag ↔ b = flagByte flag := by
  constructor
  · intro h
    unfold flagOfByte at h
    split at h
    · rename_i zero
      cases h
      exact BitVec.eq_of_toNat_eq zero
    · rename_i one
      cases h
      exact BitVec.eq_of_toNat_eq one
    · cases h
  · rintro rfl
    cases flag <;> rfl

/-- A field that is present or not stands before what is left (R195). -/
theorem optionalField_eq_some {n : Nat} {bytes rest : List Byte} {field : Option (List Byte)}
    (h : optionalField n bytes = some (field, rest)) : bytes = optField id field ++ rest ∧ ∀ b, field = some b → b.length = n := by
  unfold optionalField at h
  split at h
  · rename_i mark more
    split at h
    · rename_i present
      split at h
      · rename_i long
        obtain ⟨rfl, rfl⟩ := Prod.mk.inj (Option.some.inj h)
        rw [(flagOfByte_eq_some_iff mark true).mp present]
        refine ⟨congrArg (List.cons 1) (List.take_append_drop n more).symm, fun b hb => ?_⟩
        rw [← Option.some.inj hb]
        exact List.length_take_of_le long
      · cases h
    · rename_i absent
      obtain ⟨rfl, rfl⟩ := Prod.mk.inj (Option.some.inj h)
      rw [(flagOfByte_eq_some_iff mark false).mp absent]
      exact ⟨rfl, fun _ k => by cases k⟩
    · cases h
  · cases h

/-- What PROBE ROUTE reads of its fields is what they are made of (R195). -/
theorem probeFields_eq_some {rest : List Byte} {a n st : Option (List Byte)} (h : probeFields rest = some (a, n, st)) :
    rest = optField id a ++ optField id n ++ optField id st ∧ (∀ b, a = some b → b.length = 4) ∧ (∀ b, n = some b → b.length = 2)
      ∧ ∀ b, st = some b → b.length = 1 := by
  unfold probeFields at h
  split at h
  · rename_i ha
    split at h
    · rename_i hn
      split at h
      · rename_i hst
        cases h
        obtain ⟨ea, la⟩ := optionalField_eq_some ha
        obtain ⟨en, ln⟩ := optionalField_eq_some hn
        obtain ⟨est, lst⟩ := optionalField_eq_some hst
        rw [List.append_nil] at est
        exact ⟨by rw [ea, en, est, List.append_assoc], la, ln, lst⟩
      · cases h
    · cases h
  · cases h

/-- A field of a PROBE ROUTE as it is present or not. -/
theorem optField_cases {n : Nat} {field : Option (List Byte)} (h : ∀ b, field = some b → b.length = n) :
    optField id field = [0] ∨ ∃ bytes : List Byte, bytes.length = n ∧ optField id field = 1 :: bytes := by
  cases field with
  | none => exact .inl rfl
  | some b => exact .inr ⟨b, h b rfl, rfl⟩

/-- PROBE ROUTE whose fields are not those of its kind (R38, R195). -/
theorem actProbeRoute_none {params : List Byte}
    (h : params.length < 2
      ∨ ∃ x k rest, params = x :: k :: rest
        ∧ ((k = 0 ∧ ∀ a3 a2 a1 a0 n1 n0, rest ≠ [1, a3, a2, a1, a0, 1, n1, n0, 0])
          ∨ (k = 1 ∧ ∀ st, rest ≠ [0, 0, 1, st])
          ∨ (1 < k.toNat ∧ ∀ a n st : Option (List Byte), (∀ b, a = some b → b.length = 4) → (∀ b, n = some b → b.length = 2) →
              (∀ b, st = some b → b.length = 1) → rest ≠ optField id a ++ optField id n ++ optField id st)))
    (s : State) : actProbeRoute params s = none := by
  rcases h with short | ⟨x, k, rest, rfl, h⟩
  · unfold actProbeRoute
    split
    · simp only [List.length_cons] at short
      omega
    · rfl
  · unfold actProbeRoute
    dsimp only
    split
    · rename_i zero fields
      obtain ⟨shape, -⟩ := probeFields_eq_some fields
      rcases h with ⟨-, h⟩ | ⟨rfl, -⟩ | ⟨big, -⟩
      · exact absurd shape (h _ _ _ _ _ _)
      · cases zero
      · omega
    · rename_i one fields
      obtain ⟨shape, -⟩ := probeFields_eq_some fields
      rcases h with ⟨rfl, -⟩ | ⟨-, h⟩ | ⟨big, -⟩
      · cases one
      · exact absurd shape (h _)
      · omega
    · rfl
    · rfl
    · rename_i fields _ _ notZero notOne
      rcases h with ⟨rfl, -⟩ | ⟨rfl, -⟩ | ⟨-, h⟩
      · exact absurd rfl notZero
      · exact absurd rfl notOne
      · obtain ⟨shape, la, ln, lst⟩ := probeFields_eq_some fields
        exact absurd shape (h _ _ _ la ln lst)
    · rfl

/-- ISSUE STORE whose payload does not have its length (R64, R195). -/
theorem issueStoreParams_none {params : List Byte}
    (h : params.length < 7 ∨ ∃ a3 a2 a1 a0 n1 n0 rest, params = a3 :: a2 :: a1 :: a0 :: n1 :: n0 :: rest
      ∧ rest.length ≠ (word16 n1 n0).toNat + 1) : issueStoreParams params = none := by
  unfold issueStoreParams
  split
  · rename_i a3 a2 a1 a0 n1 n0 rest
    dsimp only
    split
    · rename_i flag left
      have length := congrArg List.length left
      rw [List.length_drop, List.length_singleton] at length
      rcases h with short | ⟨_, _, _, _, _, _, _, e, wrong⟩
      · simp only [List.length_cons] at short
        omega
      · cases e
        omega
    · rfl
  · rfl

theorem State.startStore_badLength {c : Message} (h : issueStoreParams c.msg.params = none) (s : State) :
    s.startStore c = s.respond c .badLength .empty := by
  unfold State.startStore
  rw [h]

theorem State.startNotice_badLength {c : Message} (h : c.msg.params.length < 3) (s : State) :
    s.startNotice c = s.respond c .badLength .empty := by
  unfold State.startNotice
  split
  · rename_i e
    rw [e] at h
    simp only [List.length_cons] at h
    omega
  · rfl

theorem listParam_none {n : Byte} {items : List Byte} (h : items.length ≠ n.toNat) : listParam (n :: items) = none := if_neg h

/-- SET REPORTING without a whole list (R143, R195). -/
theorem actSetReporting_none {params : List Byte}
    (h : params.length < 3 ∨ ∃ c e n items, params = c :: e :: n :: items ∧ items.length ≠ n.toNat) (forwarding fix : Bool) (s : State) :
    actSetReporting forwarding fix params s = none := by
  unfold actSetReporting
  split
  · rename_i rest
    rcases h with short | ⟨_, _, n, items, e, wrong⟩
    · have empty : rest = [] := List.length_eq_zero_iff.mp (by simp only [List.length_cons] at short; omega)
      rw [empty]
      rfl
    · cases e
      rw [listParam_none wrong]
      rfl
  · rfl

/-- CLEAR CONDITIONS with neither a whole list nor ALL (R146, R195). -/
theorem actClearConditions_badLength {params : List Byte}
    (h : params.length < 2 ∨ ∃ sel n items, params = sel :: n :: items ∧ items.length ≠ n.toNat ∧ (n ≠ 0xFF ∨ items ≠ [])) (s : State) :
    actClearConditions params s = none := by
  unfold actClearConditions
  split
  · rename_i sel rest
    have unlisted : rest ≠ [0xFF] ∧ listParam rest = none := by
      rcases h with short | ⟨_, n, items, e, wrong, notAll⟩
      · have empty : rest = [] := List.length_eq_zero_iff.mp (by simp only [List.length_cons] at short; omega)
        rw [empty]
        exact ⟨(List.cons_ne_nil _ _).symm, rfl⟩
      · cases e
        refine ⟨fun all => ?_, listParam_none wrong⟩
        cases all
        exact notAll.elim (fun k => k rfl) fun k => k rfl
    unfold clearConditions
    simp only [if_neg unlisted.1, unlisted.2, Option.map_none]
    cases SetId.ofByte sel <;> rfl
  · rfl

/-! ## The tests in order (R186) -/

/-- A message of a kind that is no command's is answered BAD KIND once it is taken, in START too. -/
theorem answers_badKind {kind : Byte} {m : HostMsg} {s : State} (bad : isCommandKind kind = false) (h : Taken s ⟨kind, m⟩) :
    Answers (.badKindMessage kind m) s ⟨kind, m⟩ .badKind .empty s :=
  effect_of_run (exec_of_message rfl (fun k n e => by cases e; exact bad) s) h (.inl rfl) ⟨_, State.respond_eq _ _ _ s.taken⟩

/-- A command whose body answers BAD LENGTH. -/
theorem answers_badLength_of_body {i : Instr} {c : Message} {s : State} (he : exec i s = event (State.take c i.inStart i.body) s)
    (h : Taken s c) (hs : i.inStart = true ∨ s.inStart = false) (body : i.body s.taken = s.taken.respond c .badLength .empty) :
    Answers i s c .badLength .empty s :=
  effect_of_run he h hs ⟨_, body.trans (State.respond_eq _ _ _ s.taken)⟩

/-- Settles O52: by the tests that follow the taking of a message, and by the parameters each command reads. -/
theorem testsBeforeACommandRuns : Obligations.TestsBeforeACommandRuns := by
  refine ⟨fun i kind m s hm _ own ne1 ne71 h start => ?_, fun kind m s bad h => ⟨answers_badKind bad h, ?_, rfl⟩,
    fun i kind m s response hm own porn idle place head last => ?_, fun i kind m s hm own h runs => ?_⟩
  · have he := exec_of_command hm own s
    have out : i.inStart = false := Bool.eq_false_iff.mpr fun k =>
      ((inStart_iff_of_message hm own).mp k).elim (fun e => ne1 e) fun e => ne71 e
    rw [out] at he
    exact answers_notReady he h start
  · exact if_neg (Bool.eq_false_iff.mp bad)
  · exact effect_of_repeat (exec_of_message hm own s) porn idle place head last
  · have allowed : i.inStart = true ∨ s.inStart = false := runs.symm.imp_left (inStart_iff_of_message hm own).mpr
    have wrong := answers_badLength_of_body (exec_of_command hm own s) h allowed
    refine ⟨fun n hn length => ?_, fun hk length => ?_, fun hk bad => ?_, fun hk bad => ?_, fun hk short => ?_, fun hk bad => ?_,
      fun hk bad => ?_⟩
    · exact wrong (body_of_badLength hm (paramCount_of_message hm own hn) length s.taken)
    all_goals subst hk
    · obtain rfl : i = .echo m := by
        cases i with
        | badKindMessage k n => exact absurd rfl (own k n)
        | echo n => cases hm; rfl
        | _ => cases hm
      exact wrong (State.runAct_none (actEcho_of_lt s.taken length))
    · obtain rfl : i = .probeRoute m := by
        cases i with
        | badKindMessage k n => exact absurd rfl (own k n)
        | probeRoute n => cases hm; rfl
        | _ => cases hm
      refine wrong (State.runAct_none (actProbeRoute_none ?_ s.taken))
      refine bad.imp_right fun ⟨x, k, rest, e, h⟩ => ⟨x, k, rest, e, h.imp_right (Or.imp_right (And.imp_right fun bad a n st la ln lst => ?_))⟩
      exact bad _ _ _ (optField_cases la) (optField_cases ln) (optField_cases lst)
    · obtain rfl : i = .issueStore m := by
        cases i with
        | badKindMessage k n => exact absurd rfl (own k n)
        | issueStore n => cases hm; rfl
        | _ => cases hm
      exact wrong (State.startStore_badLength (issueStoreParams_none bad) s.taken)
    · obtain rfl : i = .sendNotice m := by
        cases i with
        | badKindMessage k n => exact absurd rfl (own k n)
        | sendNotice n => cases hm; rfl
        | _ => cases hm
      exact wrong (State.startNotice_badLength short s.taken)
    · obtain rfl : i = .setReporting m := by
        cases i with
        | badKindMessage k n => exact absurd rfl (own k n)
        | setReporting n => cases hm; rfl
        | _ => cases hm
      exact wrong (State.runAct_none (actSetReporting_none bad _ _ s.taken))
    · obtain rfl : i = .clearConditions m := by
        cases i with
        | badKindMessage k n => exact absurd rfl (own k n)
        | clearConditions n => cases hm; rfl
        | _ => cases hm
      exact wrong (State.runAct_none (actClearConditions_badLength bad s.taken))

end Sys2Proof.Machine
end

section
/-! The proofs about the receiver of the management link and about the bytes that are sent: what is sent reads back (R183 to R185, R195,
R198, R200 to R202). -/

namespace Sys2Proof.Machine

/-! ## A message on the line (R183, R195) -/

/-- A body length in range is not out of range. -/
theorem lengthOutOfRange_nat16 {n : Nat} (h2 : 2 ≤ n) (most : n ≤ 4160) :
    lengthOutOfRange (BitVec.ofNat 8 (n / 256)) (BitVec.ofNat 8 n) = false := by
  have value := word16_nat16 n (by omega)
  have least : Config.bodyMin = 2 := rfl
  have max : Config.bodyMax = 4160 := rfl
  simp only [lengthOutOfRange, value, least, max, Bool.or_eq_false_iff, decide_eq_false_iff_not]
  omega

/-- Length, body and check, read after a start byte (R183). -/
theorem scan_message {kind seq : Byte} {params : List Byte} {check : Word16} (most : params.length + 2 ≤ 4160)
    (matching : crc16 (nat16 (params.length + 2) ++ kind :: seq :: params) = check) :
    scan 0 (0x9C :: (nat16 (params.length + 2) ++ kind :: seq :: params) ++ bytes16 check) = ([.message ⟨kind, ⟨seq, params, check⟩⟩], none) := by
  have check' := word16_bytes check
  have length := word16_nat16 (params.length + 2) (by omega)
  have good := gather_good (kind := kind) (seq := seq) (params := params) [] (lengthOutOfRange_nat16 (Nat.le_add_left 2 _) most) length.symm
    (c1 := check.extractLsb' 8 8) (c0 := check.extractLsb' 0 8) (matching.trans check'.symm)
  rw [check'] at good
  have shape : 0x9C :: (nat16 (params.length + 2) ++ kind :: seq :: params) ++ bytes16 check
      = Config.startByte :: (BitVec.ofNat 8 ((params.length + 2) / 256) :: BitVec.ofNat 8 (params.length + 2)
          :: (kind :: seq :: params ++ check.extractLsb' 8 8 :: check.extractLsb' 0 8 :: [])) := by
    simp only [nat16, bytes16, List.cons_append, List.nil_append]
    rfl
  have used : params.length + 6 = (BitVec.ofNat 8 ((params.length + 2) / 256) :: BitVec.ofNat 8 (params.length + 2)
      :: (kind :: seq :: params ++ check.extractLsb' 8 8 :: check.extractLsb' 0 8 :: [])).length := by
    simp only [List.length_cons, List.length_append, List.length_nil]
  have skipped := scan_skip (BitVec.ofNat 8 ((params.length + 2) / 256) :: BitVec.ofNat 8 (params.length + 2)
      :: (kind :: seq :: params ++ check.extractLsb' 8 8 :: check.extractLsb' 0 8 :: [])) []
  rw [List.append_nil, ← used] at skipped
  rw [shape, scan_start, good]
  dsimp only
  rw [skipped]
  rfl

/-- A good message's envelope is that message (R183, R195). -/
theorem scan_envelope {kind : Byte} {m : HostMsg} (h : m.good kind = true) :
    scan 0 (m.envelope kind) = ([.message ⟨kind, m⟩], none) := by
  unfold HostMsg.good at h
  rw [Bool.and_eq_true, decide_eq_true_eq, beq_iff_eq] at h
  exact scan_message h.1 h.2.symm

/-- So are a sent message's bytes. -/
theorem OutMessage.bytes_eq (x : OutMessage) :
    x.bytes = 0x9C :: (nat16 (x.body.bytes.length + 2) ++ x.kind :: x.seq :: x.body.bytes)
      ++ bytes16 (crc16 (nat16 (x.body.bytes.length + 2) ++ x.kind :: x.seq :: x.body.bytes)) := rfl

/-! ## Bytes that arrive (R183, R184) -/

theorem exec_messageReceive (bytes : List Byte) (s : State) : exec (.messageReceive bytes) s = event (State.receive bytes) s := rfl

theorem scan_startByte : scan 0 [0x9C] = ([], some []) := scan_start []

/-- What a good message on the line comes to while the receiver hunts. -/
theorem State.receive_envelope {kind : Byte} {m : HostMsg} {s : State} (hunting : s.management.gathered = none) (good : m.good kind = true) :
    s.receive (m.envelope kind) = ((s.messageArrives ⟨kind, m⟩).noteWaiting).withGathered none := by
  refine (State.receive_hunting hunting (List.cons_ne_nil Config.startByte (m.covered kind ++ bytes16 m.check))).trans ?_
  exact congrArg (fun found => s.afterScan found) (scan_envelope good)

/-- Bytes without a start byte leave a hunting receiver as it is. -/
theorem State.receive_noStart {bytes : List Byte} {s : State} (hunting : s.management.gathered = none) (none : 0x9C ∉ bytes) :
    s.receive bytes = s := by
  cases bytes with
  | nil => rfl
  | cons b rest => rw [State.receive_hunting hunting (List.cons_ne_nil b rest), scan_of_noStart none, State.afterScan_hunting hunting]

/-- The framing error is counted. -/
def State.framingCounted (s : State) : State := s.countRouter RouterCounters.addFraming

/-- After a bad check hunting goes on at the byte after the start byte. -/
theorem State.receive_badCheck {hi lo c1 c0 : Byte} {body : List Byte} {s : State} (hunting : s.management.gathered = none)
    (inRange : lengthOutOfRange hi lo = false) (length : body.length = (word16 hi lo).toNat)
    (wrong : crc16 (hi :: lo :: body) ≠ word16 c1 c0) :
    s.receive (0x9C :: (hi :: lo :: body ++ [c1, c0])) = s.framingCounted.noteWaiting.receive (hi :: lo :: body ++ [c1, c0]) := by
  have bad : gather (hi :: lo :: body ++ [c1, c0]) = .badCheck := gather_badCheck [] inRange length wrong
  have found : scan 0 (0x9C :: (hi :: lo :: body ++ [c1, c0]))
      = (.framingError :: (scan 0 (hi :: lo :: body ++ [c1, c0])).1, (scan 0 (hi :: lo :: body ++ [c1, c0])).2) := by
    refine (scan_start _).trans ?_
    rw [bad]
  rw [State.receive_hunting hunting (List.cons_ne_nil _ _), found, State.afterScan_framingError]
  exact (State.receive_hunting (s := s.framingCounted.noteWaiting) hunting (List.cons_ne_nil _ _)).symm

/-- Two length bytes out of range that follow a start byte are examined again (R183). -/
theorem State.lengthArrives_out {hi lo : Byte} {left : Nat} {s : State} (gathering : s.management.gathered = some ⟨[], left⟩)
    (out : lengthOutOfRange hi lo = true) : s.lengthArrives hi lo = s.afterScan (scan 0 [hi, lo]) := by
  have found : scan 0 [0x9C, hi, lo] = scan 0 [hi, lo] := by
    refine (scan_start _).trans ?_
    rw [gather_lengthOut [] out]
  unfold State.lengthArrives
  rw [gathering]
  dsimp only
  rw [if_pos out, State.receive_gathering gathering (List.cons_ne_nil _ _)]
  exact congrArg (fun k => s.afterScan k) found

theorem State.elapse_gathering {g : Gathering} {s : State} (h : s.management.gathered = some g) (n : Nat) :
    (s.elapse n).management.gathered = if n ≤ g.left then some ⟨g.taken, g.left - n⟩ else none := by
  show s.management.gathered.bind (Gathering.elapse n) = _
  rw [h]
  rfl

/-- Settles O53, by what the receiver finds in the bytes (`scan`, `gather`) and what is done with a message. -/
theorem receiverTakesMessages : Obligations.ReceiverTakesMessages := by
  refine ⟨fun kind m s hunting good => ?message, fun hi lo c1 c0 body s porn hunting inRange length wrong => ?badCheck,
    fun bytes s hunting none => happens_of_event rfl (State.receive_noStart hunting none),
    fun bytes g s porn gathering some => ?gathering, fun bytes s => ?next, fun s hunting => ?start,
    fun hi lo left s gathering out => ?length, fun g s gathering => ⟨happens_of_event rfl (State.abandon_gathering gathering), fun n => ?gap⟩,
    fun s hunting => happens_of_event rfl (State.abandon_hunting hunting)⟩
  case message =>
    have arrives := State.receive_envelope hunting good
    have still : ∀ t : State, t.management.gathered = none → t.noteWaiting.withGathered none = t.withWaiting t.noteWaiting.management.waiting :=
      fun t ht => by unfold State.withGathered State.noteWaiting State.withWaiting; dsimp only; rw [← ht]
    refine ⟨fun room => ?_, fun full busy => ?_, fun full busy => ?_⟩
    · rw [State.messageArrives_queued _ room] at arrives
      exact happens_of_event' rfl ⟨_, arrives.trans (still _ hunting)⟩
    · rw [State.messageArrives_busy _ (Nat.not_lt.mpr full) busy] at arrives
      exact happens_of_event' rfl ⟨_, arrives.trans (still _ hunting)⟩
    · rw [State.messageArrives_discarded _ (Nat.not_lt.mpr full) (Bool.eq_false_iff.mp busy)] at arrives
      exact happens_of_event' rfl ⟨_, arrives.trans (still _ hunting)⟩
  case badCheck =>
    have again := State.receive_badCheck hunting inRange length wrong
    refine ⟨⟨s.framingCounted.noteWaiting.management.waiting, ?_⟩, fun none => happens_of_event' rfl ⟨_, again.trans (State.receive_noStart hunting none)⟩⟩
    have up : s.framingCounted.noteWaiting.pins.porn = true := porn
    rw [exec_messageReceive, exec_messageReceive]
    unfold event
    rw [if_pos porn]
    refine Eq.trans ?_ (if_pos up).symm
    exact congrArg (fun t : State => Host.Outcome.next t.noteWaiting) again
  case gathering =>
    rw [exec_messageReceive, exec_messageReceive]
    unfold event
    rw [if_pos porn]
    refine Eq.trans ?_ (if_pos porn).symm
    rw [State.receive_gathering gathering some]
    have hunting : (s.withGathered none).management.gathered = none := rfl
    have same := (State.receive_hunting hunting (List.cons_ne_nil 0x9C (g.taken ++ bytes))).trans (State.afterScan_withGathered _ _ s)
    exact congrArg (fun t : State => Host.Outcome.next t.noteWaiting) same.symm
  case next =>
    rw [exec_messageReceive]
    unfold event
    split
    · exact ⟨_, rfl⟩
    · exact ⟨_, rfl⟩
  case start =>
    refine happens_of_event rfl ?_
    unfold State.startByteArrives
    rw [hunting]
    exact (State.receive_hunting hunting (List.cons_ne_nil _ _)).trans (congrArg (fun k => s.afterScan k) scan_startByte)
  case length =>
    have arrives := State.lengthArrives_out gathering out
    refine ⟨fun hh hl => happens_of_event rfl (arrives.trans ?_), fun hh hl => happens_of_event rfl (arrives.trans ?_),
      fun hh => happens_of_event rfl (arrives.trans ?_)⟩
    · rw [scan_of_noStart (bytes := [hi, lo])]
      · rfl
      · simp only [List.mem_cons, List.not_mem_nil, or_false, not_or]
        exact ⟨hh.symm, hl.symm⟩
    · rw [scan_of_ne _ hh, hl]
      rfl
    · rw [hh]
      rfl
  case gap =>
    rw [State.elapse_gathering gathering]
    exact ⟨fun h => if_pos h, fun h => if_neg (Nat.not_le.mpr h)⟩

end Sys2Proof.Machine
end

section
/-! The proof that the forms that are sent read back: frames, greetings and messages (R124, R195, R198, R200 to R202). -/

namespace Sys2Proof.Machine

/-! ## Checks (R201) -/

/-- A frame sent with its check is intact when its length field and kind name all that the check covers. -/
theorem frameCheckOk_withLinkCheck {covered : List Byte} (least : 4 ≤ covered.length)
    (whole : coveredBytes (withLinkCheck covered) = covered.length) : frameCheckOk (withLinkCheck covered) = true := by
  have length : (withLinkCheck covered).length = covered.length + 4 := List.length_append
  have before : (withLinkCheck covered).take covered.length = covered := List.take_left
  have after : ((withLinkCheck covered).drop covered.length).take 4 = bytes32 (crc32 covered) := congrArg (List.take 4) List.drop_left
  unfold frameCheckOk
  dsimp only
  rw [whole, length, before, after, beq_self_eq_true, decide_eq_true least, decide_eq_true le_rfl]
  rfl

theorem coveredBytes_known {kind : Byte} {k : Nat} (known : kindFieldBytes kind = some k) (f p1 p0 : Byte) (rest : List Byte) :
    coveredBytes (kind :: f :: p1 :: p0 :: rest) = 4 + k + (word16 p1 p0).toNat := by
  simp only [coveredBytes, known]

theorem frameFlags_spoiled (spoiled final : Bool) : (frameFlags spoiled final).getLsbD 0 = spoiled := by
  cases spoiled <;> cases final <;> rfl

theorem frameFlags_final (spoiled final : Bool) : (frameFlags spoiled final).getLsbD 1 = final := by
  cases spoiled <;> cases final <;> rfl

theorem AnsStatus.ofCode_code (st : AnsStatus) : AnsStatus.ofCode st.code = some st := by cases st <;> rfl

/-! ## Frames (R198) -/

/-- A frame with its payload: what its head and its kind's fields are, and that it is intact. -/
theorem frame_intact {kind : Byte} {k : Nat} (known : kindFieldBytes kind = some k) (flags : Byte) {fields payload : List Byte}
    (hk : fields.length = k) (most : payload.length < 65536) :
    frameCheckOk (withLinkCheck (kind :: flags :: (nat16 payload.length ++ (fields ++ payload)))) = true := by
  have length : (kind :: flags :: (nat16 payload.length ++ (fields ++ payload))).length = 4 + k + payload.length := by
    simp only [nat16, List.length_cons, List.length_append, List.length_nil, hk]
    omega
  refine frameCheckOk_withLinkCheck (by rw [length]; omega) ?_
  rw [length]
  refine (coveredBytes_known known _ _ _ _).trans ?_
  rw [word16_nat16 _ most]

/-- A payload and the check after it, as the parts of a frame see them. -/
theorem payload_of_tail (payload : List Byte) (check : Word32) :
    (payload ++ bytes32 check).length = payload.length + 4 ∧ (payload ++ bytes32 check).take payload.length = payload :=
  ⟨List.length_append, List.take_left⟩

theorem store_readBack {d : List Byte} {most : Nat} (h1 : 1 ≤ d.length) (hm : d.length ≤ most) (h : d.length ≤ 1024) (a : Word32) (sp : Bool) :
    frameCheckOk ((Request.store a d sp : Request Byte).bytes id) = true
      ∧ parseFrame .request most ((Request.store a d sp : Request Byte).bytes id) = some (.request (.store a d sp)) := by
  have small : d.length < 65536 := lt_of_le_of_lt h (by decide)
  have shape : [FrameKind.store.code, frameFlags sp false] ++ nat16 d.length ++ bytes32 a ++ d
      = 0x01 :: frameFlags sp false :: (nat16 d.length ++ (bytes32 a ++ d)) := by
    simp only [List.append_assoc, List.cons_append, List.nil_append]
    rfl
  unfold Request.bytes
  dsimp only
  rw [shape]
  refine ⟨frame_intact rfl _ rfl small, ?_⟩
  have length := word16_nat16 d.length small
  obtain ⟨tail, payload⟩ := payload_of_tail d (crc32 (0x01 :: frameFlags sp false :: (nat16 d.length ++ (bytes32 a ++ d))))
  refine (parseFrame_store most _ _ _ _ _ _ _ _).trans ?_
  rw [length]
  refine (if_pos ⟨tail, h1, hm, h⟩).trans ?_
  rw [word32_bytes, frameFlags_spoiled]
  exact congrArg (fun l => some (Frame.request (.store a l sp))) payload

theorem fetch_readBack {n : Nat} (h1 : 1 ≤ n) (h : n ≤ 4096) (most : Nat) (a : Word32) (tag : Byte) (sp : Bool) :
    frameCheckOk ((Request.fetch a n tag sp).bytes id) = true
      ∧ parseFrame .request most ((Request.fetch a n tag sp).bytes id) = some (.request (.fetch a n tag sp)) := by
  have shape : [FrameKind.fetch.code, frameFlags sp false] ++ nat16 0 ++ bytes32 a ++ nat16 n ++ [id tag]
      = 0x02 :: frameFlags sp false :: (nat16 ([] : List Byte).length ++ (bytes32 a ++ nat16 n ++ [tag] ++ [])) := by
    simp only [List.append_assoc, List.cons_append, List.nil_append, List.append_nil]
    rfl
  unfold Request.bytes
  dsimp only
  rw [shape]
  refine ⟨frame_intact rfl _ rfl (by decide), ?_⟩
  refine (parseFrame_fetch most _ _ _ _ _ _ _ _ _ _ _).trans ?_
  rw [word16_nat16 n (by omega)]
  refine (if_pos ⟨rfl, rfl, h1, h⟩).trans ?_
  rw [word32_bytes, frameFlags_spoiled]

theorem notice_readBack {target : Byte} {d : List Byte} (ht : target ≠ 0) (h : d.length ≤ 32) (most : Nat) (source : Byte) (c : Word16)
    (sp : Bool) :
    frameCheckOk ((Request.notice target source c d sp : Request Byte).bytes id) = true
      ∧ parseFrame .request most ((Request.notice target source c d sp : Request Byte).bytes id)
        = some (.request (.notice target source c d sp)) := by
  have small : d.length < 65536 := lt_of_le_of_lt h (by decide)
  have shape : [FrameKind.notice.code, frameFlags sp false] ++ nat16 d.length ++ [target, source] ++ bytes16 c ++ d
      = 0x04 :: frameFlags sp false :: (nat16 d.length ++ ([target, source] ++ bytes16 c ++ d)) := by
    simp only [List.append_assoc, List.cons_append, List.nil_append]
    rfl
  unfold Request.bytes
  dsimp only
  rw [shape]
  refine ⟨frame_intact rfl _ rfl small, ?_⟩
  have length := word16_nat16 d.length small
  obtain ⟨tail, payload⟩ :=
    payload_of_tail d (crc32 (0x04 :: frameFlags sp false :: (nat16 d.length ++ ([target, source] ++ bytes16 c ++ d))))
  refine (parseFrame_notice most _ _ _ _ _ _ _ _).trans ?_
  rw [length]
  refine (if_pos ⟨tail, ht, h⟩).trans ?_
  rw [word16_bytes, frameFlags_spoiled]
  exact congrArg (fun l => some (Frame.request (.notice target source c l sp))) payload

/-- The fields of an answer agree when a GOOD one is final or holds something, and any other is final and empty (R8, R15). -/
theorem answerFieldsOk_of {a : Answer} {most : Nat}
    (good : a.status = .good → (a.final = true ∨ 1 ≤ a.payload.length) ∧ a.payload.length ≤ most ∧ a.payload.length ≤ 1024)
    (other : a.status ≠ .good → a.final = true ∧ a.payload = []) : answerFieldsOk a.status a.final a.payload.length most = true := by
  by_cases h : a.status = .good
  · rw [h]
    exact (answerFieldsOk_good_iff _ _ _).mpr (good h)
  · exact (answerFieldsOk_other_iff h _ _ _).mpr ((other h).imp_right fun e => by rw [e]; rfl)

theorem answer_readBack {a : Answer} {most : Nat} (small : a.payload.length < 65536)
    (agree : answerFieldsOk a.status a.final a.payload.length most = true) :
    frameCheckOk a.bytes = true ∧ parseFrame .answer most a.bytes = some (.answer a) := by
  have shape : [FrameKind.answer.code, frameFlags a.spoiled a.final] ++ nat16 a.payload.length ++ [a.tag, a.status.code] ++ a.payload
      = 0x03 :: frameFlags a.spoiled a.final :: (nat16 a.payload.length ++ ([a.tag, a.status.code] ++ a.payload)) := by
    simp only [List.append_assoc, List.cons_append, List.nil_append]
    rfl
  unfold Answer.bytes
  rw [shape]
  refine ⟨frame_intact rfl _ rfl small, ?_⟩
  have length := word16_nat16 a.payload.length small
  obtain ⟨tail, payload⟩ := payload_of_tail a.payload
    (crc32 (0x03 :: frameFlags a.spoiled a.final :: (nat16 a.payload.length ++ ([a.tag, a.status.code] ++ a.payload))))
  refine (parseFrame_answer most _ _ _ _ _ _).trans ?_
  rw [AnsStatus.ofCode_code, length, frameFlags_spoiled, frameFlags_final]
  exact (if_pos ⟨tail, agree⟩).trans (congrArg (fun l => some (Frame.answer ⟨a.tag, a.status, a.final, l, a.spoiled⟩)) payload)

/-! ## Greetings (R124, R198) -/

theorem greeting_readBack {offer : Nat} (small : offer < 65536) (inRange : greetingInRange offer 4 4) :
    checkGreeting (greetingBytes offer) = .good ⟨.router, offer, 4, 4⟩ := by
  have values := greetingValues_some (kind := PartnerKind.router.code) rfl inRange
  refine (checkGreeting_intact (word32_bytes _).symm).trans ?_
  rw [word16_nat16 offer small]
  exact congrArg (fun g : Option Greeting => match g with | some x => GreetingCheck.good x | none => .bad) values

/-- Settles O5, form by form. -/
theorem sentFormsReadBack : Obligations.SentFormsReadBack := by
  refine ⟨fun most r h => ?_, fun most a good other => answer_readBack ?_ (answerFieldsOk_of good other), fun offer mem => ?_,
    fun kind m good => scan_envelope good, fun x most => ⟨OutMessage.bytes_eq x, scan_message most rfl⟩⟩
  · cases r with
    | store a d sp =>
      obtain ⟨h1, hm, h⟩ := h
      exact store_readBack h1 hm h a sp
    | fetch a n tag sp => exact fetch_readBack h.1 h.2 most a tag sp
    | notice target source c d sp => exact notice_readBack h.1 h.2 most source c sp
  · by_cases h : a.status = .good
    · exact lt_of_le_of_lt (good h).2.2 (by decide)
    · rw [(other h).2]
      decide
  · have known : offer ∈ Config.capabilities := mem
    have small : offer < 65536 := by
      simp only [List.mem_cons, List.not_mem_nil, or_false] at mem
      omega
    exact greeting_readBack small ⟨known, by decide⟩

end Sys2Proof.Machine
end

section
/-! A port that has left UP, its classes empty and its entries gone, and what traffic does around it: nothing at that port, no entry of
it, no quarantine cut short (R87, R88, R131). -/

namespace Sys2Proof.Machine

/-! ## A deserted port -/

/-- The entry is not OPEN to or from this port, nor an ORPHAN of a FETCH to it. -/
def Entry.Avoids (p : Port) (e : Entry) : Prop :=
  ∀ y issue d, (e = .opened y issue d → y.dest ≠ p ∧ y.origin.origin ≠ .link p) ∧ (e = .orphan y issue d → y.dest ≠ p)

/-- The port is not UP, holds no head, and no live exchange names it. -/
structure Deserted (p : Port) (s : State) : Prop where
  down : s.isUp p = false
  requests : (s.port p).requests = []
  answers : (s.port p).answers = []
  clear : ∀ i, (s.entry i).Avoids p

/-- What traffic leaves of a deserted port and of the entries that are done. -/
structure Shunned (p : Port) (s t : State) : Prop where
  port : t.port p = s.port p
  latched : ∀ i c, c ∈ s.latched i → c ∈ t.latched i
  clear : ∀ i, (t.entry i).Avoids p
  quarantine : ∀ i y c left, s.entry i = .quarantine y c left → t.entry i = .quarantine y c left

/-- Traffic around a deserted port. -/
def Spares (p : Port) (s t : State) : Prop := Deserted p s → Shunned p s t

theorem Shunned.deserted {p : Port} {s t : State} (h : Shunned p s t) (k : Deserted p s) : Deserted p t :=
  ⟨(congrArg (fun x : PortState => x.link.isUp) h.port).trans k.down, (congrArg PortState.requests h.port).trans k.requests,
    (congrArg PortState.answers h.port).trans k.answers, h.clear⟩

theorem Deserted.ne_of_up {p q : Port} {s : State} (h : Deserted p s) (up : s.isUp q = true) : q ≠ p := by
  rintro rfl
  exact Bool.false_ne_true (h.down.symm.trans up)

theorem Deserted.ne_of_request {p q : Port} {s : State} (h : Deserted p s) {r : Request Byte} {rest : List (Request Byte)}
    (head : (s.port q).requests = r :: rest) : q ≠ p := by
  rintro rfl
  exact List.cons_ne_nil _ _ (head.symm.trans h.requests)

theorem Deserted.ne_of_answer {p q : Port} {s : State} (h : Deserted p s) {a : Answer} {rest : List Answer}
    (head : (s.port q).answers = a :: rest) : q ≠ p := by
  rintro rfl
  exact List.cons_ne_nil _ _ (head.symm.trans h.answers)

namespace Spares

variable {p q d : Port} {s t u : State}

theorem refl (p : Port) (s : State) : Spares p s s := fun h => ⟨rfl, fun _ _ k => k, h.clear, fun _ _ _ _ k => k⟩

theorem trans (h : Spares p s t) (k : Spares p t u) : Spares p s u := fun before => by
  have first := h before
  have second := k (first.deserted before)
  exact ⟨second.port.trans first.port, fun i c m => second.latched i c (first.latched i c m), second.clear,
    fun i y c left e => second.quarantine i y c left (first.quarantine i y c left e)⟩

/-- What the deserted port tells may be used. -/
theorem of_deserted (h : Deserted p s → Spares p s t) : Spares p s t := fun k => h k k

/-- Nothing the relation speaks of is changed. -/
theorem of_same (ports : t.ports = s.ports) (sets : t.conditions.sets = s.conditions.sets) (exchange : t.exchange = s.exchange) :
    Spares p s t := fun h => by
  have entry : ∀ i, t.entry i = s.entry i := fun i => congrArg (fun e : ExchangeTable => e.entries[i]) exchange
  refine ⟨congrArg (fun x : PerPort PortState => x.get p) ports, fun i c m => ?_, fun i => ?_, fun i y c left e => (entry i).trans e⟩
  · unfold State.latched
    rw [sets]
    exact m
  · rw [entry]
    exact h.clear i

/-! ## Small operations -/

theorem modPort (ne : q ≠ p) (f : PortState → PortState) (s : State) : Spares p s (s.modPort q f) := fun h =>
  ⟨State.port_modPort_ne f s ne.symm, fun _ _ m => m, fun i => by rw [State.entry_modPort]; exact h.clear i,
    fun i _ _ _ e => (State.entry_modPort _ _ _ i).trans e⟩

theorem setPointer (ne : q ≠ p) (c : FrameClass) (o : Origin) (s : State) : Spares p s (s.setPointer q c o) := modPort ne _ s

theorem dropRequest (ne : q ≠ p) (s : State) : Spares p s (s.dropRequest q) := modPort ne _ s

theorem dropAnswer (ne : q ≠ p) (s : State) : Spares p s (s.dropAnswer q) := by
  rw [State.dropAnswer_eq]
  exact modPort ne _ s

theorem latch (i : SetId) (c : Condition) (s : State) : Spares p s (s.latch i c) := fun h =>
  ⟨State.latch_port i c s p, fun j k m => (State.mem_latched_latch i j c k s).mpr (.inr m),
    fun j => by rw [State.latch_entry]; exact h.clear j, fun j _ _ _ e => (State.latch_entry i c s j).trans e⟩

theorem detect (o : Origin) (c : Condition) (x : Subject) (s : State) : Spares p s (s.detect o c x) := fun h =>
  ⟨State.detect_port o c x s p, fun j k m => (State.mem_latched_detect o c k x s j).mpr (.inr m),
    fun j => by rw [State.detect_entry]; exact h.clear j, fun j _ _ _ e => (State.detect_entry o c x s j).trans e⟩

theorem withHostFetch (h : HostFetch) (s : State) : Spares p s { s with hostFetch := h } := of_same rfl rfl rfl

/-- An entry that is not in quarantine is written with one that avoids the port. -/
theorem setEntry {i : RouterTag} {e : Entry} (avoids : e.Avoids p) (live : ∀ y c left, s.entry i ≠ .quarantine y c left) :
    Spares p s (s.setEntry i e) := fun h => by
  refine ⟨rfl, fun _ _ m => m, fun j => ?_, fun j y c left k => ?_⟩
  · rw [State.entry_setEntry]
    split
    · exact avoids
    · exact h.clear j
  · rw [State.entry_setEntry]
    split
    · rename_i same
      exact absurd (same ▸ k) (live y c left)
    · exact k

end Spares

theorem Entry.Avoids.free (p : Port) : Entry.free.Avoids p := fun _ _ _ => ⟨fun e => (by cases e), fun e => (by cases e)⟩

theorem Entry.Avoids.quarantine (p : Port) (x : Exchange) (c : EndCause) (left : Nat) : (Entry.quarantine x c left).Avoids p :=
  fun _ _ _ => ⟨fun e => (by cases e), fun e => (by cases e)⟩

theorem Entry.Avoids.opened {p : Port} {x : Exchange} (hd : x.dest ≠ p) (ho : x.origin.origin ≠ .link p) (issue : Issue) (d : Nat) :
    (Entry.opened x issue d).Avoids p :=
  fun _ _ _ => ⟨fun e => by cases e; exact ⟨hd, ho⟩, fun e => (by cases e)⟩

/-- The exchange that an answer head waits for is OPEN. -/
theorem State.entry_of_awaitedMatch {s : State} {q : Port} {a : Answer} {i : RouterTag} {x : Exchange} {issue : Issue} {left : Nat}
    (h : s.awaitedMatch q = some (a, i, x, issue, left)) : s.entry i = .opened x issue left := by
  unfold State.awaitedMatch at h
  split at h
  · split at h
    · rename_i found
      cases h
      unfold State.lookup at found
      split at found
      · obtain ⟨rfl, e⟩ := Prod.mk.inj (Option.some.inj found)
        exact e
      · cases found
    · cases h
  · cases h

/-- Admission takes a FREE entry (R74). -/
theorem State.free_of_admission {s : State} {o : Origin} {i : RouterTag} (h : s.admission o = .ok i) : s.entry i = .free := by
  unfold State.admission at h
  split at h
  · cases h
  · split at h
    · rename_i j found
      cases h
      exact (Entry.isFree_iff _).mp (List.find?_some (p := fun i => (s.entry i).isFree) found)
    · cases h

namespace Spares

variable {p q d : Port} {s t u : State}

/-! ## The exchange table -/

theorem withdrawQueued {x : Exchange} (ne : x.dest ≠ p) (i : RouterTag) (issue : Issue) (s : State) :
    Spares p s (s.withdrawQueued i x issue) := by
  cases issue with
  | queued => exact modPort ne _ s
  | sent => exact refl p s

theorem freeEntry {x : Exchange} {i : RouterTag} (ne : x.dest ≠ p) (live : ∀ y c left, s.entry i ≠ .quarantine y c left) (issue : Issue) :
    Spares p s (s.freeEntry i x issue) := by
  refine (withdrawQueued ne i issue s).trans (setEntry (Entry.Avoids.free p) fun y c left e => ?_)
  rw [State.entry, State.withdrawQueued_exchange] at e
  exact live y c left e

theorem noteForwarded {i : RouterTag} {x : Exchange} {issue : Issue} {d : Nat} (opened : s.entry i = .opened x issue d) (a : Answer) :
    Spares p s (s.noteForwarded i x issue d a) := of_deserted fun h => by
  have live : ∀ y c left, s.entry i ≠ .quarantine y c left := fun y c left e => by cases opened.symm.trans e
  obtain ⟨hd, ho⟩ := (h.clear i x issue d).1 opened
  unfold State.noteForwarded
  split
  · exact freeEntry hd live issue
  · exact setEntry (Entry.Avoids.opened (x := x.forwarded a) hd ho issue d) live

theorem tellEnd {o : Requester} (ne : o.origin ≠ .link p) (cause : EndCause) (s : State) : Spares p s (s.tellEnd cause o) := by
  unfold State.tellEnd
  split
  · rename_i q tag
    split
    · exact modPort (fun e => ne (congrArg Origin.link e)) _ s
    · exact refl p s
  · exact withHostFetch _ s

theorem toQuarantine {i : RouterTag} (live : ∀ y c left, s.entry i ≠ .quarantine y c left) (x : Exchange) (cause : EndCause) :
    Spares p s (s.toQuarantine i x cause) := by
  refine setEntry ?_ live
  split
  · exact Entry.Avoids.free p
  · exact Entry.Avoids.quarantine p x cause _

theorem endEntry (i : RouterTag) (cause : EndCause) (withdraw : Bool) (s : State) : Spares p s (s.endEntry i cause withdraw) :=
  of_deserted fun h => by
    have withdrawn : ∀ (x : Exchange) issue (t : State), x.dest ≠ p → t.exchange = s.exchange →
        Spares p t (if withdraw = true then t.withdrawQueued i x issue else t)
          ∧ (if withdraw = true then t.withdrawQueued i x issue else t).exchange = s.exchange := fun x issue t ne same => by
      split
      · exact ⟨withdrawQueued ne i issue t, (State.withdrawQueued_exchange i x issue t).trans same⟩
      · exact ⟨refl p t, same⟩
    have live : ∀ t : State, t.exchange = s.exchange → (∀ y c left, s.entry i ≠ .quarantine y c left) →
        ∀ y c left, t.entry i ≠ .quarantine y c left := fun t same k y c left => by
      unfold State.entry
      rw [same]
      exact k y c left
    unfold State.endEntry
    split
    · rename_i x issue d opened
      obtain ⟨hd, ho⟩ := (h.clear i x issue d).1 opened
      obtain ⟨spares, same⟩ := withdrawn x issue (s.tellEnd cause x.origin) hd (State.tellEnd_exchange _ _ _)
      exact ((tellEnd ho cause s).trans spares).trans
        (toQuarantine (live _ same fun y c left e => by cases opened.symm.trans e) x cause)
    · rename_i x issue d orphaned
      have hd := (h.clear i x issue d).2 orphaned
      obtain ⟨spares, same⟩ := withdrawn x issue s hd rfl
      exact spares.trans (toQuarantine (live _ same fun y c left e => by cases orphaned.symm.trans e) x cause)
    · exact refl p s
    · exact refl p s

/-! ## Grants -/

theorem grantSlot (q : Port) (s : State) : Spares p s (s.grantSlot q) := of_deserted fun h => by
  unfold State.grantSlot
  split
  · rename_i head
    have ne := h.ne_of_request head
    exact ((modPort ne _ s).trans (dropRequest ne _)).trans (setPointer ne _ _ _)
  · exact refl p s

theorem grantForward (q o : Port) (s : State) : Spares p s (s.grantForward q o) := of_deserted fun h => by
  unfold State.grantForward
  split
  · rename_i a i x issue left awaited
    have opened := State.entry_of_awaitedMatch awaited
    obtain ⟨rest, head⟩ := State.head_of_awaitedMatch awaited
    have notFrom := ((h.clear i x issue left).1 opened).2
    split
    · rename_i o' tag origin
      split
      · rename_i same
        subst same
        have ne : o' ≠ p := fun e => by
          rw [origin] at notFrom
          exact notFrom (congrArg Origin.link e)
        refine (((modPort ne _ s).trans (noteForwarded ?_ a)).trans (modPort (h.ne_of_answer head) _ _)).trans (setPointer ne _ _ _)
        rw [State.entry_modPort]
        exact opened
      · exact refl p s
    · exact refl p s
  · exact refl p s

theorem offerAnswerLane (d : Port) (o : Origin) (s : State) : Spares p s (s.offerAnswerLane d o) := by
  unfold State.offerAnswerLane State.grantAnswerLane
  split
  · cases o with
    | m => exact refl p s
    | link q =>
      dsimp only
      split
      · exact grantSlot d s
      · exact grantForward q d s
  · exact refl p s

theorem refuseHead (ne : q ≠ p) (r : Request Byte) (st : AnsStatus) (left : Nat) (s : State) :
    Spares p s (s.refuseHead q r st left) := by
  cases r with
  | store a b sp => exact dropRequest ne s
  | fetch a n tag sp => exact (modPort ne _ s).trans (offerAnswerLane q (.link q) _)
  | notice f g c b sp => exact dropRequest ne s

theorem placeRequest (ne : d ≠ p) (o : Origin) (r : Request RouterTag) (s : State) : Spares p s (s.placeRequest d o r) :=
  (modPort ne _ s).trans (setPointer ne _ _ _)

theorem openEntry {i : RouterTag} {o : Requester} (free : s.entry i = .free) (hd : d ≠ p) (ho : o.origin ≠ .link p) (a : Word32) (n : Nat) :
    Spares p s (s.openEntry i o d a n) :=
  setEntry (Entry.Avoids.opened (x := ⟨o, d, a, n, 0, 0⟩) hd ho .queued _) fun y c left e => by cases free.symm.trans e

theorem grantLink (hd : d ≠ p) (q : Port) (s : State) : Spares p s (s.grantLink d q) := of_deserted fun h => by
  unfold State.grantLink
  split
  · rename_i r rest wait head
    have ne := h.ne_of_request head
    split
    · rename_i a n tag sp
      split
      · rename_i i admitted
        exact ((openEntry (o := .link q tag) (State.free_of_admission admitted) hd (fun e => ne (Origin.link.inj e)) a n).trans (placeRequest hd _ _ _)).trans
          (modPort ne _ _)
      · exact ((setPointer hd _ _ s).trans (detect _ _ _ _)).trans (refuseHead ne _ _ _ _)
    · exact (placeRequest hd _ _ s).trans (modPort ne _ _)
    · exact (placeRequest hd _ _ s).trans (modPort ne _ _)
  · exact refl p s

theorem conclude (st : Status) (v : Values) (s : State) : Spares p s (s.conclude st v) := by
  unfold State.conclude
  split
  · unfold State.offerResponse
    split
    · exact of_same rfl rfl rfl
    · exact of_same rfl rfl rfl
  · exact refl p s

theorem grantHost (hd : d ≠ p) (s : State) : Spares p s (s.grantHost d) := by
  unfold State.grantHost
  split
  · split
    · rename_i i admitted
      exact (((openEntry (State.free_of_admission admitted) hd (fun e => (by cases e)) _ _).trans (placeRequest hd _ _ _)).trans
        (withHostFetch _ _)).trans (conclude _ _ _)
    · exact ((setPointer hd _ _ s).trans (detect _ _ _ _)).trans (conclude _ _ _)
  · exact (placeRequest hd _ _ s).trans (conclude _ _ _)
  · exact (placeRequest hd _ _ s).trans (conclude _ _ _)
  · exact refl p s

theorem offerRequestLane (d : Port) (o : Origin) (s : State) : Spares p s (s.offerRequestLane d o) := of_deserted fun h => by
  unfold State.offerRequestLane
  split
  · rename_i only
    have candidate := State.isCandidate_of_first only
    have hd : d ≠ p := h.ne_of_up ((State.isCandidate_request_iff s d o).mp candidate).1
    cases o with
    | link q => exact grantLink hd q s
    | m => exact grantHost hd s
  · exact refl p s

/-! ## Heads -/

theorem inboxHead (ne : q ≠ p) (r : Request Byte) (s : State) : Spares p s (s.inboxHead q r) := by
  have appended : ∀ x, Spares p s (s.appendInbox x) := fun x => by
    unfold State.appendInbox
    split
    · exact (latch _ _ s).trans (of_same rfl rfl rfl)
    · exact Spares.trans (t := { s with inbox := s.inbox ++ [x] }) (of_same rfl rfl rfl) (latch _ _ _)
  unfold State.inboxHead
  split
  · split
    · exact (appended _).trans (dropRequest ne _)
    · exact (appended _).trans (modPort ne _ _)
  · exact refl p s

theorem takeUpRequest (ne : q ≠ p) (r : Request Byte) (s : State) : Spares p s (s.takeUpRequest q r) := by
  have marked : Spares p s (if r.spoiled then s.detect (.link q) .spoiled r.subject else s) := by
    split
    · exact detect _ _ _ s
    · exact refl p s
  unfold State.takeUpRequest
  generalize (if r.spoiled then s.detect (.link q) .spoiled r.subject else s) = t at marked
  refine marked.trans ?_
  dsimp only
  split
  · exact (modPort ne _ t).trans (offerRequestLane _ _ _)
  · exact inboxHead ne r t
  · exact (detect _ _ _ t).trans (refuseHead ne _ _ _ _)
  · exact dropRequest ne t
  · exact (detect _ _ _ t).trans (dropRequest ne _)

theorem serveRequests (q : Port) (s : State) : Spares p s (s.serveRequests q) := by
  unfold State.serveRequests
  generalize (s.port q).requests.length = n
  induction n generalizing s with
  | zero => exact refl p s
  | succ n ih =>
    refine of_deserted fun h => ?_
    unfold State.serveRequestsUpTo
    split
    · rename_i head
      exact (takeUpRequest (h.ne_of_request head) _ s).trans (ih _)
    · exact refl p s

theorem matchOpen (ne : q ≠ p) {i : RouterTag} {x : Exchange} {issue : Issue} {left : Nat} (opened : s.entry i = .opened x issue left)
    (a : Answer) : Spares p s (s.matchOpen q a i x issue left) := by
  have discarded : ∀ c y cause, Spares p s (((s.detect (.link q) c y).dropAnswer q).endEntry i cause true) := fun _ _ _ =>
    ((detect _ _ _ s).trans (dropAnswer ne _)).trans (endEntry _ _ _ _)
  unfold State.matchOpen
  dsimp only
  split
  · exact discarded _ _ _
  · split
    · exact ((noteForwarded opened a).trans (withHostFetch _ _)).trans (modPort ne _ _)
    · split
      · exact discarded _ _ _
      · exact (modPort ne _ s).trans (offerAnswerLane _ _ _)

theorem matchAnswer (ne : q ≠ p) (a : Answer) (s : State) : Spares p s (s.matchAnswer q a) := of_deserted fun h => by
  have stray : Spares p s ((s.detect (.link q) .strayAnswer (s.answerSubject a)).dropAnswer q) :=
    (detect _ _ _ s).trans (dropAnswer ne _)
  have found : ∀ i e, s.lookup a.tag = some (i, e) → s.entry i = e := fun i e k => by
    unfold State.lookup at k
    split at k
    · obtain ⟨rfl, e⟩ := Prod.mk.inj (Option.some.inj k)
      exact e
    · cases k
  unfold State.matchAnswer
  dsimp only
  split
  · exact stray
  · exact stray
  · rename_i i x issue left k
    split
    · exact matchOpen ne (found _ _ k) a
    · exact stray
  · rename_i i x issue left k
    have orphaned := found _ _ k
    split
    · split
      · refine (dropAnswer ne s).trans (freeEntry ((h.clear i x issue left).2 orphaned) (fun y c n e => ?_) issue)
        rw [State.dropAnswer_eq, State.entry_modPort] at e
        cases orphaned.symm.trans e
      · exact dropAnswer ne s
    · exact stray
  · split
    · exact (detect _ _ _ s).trans (dropAnswer ne _)
    · exact stray

theorem serveAnswers (q : Port) (s : State) : Spares p s (s.serveAnswers q) := by
  unfold State.serveAnswers
  generalize (s.port q).answers.length = n
  induction n generalizing s with
  | zero => exact refl p s
  | succ n ih =>
    refine of_deserted fun h => ?_
    unfold State.serveAnswersUpTo
    split
    · rename_i a rest wait head
      have ne := h.ne_of_answer head
      have takes : Spares p s (s.takeUpAnswer q a) := by
        unfold State.takeUpAnswer
        split
        · exact (detect _ _ _ s).trans (matchAnswer ne _ _)
        · exact matchAnswer ne _ s
      exact takes.trans (ih _)
    · exact refl p s

theorem rematch (q : Port) (s : State) : Spares p s (s.rematch q) := of_deserted fun h => by
  unfold State.rematch
  split
  · rename_i head
    split
    · exact refl p s
    · exact (matchAnswer (h.ne_of_answer head) _ s).trans (serveAnswers _ _)
  · exact refl p s

theorem redecideLink (q : Port) (st : AnsStatus) (c : Condition) (s : State) : Spares p s (s.redecideLink q st c) :=
  of_deserted fun h => by
    unfold State.redecideLink
    split
    · rename_i head
      exact ((detect _ _ _ s).trans (refuseHead (h.ne_of_request head) _ _ _ _)).trans (serveRequests _ _)
    · exact refl p s

theorem foldl {α : Type} (l : List α) (f : State → α → State) (h : ∀ s a, Spares p s (f s a)) (s : State) : Spares p s (l.foldl f s) := by
  induction l generalizing s with
  | nil => exact refl p s
  | cons a l ih => exact (h s a).trans (ih _)

theorem redecideFor (d : Port) (s : State) : Spares p s (s.redecideFor d) := by
  have links : Spares p s (Port.all.foldl
      (fun s p => if s.wantsRequestLane d (.link p) then s.redecideLink p .portDown .noRoute else s) s) := by
    refine foldl _ _ (fun s q => ?_) s
    split
    · exact redecideLink q _ _ s
    · exact refl p s
  unfold State.redecideFor
  refine links.trans ?_
  dsimp only
  split
  · unfold State.redecideHost
    split
    · exact (detect _ _ _ _).trans (conclude _ _ _)
    · exact refl p _
  · exact refl p _

end Spares

end Sys2Proof.Machine
end

section
/-! The proof about a link that leaves UP: its port emptied, its exchanges ended or orphaned, and the heads that waited for its lane
decided again (R57, R87, R88, R114, R131). -/

namespace Sys2Proof.Machine

/-! ## One entry whose destination is lost (R87) -/

/-- An entry after the link of `p` is lost, with this quarantine time. -/
def Entry.lost (p : Port) (quarantine : Nat) (e : Entry) : Entry :=
  match e with
  | .opened x _ _ => if x.dest = p then (if quarantine = 0 then .free else .quarantine x .linkLost quarantine) else e
  | .orphan x _ _ => if x.dest = p then (if quarantine = 0 then .free else .quarantine x .linkLost quarantine) else e
  | _ => e

/-- What the origin `o` is told when the link of `p` is lost. -/
def Entry.told (p o : Port) (e : Entry) : Option LaneAnswer :=
  match e with
  | .opened x _ _ =>
    match x.origin with
    | .link o' tag => if x.dest = p ∧ o' = o then some ⟨⟨tag, .linkLost, true, [], false⟩, true⟩ else none
    | .host => none
  | _ => none

/-- The host fetch is to `p`. -/
def Entry.isHostFetchTo (p : Port) (e : Entry) : Prop := ∃ x issue d, e = .opened x issue d ∧ x.dest = p ∧ x.origin = .host

theorem Entry.told_host {x : Exchange} (origin : x.origin = .host) (p o : Port) (issue : Issue) (d : Nat) :
    (Entry.opened x issue d).told p o = none := by
  simp only [Entry.told, origin]

theorem Entry.told_link {x : Exchange} {q : Port} {tag : Byte} (origin : x.origin = .link q tag) (p o : Port) (issue : Issue) (d : Nat) :
    (Entry.opened x issue d).told p o = if x.dest = p ∧ q = o then some ⟨⟨tag, .linkLost, true, [], false⟩, true⟩ else none := by
  simp only [Entry.told, origin]

theorem Entry.told_other {x : Exchange} {p : Port} (dest : x.dest ≠ p) (o : Port) (issue : Issue) (d : Nat) :
    (Entry.opened x issue d).told p o = none := by
  cases origin : x.origin with
  | host => exact Entry.told_host origin p o issue d
  | link q tag => exact (Entry.told_link origin p o issue d).trans (if_neg fun k => dest k.1)

/-- The port with as many of these answers in its lane as find room. -/
def PortState.tell (l : List LaneAnswer) (x : PortState) : PortState :=
  if x.link.isUp then { x with answerLane := x.answerLane ++ l.take (8 - x.answerLane.length) } else x

theorem PortState.tell_nil (x : PortState) : x.tell [] = x := by
  unfold PortState.tell
  split
  · rw [List.take_nil, List.append_nil]
  · rfl

theorem PortState.tell_room {x : PortState} (room : x.routerMadeRoom = true) (a : LaneAnswer) : x.tell [a] = x.pushAnswer a := by
  obtain ⟨up, free⟩ := (PortState.routerMadeRoom_iff x).mp room
  unfold PortState.tell
  rw [if_pos up, List.take_of_length_le (Nat.le_sub_of_add_le (by simpa [Nat.add_comm] using free))]
  rfl

theorem PortState.tell_noRoom {x : PortState} (full : x.routerMadeRoom = false) (l : List LaneAnswer) : x.tell l = x := by
  unfold PortState.tell
  split
  · rename_i up
    have most : 8 ≤ x.answerLane.length :=
      ((PortState.routerMadeRoom_eq_false_iff x).mp full).resolve_left (by rw [up]; exact Bool.noConfusion)
    rw [Nat.sub_eq_zero_of_le most, List.take_zero, List.append_nil]
  · rfl

theorem PortState.tell_cons (a : LaneAnswer) (l : List LaneAnswer) (x : PortState) : x.tell (a :: l) = (x.tell [a]).tell l := by
  cases room : x.routerMadeRoom with
  | false => rw [PortState.tell_noRoom room, PortState.tell_noRoom room, PortState.tell_noRoom room]
  | true =>
    obtain ⟨up, free⟩ := (PortState.routerMadeRoom_iff x).mp room
    rw [PortState.tell_room room]
    unfold PortState.tell
    rw [if_pos up]
    refine Eq.trans ?_ (if_pos (c := (x.pushAnswer a).link.isUp = true) up).symm
    have length : (x.pushAnswer a).answerLane.length = x.answerLane.length + 1 := List.length_append
    obtain ⟨n, hn⟩ := Nat.exists_eq_add_of_le' (Nat.sub_pos_of_lt free)
    have rest : 8 - (x.answerLane.length + 1) = n := by omega
    rw [length, rest, hn]
    unfold PortState.pushAnswer
    dsimp only
    rw [List.append_assoc]
    rfl

/-! ## One step of the fold -/

/-- Entry `i` when the link of `p` is lost. -/
def State.lostAt (p : Port) (s : State) (i : RouterTag) : State :=
  if (s.entry i).exchange?.any fun x => x.dest == p then s.endEntry i .linkLost false else s

theorem State.endLinkLost_eq (p : Port) (s : State) : s.endLinkLost p = allTags.foldl (State.lostAt p) s := rfl

/-- The quarantine time. -/
def State.quarantineTime (s : State) : Nat := s.exchange.timers.value.quarantine

/-- What a step may change. -/
def SameButTable (s t : State) : Prop :=
  t = { s with ports := t.ports, exchange := { s.exchange with entries := t.exchange.entries }, hostFetch := t.hostFetch }

/-- What a step comes to. -/
structure LostAt (p : Port) (i : RouterTag) (s t : State) : Prop where
  entry : ∀ j, t.entry j = if j = i then (s.entry i).lost p s.quarantineTime else s.entry j
  port : ∀ o, t.port o = (s.port o).tell ((s.entry i).told p o).toList
  finished : (s.entry i).isHostFetchTo p → t.hostFetch = s.hostFetch.finish .linkLost
  kept : ¬(s.entry i).isHostFetchTo p → t.hostFetch = s.hostFetch
  frame : SameButTable s t

theorem LostAt.of_same {p : Port} {i : RouterTag} {s : State} (lost : (s.entry i).lost p s.quarantineTime = s.entry i)
    (told : ∀ o, (s.entry i).told p o = none) (host : ¬(s.entry i).isHostFetchTo p) : LostAt p i s s := by
  refine ⟨fun j => ?_, fun o => ?_, fun h => absurd h host, fun _ => rfl, rfl⟩
  · split
    · rename_i e
      rw [lost, e]
    · rfl
  · rw [told o]
    exact (PortState.tell_nil _).symm

/-- A port told of the end of an exchange that was its own. -/
theorem State.tellEnd_port (q o : Port) (tag : Byte) (s : State) :
    (s.tellEnd .linkLost (.link q tag)).port o
      = (s.port o).tell (if q = o then some ⟨⟨tag, .linkLost, true, [], false⟩, true⟩ else none : Option LaneAnswer).toList := by
  by_cases e : q = o
  · subst e
    rw [if_pos rfl]
    cases room : (s.port q).routerMadeRoom with
    | true => rw [State.tellEnd_room room, State.port_modPort_same]; exact (PortState.tell_room room _).symm
    | false => rw [State.tellEnd_noRoom room]; exact (PortState.tell_noRoom room _).symm
  · rw [if_neg e]
    refine Eq.trans ?_ (PortState.tell_nil _).symm
    unfold State.tellEnd
    dsimp only
    split
    · exact State.port_modPort_ne _ _ fun k => e k.symm
    · rfl

/-- The origin is told, then the entry written. -/
theorem LostAt.of_told {p : Port} {i : RouterTag} {s u : State} {e : Entry} (lost : (s.entry i).lost p s.quarantineTime = e)
    (port : ∀ o, u.port o = (s.port o).tell ((s.entry i).told p o).toList)
    (finished : (s.entry i).isHostFetchTo p → u.hostFetch = s.hostFetch.finish .linkLost)
    (kept : ¬(s.entry i).isHostFetchTo p → u.hostFetch = s.hostFetch)
    (frame : u = { s with ports := u.ports, hostFetch := u.hostFetch }) : LostAt p i s (u.setEntry i e) := by
  have entry : ∀ j, u.entry j = s.entry j := fun j => by rw [frame]; rfl
  refine ⟨fun j => ?_, port, finished, kept, ?_⟩
  · rw [State.entry_setEntry, entry, lost]
  · unfold SameButTable State.setEntry
    dsimp only
    rw [frame]

section
variable {p : Port} {i : RouterTag} {s : State} {x : Exchange} {issue : Issue} {d : Nat}

/-- An entry with another destination is left as it is. -/
theorem State.lostAt_other (h : s.entry i = .opened x issue d ∨ s.entry i = .orphan x issue d) (ne : x.dest ≠ p) :
    s.lostAt p i = s := by
  have found : (s.entry i).exchange? = some x := by rcases h with h | h <;> rw [h] <;> rfl
  refine if_neg ?_
  rw [found]
  exact fun k => ne (beq_iff_eq.mp k)

theorem State.lostAt_own (h : s.entry i = .opened x issue d ∨ s.entry i = .orphan x issue d) (dest : x.dest = p) :
    s.lostAt p i = s.endEntry i .linkLost false := by
  have found : (s.entry i).exchange? = some x := by rcases h with h | h <;> rw [h] <;> rfl
  refine if_pos ?_
  rw [found]
  exact beq_iff_eq.mpr dest

/-- An entry that is neither OPEN nor an ORPHAN is left as it is. -/
theorem State.lostAt_dead (h : s.entry i = .free ∨ ∃ y c left, s.entry i = .quarantine y c left) : s.lostAt p i = s := by
  unfold State.lostAt State.endEntry
  rcases h with h | ⟨y, c, left, h⟩
  · simp only [h, ite_self]
  · simp only [h, ite_self]

theorem State.lostAt_opened (h : s.entry i = .opened x issue d) (dest : x.dest = p) :
    s.lostAt p i
      = (s.tellEnd .linkLost x.origin).setEntry i (if s.quarantineTime = 0 then .free else .quarantine x .linkLost s.quarantineTime) := by
  rw [State.lostAt_own (.inl h) dest]
  simp only [State.endEntry, h, Bool.false_eq_true, if_false, State.toQuarantine_eq (State.tellEnd_exchange _ _ _)]
  rfl

theorem State.lostAt_orphan (h : s.entry i = .orphan x issue d) (dest : x.dest = p) :
    s.lostAt p i = s.setEntry i (if s.quarantineTime = 0 then .free else .quarantine x .linkLost s.quarantineTime) := by
  rw [State.lostAt_own (.inr h) dest]
  simp only [State.endEntry, h, Bool.false_eq_true, if_false]
  rfl

end

theorem State.lostAt_spec (p : Port) (i : RouterTag) (s : State) : LostAt p i s (s.lostAt p i) := by
  cases e : s.entry i with
  | free =>
    rw [State.lostAt_dead (.inl e)]
    refine LostAt.of_same ?_ ?_ ?_ <;> rw [e]
    · rfl
    · exact fun _ => rfl
    · rintro ⟨_, _, _, k, _⟩
      cases k
  | quarantine x c left =>
    rw [State.lostAt_dead (.inr ⟨x, c, left, e⟩)]
    refine LostAt.of_same ?_ ?_ ?_ <;> rw [e]
    · rfl
    · exact fun _ => rfl
    · rintro ⟨_, _, _, k, _⟩
      cases k
  | orphan x issue d =>
    have silent : ∀ o, (s.entry i).told p o = none := fun o => by rw [e]; rfl
    have host : ¬(s.entry i).isHostFetchTo p := by
      rw [e]
      rintro ⟨_, _, _, k, _⟩
      cases k
    by_cases dest : x.dest = p
    · rw [State.lostAt_orphan e dest]
      refine LostAt.of_told ?_ (fun o => ?_) (fun k => absurd k host) (fun _ => rfl) rfl
      · rw [e]
        exact if_pos dest
      · rw [silent]
        exact (PortState.tell_nil _).symm
    · rw [State.lostAt_other (.inr e) dest]
      refine LostAt.of_same ?_ silent host
      rw [e]
      exact if_neg dest
  | opened x issue d =>
    by_cases dest : x.dest = p
    · rw [State.lostAt_opened e dest]
      have lost : (s.entry i).lost p s.quarantineTime
          = if s.quarantineTime = 0 then .free else .quarantine x .linkLost s.quarantineTime := by
        rw [e]
        exact if_pos dest
      cases origin : x.origin with
      | host =>
        have host : (s.entry i).isHostFetchTo p := ⟨x, issue, d, e, dest, origin⟩
        refine LostAt.of_told lost (fun o => ?_) (fun _ => rfl) (fun k => absurd host k) rfl
        rw [e, Entry.told_host origin]
        exact (PortState.tell_nil _).symm
      | link q tag =>
        have host : ¬(s.entry i).isHostFetchTo p := by
          rw [e]
          rintro ⟨_, _, _, k, _, origin'⟩
          cases k
          cases origin.symm.trans origin'
        have frame : s.tellEnd .linkLost (.link q tag) = { s with ports := (s.tellEnd .linkLost (.link q tag)).ports } := by
          unfold State.tellEnd
          dsimp only
          split <;> rfl
        have hostFetch : (s.tellEnd .linkLost (.link q tag)).hostFetch = s.hostFetch := by rw [frame]
        refine LostAt.of_told lost (fun o => ?_) (fun k => absurd k host) (fun _ => hostFetch) (by rw [hostFetch]; exact frame)
        rw [State.tellEnd_port, e, Entry.told_link origin]
        simp only [dest, true_and]
    · rw [State.lostAt_other (.inl e) dest]
      refine LostAt.of_same ?_ (fun o => ?_) ?_ <;> rw [e]
      · exact if_neg dest
      · exact Entry.told_other dest o issue d
      · rintro ⟨_, _, _, k, own, _⟩
        cases k
        exact dest own

/-! ## The whole fold -/

theorem SameButTable.refl (s : State) : SameButTable s s := rfl

theorem SameButTable.trans {s t u : State} (h : SameButTable s t) (k : SameButTable t u) : SameButTable s u := by
  unfold SameButTable at *
  rw [k, h]

theorem LostAt.quarantineTime {p : Port} {i : RouterTag} {s t : State} (h : LostAt p i s t) : t.quarantineTime = s.quarantineTime := by
  rw [State.quarantineTime, h.frame]
  rfl

/-- What the fold over these entries comes to. -/
structure LostIn (p : Port) (l : List RouterTag) (s t : State) : Prop where
  entry : ∀ j, t.entry j = if j ∈ l then (s.entry j).lost p s.quarantineTime else s.entry j
  port : ∀ o, t.port o = (s.port o).tell (l.filterMap fun i => (s.entry i).told p o)
  finished : (∃ i ∈ l, (s.entry i).isHostFetchTo p) → t.hostFetch = s.hostFetch.finish .linkLost
  kept : (∀ i ∈ l, ¬(s.entry i).isHostFetchTo p) → t.hostFetch = s.hostFetch
  frame : SameButTable s t

theorem HostFetch.finish_finish (st : AnsStatus) (h : HostFetch) : (h.finish st).finish st = h.finish st := by cases h <;> rfl

theorem State.foldl_lostAt (p : Port) {l : List RouterTag} (nodup : l.Nodup) (s : State) : LostIn p l s (l.foldl (State.lostAt p) s) := by
  induction l generalizing s with
  | nil => exact ⟨fun j => rfl, fun o => (PortState.tell_nil _).symm, fun ⟨i, h, _⟩ => (by cases h), fun _ => rfl, SameButTable.refl s⟩
  | cons i l ih =>
    obtain ⟨fresh, nodup⟩ := List.nodup_cons.mp nodup
    have first := State.lostAt_spec p i s
    have rest := ih nodup (s.lostAt p i)
    rw [List.foldl_cons]
    have untouched : ∀ j ∈ l, (s.lostAt p i).entry j = s.entry j := fun j hj => by
      have ne : j ≠ i := fun e => fresh (e ▸ hj)
      rw [first.entry, if_neg ne]
    refine ⟨fun j => ?_, fun o => ?_, fun ⟨j, hj, host⟩ => ?_, fun none => ?_, first.frame.trans rest.frame⟩
    · rw [rest.entry, first.quarantineTime]
      by_cases hj : j ∈ l
      · rw [if_pos hj, if_pos (List.mem_cons_of_mem i hj), untouched j hj]
      · rw [if_neg hj, first.entry]
        by_cases e : j = i
        · rw [if_pos e, if_pos (by rw [e]; exact List.mem_cons_self), e]
        · rw [if_neg e, if_neg fun k => (List.mem_cons.mp k).elim e hj]
    · have told : (l.filterMap fun j => ((s.lostAt p i).entry j).told p o) = l.filterMap fun j => (s.entry j).told p o :=
        List.filterMap_congr fun j hj => by rw [untouched j hj]
      rw [rest.port, told, first.port, List.filterMap_cons]
      cases (s.entry i).told p o with
      | none => exact congrArg (PortState.tell _) (PortState.tell_nil _)
      | some a => exact (PortState.tell_cons a _ _).symm
    · by_cases host' : (s.entry i).isHostFetchTo p
      · by_cases more : ∃ k ∈ l, (s.entry k).isHostFetchTo p
        · obtain ⟨k, hk, hostk⟩ := more
          rw [rest.finished ⟨k, hk, by rw [untouched k hk]; exact hostk⟩, first.finished host', HostFetch.finish_finish]
        · rw [rest.kept fun k hk hostk => more ⟨k, hk, by rw [← untouched k hk]; exact hostk⟩, first.finished host']
      · have hl : j ∈ l := (List.mem_cons.mp hj).resolve_left fun e => host' (e ▸ host)
        rw [rest.finished ⟨j, hl, by rw [untouched j hl]; exact host⟩, first.kept host']
    · rw [rest.kept fun k hk hostk => none k (List.mem_cons_of_mem i hk) (by rw [← untouched k hk]; exact hostk),
        first.kept (none i List.mem_cons_self)]

theorem State.endLinkLost_spec (p : Port) (s : State) : LostIn p allTags s (s.endLinkLost p) := by
  rw [State.endLinkLost_eq]
  exact State.foldl_lostAt p (List.nodup_finRange 64) s

theorem State.endLinkLost_entry (p : Port) (s : State) (i : RouterTag) :
    (s.endLinkLost p).entry i = (s.entry i).lost p s.quarantineTime :=
  ((State.endLinkLost_spec p s).entry i).trans (if_pos (List.mem_finRange i))

/-! ## Orphans (R88) -/

theorem State.orphan_entry (p : Port) (s : State) (i : RouterTag) : (s.orphan p).entry i = (s.entry i).orphaned p :=
  Vector.getElem_map _ _

theorem Entry.orphaned_own {p : Port} {x : Exchange} (h : x.origin.origin = .link p) (issue : Issue) (d : Nat) :
    (Entry.opened x issue d).orphaned p = .orphan x issue d := if_pos h

/-- An entry that is not OPEN from this port stays as it is. -/
theorem Entry.orphaned_other {p : Port} {e : Entry} (h : ∀ x issue d, e = .opened x issue d → x.origin.origin ≠ .link p) :
    e.orphaned p = e := by
  cases e with
  | opened x issue d => exact if_neg (h x issue d rfl)
  | _ => rfl

/-- After both no entry is live to or from the port. -/
theorem Entry.orphaned_lost_avoids (p : Port) (n : Nat) (e : Entry) : ((e.lost p n).orphaned p).Avoids p := by
  have gone : ∀ x : Exchange, ((if n = 0 then Entry.free else .quarantine x .linkLost n).orphaned p).Avoids p := fun x => by
    split
    · exact Entry.Avoids.free p
    · exact Entry.Avoids.quarantine p x _ _
  cases e with
  | free => exact Entry.Avoids.free p
  | quarantine x c left => exact Entry.Avoids.quarantine p x c left
  | orphan x issue d =>
    by_cases dest : x.dest = p
    · rw [show (Entry.orphan x issue d).lost p n = _ from if_pos dest]
      exact gone x
    · rw [show (Entry.orphan x issue d).lost p n = _ from if_neg dest]
      exact fun y i left => ⟨fun e => (by cases e), fun e => by cases e; exact dest⟩
  | opened x issue d =>
    by_cases dest : x.dest = p
    · rw [show (Entry.opened x issue d).lost p n = _ from if_pos dest]
      exact gone x
    · rw [show (Entry.opened x issue d).lost p n = _ from if_neg dest]
      by_cases own : x.origin.origin = .link p
      · rw [Entry.orphaned_own own]
        exact fun y i left => ⟨fun e => (by cases e), fun e => by cases e; exact dest⟩
      · rw [Entry.orphaned_other fun y i left e => by cases e; exact own]
        exact Entry.Avoids.opened dest own issue d

end Sys2Proof.Machine
end

section
/-! The proof about a link that leaves UP, its parts together (R57, R87, R88, R114, R131). -/

namespace Sys2Proof.Machine

/-! ## Decided again for a lost lane (R57) -/

/-- A link head decided again when it waits for the lane of `d`. -/
def State.redecideOne (d : Port) (s : State) (q : Port) : State :=
  if s.wantsRequestLane d (.link q) then s.redecideLink q .portDown .noRoute else s

theorem State.redecideFor_eq (d : Port) (s : State) :
    s.redecideFor d
      = if (Port.all.foldl (State.redecideOne d) s).wantsRequestLane d .m then (Port.all.foldl (State.redecideOne d) s).redecideHost
        else Port.all.foldl (State.redecideOne d) s := rfl

theorem State.redecideOnes_none {d : Port} {l : List Port} {s : State} (h : ∀ q ∈ l, s.wantsRequestLane d (.link q) = false) :
    l.foldl (State.redecideOne d) s = s := by
  induction l with
  | nil => rfl
  | cons q l ih =>
    have same : s.redecideOne d q = s := if_neg (Bool.eq_false_iff.mp (h q List.mem_cons_self))
    rw [List.foldl_cons, same]
    exact ih fun o ho => h o (List.mem_cons_of_mem q ho)

theorem State.redecideFor_none {d : Port} {s : State} (h : ∀ o, s.wantsRequestLane d o = false) : s.redecideFor d = s := by
  rw [State.redecideFor_eq, State.redecideOnes_none fun q _ => h (.link q)]
  exact if_neg (Bool.eq_false_iff.mp (h .m))

/-- One link head alone waits for the lane. -/
theorem State.redecideFor_single {d q : Port} {s : State} (wants : s.wantsRequestLane d (.link q) = true)
    (others : ∀ o, o ≠ .link q → s.wantsRequestLane d o = false) : s.redecideFor d = s.redecideLink q .portDown .noRoute := by
  have mem : q ∈ Port.all := by cases q <;> decide
  have nodup : Port.all.Nodup := by decide
  obtain ⟨before, after, split⟩ := List.append_of_mem mem
  rw [split, List.nodup_middle, List.nodup_cons, List.mem_append, not_or] at nodup
  obtain ⟨⟨notBefore, notAfter⟩, _⟩ := nodup
  have fold : Port.all.foldl (State.redecideOne d) s = s.redecideLink q .portDown .noRoute := by
    rw [split, List.foldl_append, List.foldl_cons,
      State.redecideOnes_none fun o ho => others (.link o) fun e => notBefore (Origin.link.inj e ▸ ho)]
    have one : s.redecideOne d q = s.redecideLink q .portDown .noRoute := if_pos wants
    rw [one]
    refine State.redecideOnes_none fun o ho => ?_
    have ne : o ≠ q := fun e => notAfter (e ▸ ho)
    have same := others (.link o) fun e => ne (Origin.link.inj e)
    unfold State.wantsRequestLane at same ⊢
    dsimp only at same ⊢
    rw [(SameRequests.redecideLink_of_ne ne .portDown .noRoute s).2]
    exact same
  have host : (s.redecideLink q .portDown .noRoute).wantsRequestLane d .m = false := by
    have same := others .m fun e => (by cases e)
    unfold State.wantsRequestLane at same ⊢
    dsimp only at same ⊢
    rw [State.hostHead_congr (State.redecideLink_management q .portDown .noRoute s)]
    exact same
  rw [State.redecideFor_eq, fold]
  exact if_neg (Bool.eq_false_iff.mp host)

/-- M's head alone waits for the lane: its command is answered PORT DOWN. -/
theorem State.redecideFor_host {d : Port} {s : State} {c : Message} {h : Request Unit} {left : Nat}
    (running : s.management.running = some ⟨c, .awaitLane h d left⟩) (none : ∀ q, s.wantsRequestLane d (.link q) = false) :
    s.redecideFor d = s.concluded c (.answer .portDown) .empty (s.detect .m .noRoute h.hostSubject) := by
  have head := State.hostHead_waiting running
  have wants : s.wantsRequestLane d .m = true := (State.wantsRequestLane_m_iff s d).mpr ⟨c, h, left, running⟩
  rw [State.redecideFor_eq, State.redecideOnes_none fun q _ => none q, if_pos wants]
  unfold State.redecideHost
  rw [head]
  exact State.conclude_eq running (State.detect_management _ _ _ _) _ _

/-! ## A waiting head decided again -/

section
variable {q d : Port} {left : Nat} {rest : List (Request Byte)} {s : State}

/-- A waiting STORE or notice of a port that is UP. -/
theorem State.redecideLink_drops {r : Request Byte} (wait : (s.port q).requestWait = some (.lane d left))
    (head : (s.port q).requests = r :: rest) (up : s.isUp q = true) (other : ∀ a n tag sp, r ≠ .fetch a n tag sp) (st : AnsStatus)
    (c : Condition) :
    s.redecideLink q st c
      = (((s.detect (.link q) c r.subject).modPort q fun x =>
        { x with
          requests := rest
          requestWait := none
          owed := x.owed.set .request (x.owed.request + 1)
          counters := { x.counters with dropped := x.counters.dropped + 1 } }).serveRequests q) := by
  have dropped := State.dropRequest_detect head (.link q) c r.subject
  rw [up] at dropped
  refine (State.redecideLink_cons wait head st c).trans (congrArg (State.serveRequests q) (Eq.trans ?_ dropped))
  cases r with
  | store a b sp => rfl
  | fetch a n tag sp => exact absurd rfl (other a n tag sp)
  | notice t f c b sp => rfl

variable {a : Word32} {n : Nat} {tag : Byte} {sp : Bool}

theorem State.redecideLink_answers (wait : (s.port q).requestWait = some (.lane d left))
    (head : (s.port q).requests = .fetch a n tag sp :: rest) (up : s.isUp q = true) (room : (s.port q).answerLane.length < 8)
    (calm : s.noForwardRival q) (st : AnsStatus) (c : Condition) :
    s.redecideLink q st c
      = (((s.detect (.link q) c (.fetch a n (some tag) sp)).modPort q fun x =>
        { x with
          requests := rest
          requestWait := none
          owed := x.owed.set .request (x.owed.request + 1)
          answerLane := x.answerLane ++ [⟨⟨tag, st, true, [], false⟩, true⟩]
          counters := { x.counters with dropped := x.counters.dropped + 1 } }).setPointer q .answer (.link q)).serveRequests q := by
  have port := State.detect_port (.link q) c (.fetch a n (some tag) sp) s q
  have lane := congrArg PortState.answerLane port
  have forward : ∀ o, (s.detect (.link q) c (.fetch a n (some tag) sp)).wantsForward o q = s.wantsForward o q := fun o =>
    State.wantsForward_congr (SameAnswers.detect o _ _ _ s) (fun i => State.detect_entry _ _ _ s i) q
  refine (State.redecideLink_cons wait head st c).trans (congrArg (State.serveRequests q) ?_)
  refine State.refuseHead_answered ((congrArg PortState.requests port).trans head)
    ((congrArg (fun y : PortState => y.link.isUp) port).trans up) (lt_of_eq_of_lt (congrArg List.length lane) room) ?_ _ _
  exact calm.imp (fun none o ne => (forward o).trans (none o ne)) fun many => le_of_le_of_eq many (congrArg forwardedCount lane.symm)

theorem State.redecideLink_waits (wait : (s.port q).requestWait = some (.lane d left))
    (head : (s.port q).requests = .fetch a n tag sp :: rest) (up : s.isUp q = true)
    (full : 8 ≤ (s.port q).answerLane.length
      ∨ ((∃ o, o ≠ q ∧ s.wantsForward o q = true) ∧ forwardedCount (s.port q).answerLane < 6)) (st : AnsStatus) (c : Condition) :
    s.redecideLink q st c
      = (s.detect (.link q) c (.fetch a n (some tag) sp)).modPort q fun x => { x with requestWait := some (.answerSlot st left) } := by
  have port := State.detect_port (.link q) c (.fetch a n (some tag) sp) s q
  have lane := congrArg PortState.answerLane port
  have forward : ∀ o, (s.detect (.link q) c (.fetch a n (some tag) sp)).wantsForward o q = s.wantsForward o q := fun o =>
    State.wantsForward_congr (SameAnswers.detect o _ _ _ s) (fun i => State.detect_entry _ _ _ s i) q
  have waits := full.imp (fun k => le_of_le_of_eq k (congrArg List.length lane.symm)) fun ⟨⟨o, ne, wants⟩, few⟩ =>
    And.intro ((congrArg (fun y : PortState => y.link.isUp) port).trans up)
      (And.intro (Exists.intro o (And.intro ne ((forward o).trans wants))) (lt_of_eq_of_lt (congrArg forwardedCount lane) few))
  refine (State.redecideLink_cons wait head st c).trans ?_
  refine (congrArg (State.serveRequests q) (State.refuseHead_waits waits st left)).trans (State.serveRequests_idle (.inl ?_))
  rw [State.port_modPort_same]
  exact Option.some_ne_none _

end

/-! ## The transition (R131) -/

theorem State.orphan_port (p q : Port) (s : State) : (s.orphan p).port q = s.port q := rfl

theorem SameButTable.conditions {s t : State} (h : SameButTable s t) : t.conditions = s.conditions := by
  rw [h]

theorem State.endLinkLost_conditions (p : Port) (s : State) : (s.endLinkLost p).conditions = s.conditions :=
  (State.endLinkLost_spec p s).frame.conditions

/-- The state in which the heads that waited for the lane are decided again. -/
def State.left (p : Port) (l : Link) (cause : DownCause) (s : State) : State :=
  (((s.latch (.origin (.link p)) .linkDown).modPort p (PortState.leaveUp l cause)).endLinkLost p).orphan p

theorem State.leaveUp_eq (p : Port) (l : Link) (cause : DownCause) (s : State) :
    s.leaveUp p l cause = Port.all.foldl (fun v q => v.rematch q) ((s.left p l cause).redecideFor p) := rfl

section
variable {p : Port} {l : Link} (cause : DownCause) (s : State) (down : l.isUp = false)
include down

theorem State.left_port : (s.left p l cause).port p = (s.port p).leaveUp l cause := by
  have before : ((s.latch (.origin (.link p)) .linkDown).modPort p (PortState.leaveUp l cause)).port p = (s.port p).leaveUp l cause := by
    rw [State.port_modPort_same, State.latch_port]
  have closed : ((s.port p).leaveUp l cause).link.isUp = false := down
  unfold State.left
  rw [State.orphan_port, (State.endLinkLost_spec p _).port, before]
  exact if_neg (Bool.eq_false_iff.mp closed)

omit down in
theorem State.left_entry (i : RouterTag) :
    (s.left p l cause).entry i = ((s.entry i).lost p s.exchange.timers.value.quarantine).orphaned p := by
  have same : ((s.latch (.origin (.link p)) .linkDown).modPort p (PortState.leaveUp l cause)).exchange = s.exchange :=
    State.latch_exchange ..
  refine (State.orphan_entry _ _ _).trans (congrArg (Entry.orphaned p) ?_)
  rw [State.endLinkLost_entry]
  unfold State.quarantineTime State.entry
  rw [same]

omit down in
theorem State.left_conditions : (s.left p l cause).conditions = (s.latch (.origin (.link p)) .linkDown).conditions := by
  unfold State.left
  rw [State.orphan_conditions, State.endLinkLost_conditions]
  rfl

theorem State.left_deserted : Deserted p (s.left p l cause) := by
  have port := State.left_port cause s down (p := p)
  refine ⟨(congrArg (fun x : PortState => x.link.isUp) port).trans down, congrArg PortState.requests port,
    congrArg PortState.answers port, fun i => ?_⟩
  rw [State.left_entry]
  exact Entry.orphaned_lost_avoids p _ _

/-- The rest of the transition goes around the port. -/
theorem State.left_shunned : Shunned p (s.left p l cause) (s.leaveUp p l cause) :=
  ((Spares.redecideFor p _).trans (Spares.foldl _ _ (fun v q => Spares.rematch q v) _)) (State.left_deserted cause s down)

theorem State.leaveUp_port : (s.leaveUp p l cause).port p = (s.port p).leaveUp l cause :=
  (State.left_shunned cause s down).port.trans (State.left_port cause s down)

theorem State.leaveUp_latched : .linkDown ∈ (s.leaveUp p l cause).latched (.origin (.link p)) := by
  refine (State.left_shunned cause s down).latched _ _ ?_
  unfold State.latched
  rw [State.left_conditions]
  exact (State.mem_latched_latch _ _ _ _ s).mpr (.inl ⟨rfl, rfl⟩)

/-- An exchange with the lost port ends in quarantine. -/
theorem State.leaveUp_quarantine {i : RouterTag} {y : Exchange} {issue : Issue} {d : Nat} (positive : 0 < s.exchange.timers.value.quarantine)
    (dest : y.dest = p) (live : s.entry i = .opened y issue d ∨ s.entry i = .orphan y issue d) :
    (s.leaveUp p l cause).entry i = .quarantine y .linkLost s.exchange.timers.value.quarantine := by
  refine (State.left_shunned cause s down).quarantine _ _ _ _ ?_
  rw [State.left_entry]
  have lost : (s.entry i).lost p s.exchange.timers.value.quarantine = .quarantine y .linkLost s.exchange.timers.value.quarantine := by
    rcases live with e | e
    · rw [e]
      exact (if_pos dest).trans (if_neg positive.ne')
    · rw [e]
      exact (if_pos dest).trans (if_neg positive.ne')
  rw [lost]
  rfl

end

/-! ## The parts in order -/

theorem Entry.lost_live {p : Port} {n : Nat} {e : Entry} {x : Exchange} {issue : Issue} {d : Nat}
    (h : e = .opened x issue d ∨ e = .orphan x issue d) :
    e.lost p n = if x.dest = p then (if n = 0 then .free else .quarantine x .linkLost n) else e := by
  rcases h with rfl | rfl <;> rfl

theorem Entry.lost_dead {p : Port} {n : Nat} {e : Entry} (h : ∀ x issue d, e ≠ .opened x issue d ∧ e ≠ .orphan x issue d) :
    e.lost p n = e := by
  cases e with
  | opened x issue d => exact absurd rfl (h x issue d).1
  | orphan x issue d => exact absurd rfl (h x issue d).2
  | free => rfl
  | quarantine x c left => rfl

/-- Settles O38: the port and the entries from what traffic leaves of a deserted port (`Spares`), the ends entry by entry, and the heads
decided again from the one that waits. -/
theorem leavingUpEmptiesThePort : Obligations.LeavingUpEmptiesThePort := by
  refine ⟨fun p l cause s down => ⟨State.leaveUp_port cause s down, State.leaveUp_latched cause s down, fun i y issue d => ?live,
      fun positive i y issue d dest live => State.leaveUp_quarantine cause s down positive dest live, ?parts⟩,
    fun p s => ⟨fun i => ⟨fun x issue d h => ?ended, fun h => ?dead⟩, fun o => ?told, fun h i n data gathering => ?host, fun h => ?noHost,
      (State.endLinkLost_spec p s).frame⟩,
    fun p s => ⟨rfl, fun i => ⟨fun x issue d h own => ?orphaned, fun h => ?stays⟩⟩,
    fun p s _ => ⟨State.redecideFor_none, fun q left wait others => ?single, fun c h left running none => ?concluded⟩,
    fun q d left r rest s wait head up => ⟨fun other => State.redecideLink_drops wait head up other .portDown .noRoute,
      fun a n tag sp hr => ⟨fun room calm => ?answers, fun full => ?waits⟩⟩⟩
  case live => exact (State.left_shunned cause s down).clear i y issue d
  case parts =>
    rw [State.leaveUp_eq]
    unfold State.left
    have port : ∀ f g : PortState → PortState, f (s.port p) = g (s.port p) →
        (s.latch (.origin (.link p)) .linkDown).modPort p f = (s.latch (.origin (.link p)) .linkDown).modPort p g := fun f g h =>
      State.modPort_congr p _ (by rw [State.latch_port]; exact h)
    rw [port (PortState.leaveUp l cause) (fun _ => (s.port p).leaveUp l cause) rfl]
    rfl
  case ended =>
    rw [State.endLinkLost_entry]
    exact Entry.lost_live h
  case dead =>
    rw [State.endLinkLost_entry]
    exact Entry.lost_dead h
  case told => exact (State.endLinkLost_spec p s).port o
  case host =>
    obtain ⟨j, x, issue, d, e, dest, origin⟩ := h
    rw [(State.endLinkLost_spec p s).finished ⟨j, List.mem_finRange j, x, issue, d, e, dest, origin⟩, gathering]
    rfl
  case noHost =>
    exact (State.endLinkLost_spec p s).kept fun i _ ⟨x, issue, d, e, dest, origin⟩ => h i x issue d e dest origin
  case orphaned =>
    rw [State.orphan_entry, h]
    exact Entry.orphaned_own own issue d
  case stays =>
    rw [State.orphan_entry]
    exact Entry.orphaned_other h
  case single =>
    exact State.redecideFor_single ((State.wantsRequestLane_link_iff s p q).mpr ⟨left, wait⟩) others
  case concluded =>
    have concluded := State.redecideFor_host running none
    unfold State.concluded at concluded
    refine ⟨fun may => ?_, fun may => ?_⟩
    · rw [may] at concluded
      exact concluded
    · rw [may] at concluded
      exact concluded
  case answers =>
    subst hr
    exact State.redecideLink_answers wait head up room calm .portDown .noRoute
  case waits =>
    subst hr
    exact State.redecideLink_waits wait head up full .portDown .noRoute

end Sys2Proof.Machine
end

section
/-! The proof about SET LINK (R121, R122). -/

namespace Sys2Proof.Machine

/-! ## The settings written and the link after them -/

/-- The port with these settings. -/
def State.withSettings (p : Port) (y : Setting LinkSettings) (s : State) : State := s.modPort p fun z => { z with settings := y }

theorem State.withSettings_link (p : Port) (y : Setting LinkSettings) (s : State) :
    ((s.withSettings p y).port p).link = (s.port p).link :=
  (congrArg PortState.link (State.port_modPort_same p (fun z => { z with settings := y }) s)).trans rfl

/-- A port that is enabled goes DOWN, and one that is not UP is disabled, with attempt count 0. -/
def State.startLink (p : Port) (l : Link) (s : State) : State := s.modPort p fun z => { z with link := l, attempts := 0 }

theorem State.startLink_link (p : Port) (l : Link) (s : State) : ((s.startLink p l).port p).link = l :=
  congrArg PortState.link (State.port_modPort_same p (fun z => { z with link := l, attempts := 0 }) s)

section
variable {p : Port} {s : State}

theorem State.applyEnable_enables (h : (s.port p).link = .disabled) : s.applyEnable p true = s.startLink p (.down (some 1)) := by
  unfold State.applyEnable
  rw [h]
  rfl

theorem State.applyEnable_leavesUp (h : s.isUp p = true) : s.applyEnable p false = s.leaveUp p .disabled .disable := by
  obtain ⟨most, up⟩ := Link.eq_up_of_isUp h
  unfold State.applyEnable
  rw [up]

theorem State.applyEnable_disables (down : s.isUp p = false) (ne : (s.port p).link ≠ .disabled) :
    s.applyEnable p false = s.startLink p .disabled := by
  unfold State.applyEnable State.isUp at *
  cases link : (s.port p).link with
  | disabled => exact absurd link ne
  | up most =>
    rw [link] at down
    cases down
  | _ => rfl

theorem State.applyEnable_same {enable : Bool}
    (h : ((s.port p).link ≠ .disabled ∧ enable = true) ∨ ((s.port p).link = .disabled ∧ enable = false)) :
    s.applyEnable p enable = s := by
  unfold State.applyEnable
  rcases h with ⟨ne, rfl⟩ | ⟨disabled, rfl⟩
  · cases link : (s.port p).link with
    | disabled => exact absurd link ne
    | _ => rfl
  · rw [disabled]

end

theorem setLinkTo_badMax {x : LinkSettings} (h : x.max ∉ [64, 128, 256, 512, 1024]) (p : Port) (fix : Bool) (s : State) :
    setLinkTo p x fix s = refuse .badValue s :=
  if_pos (by rw [Bool.not_eq_true', Bool.eq_false_iff]; exact fun k => h (List.contains_iff_mem.mp k))

section
variable {p : Port} {x : LinkSettings} {fix f : Bool} {s : State} (max : x.max ∈ [64, 128, 256, 512, 1024])
include max

theorem setLinkTo_known :
    setLinkTo p x fix s = writeItem (s.port p).settings x fix s fun y =>
      done (.linkState (((s.withSettings p y).applyEnable p x.enable).port p).link.name) ((s.withSettings p y).applyEnable p x.enable) :=
  if_neg (by rw [Bool.not_eq_true', Bool.not_eq_false]; exact List.contains_iff_mem.mpr max)

theorem setLinkTo_fixed (fixed : (s.port p).settings.fixed = true) (ne : (s.port p).settings.value ≠ x) :
    setLinkTo p x fix s = refuse .fixed s := (setLinkTo_known max).trans (writeItem_fixed fixed ne)

variable (same : (s.port p).settings.fixed = true → (s.port p).settings.value = x) (hf : ((s.port p).settings.fixed || fix) = f)
include same hf

/-- What a write that is taken leaves of the port. -/
theorem setLinkTo_taken {t : State} (h : (s.withSettings p ⟨x, f⟩).applyEnable p x.enable = t) :
    setLinkTo p x fix s = done (.linkState (t.port p).link.name) t := by
  refine (setLinkTo_known max).trans ((writeItem_taken same).trans ?_)
  rw [hf, h]

theorem setLinkTo_enables (disabled : (s.port p).link = .disabled) (enable : x.enable = true) :
    setLinkTo p x fix s = done (.linkState .down) ((s.withSettings p ⟨x, f⟩).startLink p (.down (some 1))) := by
  refine (setLinkTo_taken max same hf ?_).trans (congrArg (fun l : Link => done (.linkState l.name) _) (State.startLink_link p _ _))
  rw [enable]
  exact State.applyEnable_enables ((State.withSettings_link _ _ _).trans disabled)

theorem setLinkTo_leavesUp (up : s.isUp p = true) (disable : x.enable = false) :
    setLinkTo p x fix s = done (.linkState .disabled) ((s.withSettings p ⟨x, f⟩).leaveUp p .disabled .disable) := by
  have link : (((s.withSettings p ⟨x, f⟩).leaveUp p .disabled .disable).port p).link = .disabled :=
    congrArg PortState.link (State.leaveUp_port .disable _ rfl)
  refine (setLinkTo_taken max same hf ?_).trans (congrArg (fun l : Link => done (.linkState l.name) _) link)
  rw [disable]
  exact State.applyEnable_leavesUp ((congrArg Link.isUp (State.withSettings_link _ _ _)).trans up)

theorem setLinkTo_disables (down : s.isUp p = false) (ne : (s.port p).link ≠ .disabled) (disable : x.enable = false) :
    setLinkTo p x fix s = done (.linkState .disabled) ((s.withSettings p ⟨x, f⟩).startLink p .disabled) := by
  refine (setLinkTo_taken max same hf ?_).trans (congrArg (fun l : Link => done (.linkState l.name) _) (State.startLink_link p _ _))
  rw [disable]
  exact State.applyEnable_disables ((congrArg Link.isUp (State.withSettings_link _ _ _)).trans down)
    (by rw [State.withSettings_link]; exact ne)

theorem setLinkTo_same (h : ((s.port p).link ≠ .disabled ∧ x.enable = true) ∨ ((s.port p).link = .disabled ∧ x.enable = false)) :
    setLinkTo p x fix s = done (.linkState (s.port p).link.name) (s.withSettings p ⟨x, f⟩) := by
  refine (setLinkTo_taken max same hf ?_).trans
    (congrArg (fun l : Link => done (.linkState l.name) _) (State.withSettings_link p ⟨x, f⟩ s))
  exact State.applyEnable_same (by rw [State.withSettings_link]; exact h)

end

/-! ## The command -/

theorem exec_setLink (m : HostMsg) (s : State) :
    exec (.setLink m) s = event (State.take ⟨0x40, m⟩ false
      (State.runAct ⟨0x40, m⟩ fun params s => actSetLink s.isForwarding false params s)) s := rfl

theorem actSetLink_some {p e m1 m0 : Byte} {port : Port} {enable : Bool} (hp : Port.ofByte p = some port)
    (he : flagOfByte e = some enable) (forwarding fix : Bool) (s : State) :
    actSetLink forwarding fix [p, e, m1, m0] s = some (setLinkTo port ⟨enable, (word16 m1 m0).toNat⟩ fix s) := by
  simp only [actSetLink, hp, he]

theorem actSetLink_badValue {p e m1 m0 : Byte} (h : 6 < p.toNat ∨ 1 < e.toNat) (forwarding fix : Bool) (s : State) :
    actSetLink forwarding fix [p, e, m1, m0] s = some (refuse .badValue s) := by
  rcases h with h | h
  · simp only [actSetLink, Port.ofByte_of_six_lt h]
  · cases hp : Port.ofByte p <;> simp only [actSetLink, hp, flagOfByte_of_one_lt h]

/-- Settles O31, by what the write leaves of the port in each of its link states. -/
theorem setLinkWritesTheSettings : Obligations.SetLinkWritesTheSettings := by
  refine ⟨fun m p e m1 m0 s h hp bad => h.refused (exec_setLink m s) hp (actSetLink_badValue bad _ _ _),
    fun m p e m1 m0 port enable s h hp hport he => ?_⟩
  have act := fun t => actSetLink_some (m1 := m1) (m0 := m0) hport he s.isForwarding false t
  refine ⟨fun max same => ⟨fun disabled on => ?_, fun up off => ?_, fun down ne off => ?_, fun stays => ?_⟩, fun bad => ?_,
    fun max fixed ne => ?_⟩
  · exact h.answers (exec_setLink m s) hp
      ((act _).trans (congrArg some (setLinkTo_enables (s := s.taken) max same (Bool.or_false _) disabled on)))
  · exact effect_of_act (exec_setLink m s) h.toTaken (.inr h.running)
      (hp ▸ (act _).trans (congrArg some (setLinkTo_leavesUp (s := s.taken) max same (Bool.or_false _) up off)))
  · exact h.answers (exec_setLink m s) hp
      ((act _).trans (congrArg some (setLinkTo_disables (s := s.taken) max same (Bool.or_false _) down ne off)))
  · exact h.answers (exec_setLink m s) hp
      ((act _).trans (congrArg some (setLinkTo_same (s := s.taken) max same (Bool.or_false _) stays)))
  · exact h.refused (exec_setLink m s) hp ((act _).trans (congrArg some (setLinkTo_badMax bad _ _ _)))
  · exact h.refused (exec_setLink m s) hp ((act _).trans (congrArg some (setLinkTo_fixed (s := s.taken) max fixed ne)))

end Sys2Proof.Machine
end

section
/-! The fix flag of a load record (R34, R173, R174): with it a setting is taken and refused as without it, and one that is taken is
written with its fixed mark set. -/

namespace Sys2Proof.Machine

/-! ## With and without the fix flag -/

/-- The reply `r₁` with the fix flag has the status of `r₀` without it, and leaves the state `t` where it is DONE. -/
structure Reply.Fixes (t : State) (r₁ r₀ : Reply) : Prop where
  status : r₁.status = r₀.status
  state : r₁.status = .done → r₁.state = t

namespace Reply.Fixes

variable {s t : State}

theorem refused (st : Status) (ne : st ≠ .done) : (refuse st s).Fixes t (refuse st s) := ⟨rfl, fun h => absurd h ne⟩

theorem done (v w : Values) (u : State) : (Machine.done v t).Fixes t (Machine.done w u) := ⟨rfl, fun _ => rfl⟩

theorem ite {c : Prop} [Decidable c] {a a' b b' : Reply} (h : a.Fixes t a') (k : b.Fixes t b') :
    (if c then a else b).Fixes t (if c then a' else b') := by
  split
  · exact h
  · exact k

theorem writeItem {α : Type} [DecidableEq α] {x : Setting α} {v : α} {next : Setting α → Reply}
    (h : (next ⟨v, true⟩).Fixes t (next ⟨v, x.fixed⟩)) : (writeItem x v true s next).Fixes t (writeItem x v false s next) := by
  by_cases fixed : x.fixed = true ∧ x.value ≠ v
  · rw [writeItem_fixed fixed.1 fixed.2, writeItem_fixed fixed.1 fixed.2]
    exact refused .fixed (by decide)
  · have same : x.fixed = true → x.value = v := fun k => by_contra fun ne => fixed ⟨k, ne⟩
    rw [writeItem_taken same, writeItem_taken same, Bool.or_true, Bool.or_false]
    exact h

end Reply.Fixes

/-! ## The settings -/

theorem setStationTo_fixes (st : Byte) (forwarding : Bool) (s : State) :
    (setStationTo st forwarding true s).Fixes (s.setRoutes { s.routes with ownStation := ⟨st, true⟩ })
      (setStationTo st forwarding false s) :=
  .ite (.refused _ (by decide)) (.writeItem (.ite (.refused _ (by decide)) (.ite (.refused _ (by decide)) (.done _ _ _))))

theorem setBayRangeTo_fixes (b : Bay) (x : StationRange) (s : State) :
    (setBayRangeTo b x true s).Fixes
      (s.setRoutes { s.routes with bays := s.routes.bays.set b { s.routes.bays.get b with range := ⟨x, true⟩ } })
      (setBayRangeTo b x false s) :=
  .ite (.refused _ (by decide)) (.writeItem (.ite (.refused _ (by decide)) (.done _ _ _)))

theorem setWindowTo_fixes (b : Bay) (k : WindowKind) (w : Window) (s : State) :
    (setWindowTo b k w true s).Fixes
      (s.setRoutes { s.routes with bays := s.routes.bays.set b ((s.routes.bays.get b).setWindow k ⟨w, true⟩) })
      (setWindowTo b k w false s) :=
  .ite (.refused _ (by decide)) (.writeItem (.ite (.refused _ (by decide)) (.done _ _ _)))

theorem setDirectedTo_fixes (d : Directed) (s : State) :
    (setDirectedTo d true s).Fixes (s.setRoutes { s.routes with directed := ⟨d, true⟩ }) (setDirectedTo d false s) :=
  .ite (.refused _ (by decide)) (.writeItem (.done _ _ _))

theorem setPermitsTo_fixes (b : Bay) (x : Permits) (s : State) :
    (setPermitsTo b x true s).Fixes
      (s.setRoutes { s.routes with bays := s.routes.bays.set b { s.routes.bays.get b with permits := ⟨x, true⟩ } })
      (setPermitsTo b x false s) :=
  .writeItem (.done _ _ _)

theorem setSpoiledTo_fixes (p : Port) (drop : Bool) (s : State) :
    (setSpoiledTo p drop true s).Fixes (s.setRoutes { s.routes with dropSpoiled := s.routes.dropSpoiled.set p ⟨drop, true⟩ })
      (setSpoiledTo p drop false s) :=
  .writeItem (.done _ _ _)

theorem setQuotaTo_fixes (p : Port) (n : Nat) (s : State) :
    (setQuotaTo p n true s).Fixes { s with exchange := { s.exchange with quotas := s.exchange.quotas.set p ⟨n, true⟩ } }
      (setQuotaTo p n false s) :=
  .ite (.refused _ (by decide)) (.writeItem (.done _ _ _))

theorem setTimersTo_fixes (x : ExchangeTimers) (s : State) :
    (setTimersTo x true s).Fixes { s with exchange := { s.exchange with timers := ⟨x, true⟩ } } (setTimersTo x false s) :=
  .ite (.refused _ (by decide)) (.writeItem (.done _ _ _))

theorem setReportingTo_fixes (c : Category) (x : Reporting) (s : State) :
    (setReportingTo c x true s).Fixes
      { s with conditions := { s.conditions with reporting := s.conditions.reporting.set c ⟨x, true⟩ } } (setReportingTo c x false s) :=
  .writeItem (.done _ _ _)

theorem setStreamsTo_fixes (n : Nat) (s : State) :
    (setStreamsTo n true s).Fixes
      { (setStreamsTo n false s).state with
        notification := { (setStreamsTo n false s).state.notification with countFixed := true } }
      (setStreamsTo n false s) := by
  unfold setStreamsTo
  dsimp only
  split
  · exact .refused _ (by decide)
  · split
    · exact .refused _ (by decide)
    · refine ⟨rfl, fun _ => ?_⟩
      rw [Bool.or_true]
      rfl

theorem setLinkTo_status (p : Port) (x : LinkSettings) (s : State) :
    (setLinkTo p x true s).status = (setLinkTo p x false s).status := by
  have fixes : (setLinkTo p x true s).Fixes
      ((s.withSettings p ⟨x, true⟩).applyEnable p x.enable) (setLinkTo p x false s) :=
    .ite (.refused _ (by decide)) (.writeItem (.done _ _ _))
  exact fixes.status

/-! ## The acts -/

/-- The act has one status with the fix flag and without it, or lacks its parameters both times. -/
def SettingAct.SameStatus (act : SettingAct) : Prop :=
  ∀ forwarding params s, (act forwarding true params s).map Reply.status = (act forwarding false params s).map Reply.status

theorem actSetStation_sameStatus : actSetStation.SameStatus := by
  intro forwarding params s
  unfold actSetStation
  split
  · exact congrArg some (setStationTo_fixes _ _ s).status
  · rfl

theorem actSetBayRange_sameStatus : actSetBayRange.SameStatus := by
  intro forwarding params s
  unfold actSetBayRange
  split
  · split
    · exact congrArg some (setBayRangeTo_fixes _ _ s).status
    · rfl
  · rfl

theorem actSetWindow_sameStatus : actSetWindow.SameStatus := by
  intro forwarding params s
  unfold actSetWindow
  split
  · split
    · exact congrArg some (setWindowTo_fixes _ _ _ s).status
    · rfl
  · rfl

theorem actSetDirected_sameStatus : actSetDirected.SameStatus := by
  intro forwarding params s
  unfold actSetDirected
  split
  · split
    · exact congrArg some (setDirectedTo_fixes _ s).status
    · rfl
  · rfl

theorem actSetPermits_sameStatus : actSetPermits.SameStatus := by
  intro forwarding params s
  unfold actSetPermits
  split
  · split
    · exact congrArg some (setPermitsTo_fixes _ _ s).status
    · rfl
  · rfl

theorem actSetSpoiled_sameStatus : actSetSpoiled.SameStatus := by
  intro forwarding params s
  unfold actSetSpoiled
  split
  · split
    · exact congrArg some (setSpoiledTo_fixes _ _ s).status
    · rfl
  · rfl

theorem actSetQuota_sameStatus : actSetQuota.SameStatus := by
  intro forwarding params s
  unfold actSetQuota
  split
  · split
    · exact congrArg some (setQuotaTo_fixes _ _ s).status
    · rfl
  · rfl

theorem actSetExchangeTimers_sameStatus : actSetExchangeTimers.SameStatus := by
  intro forwarding params s
  unfold actSetExchangeTimers
  split
  · exact congrArg some (setTimersTo_fixes _ s).status
  · rfl

/-- A stall limit in its range is written (R113). -/
theorem actSetStallLimit_within {l1 l0 : Byte} (h1 : (word16 l1 l0).toNat ≠ 0) (h : (word16 l1 l0).toNat ≤ 250) (forwarding fix : Bool)
    (s : State) :
    actSetStallLimit forwarding fix [l1, l0] s
      = some (writeItem s.stallLimit (word16 l1 l0).toNat fix s fun y => done .empty { s with stallLimit := y }) :=
  congrArg some (if_neg (not_or.mpr ⟨h1, Nat.not_lt.mpr h⟩))

theorem actSetStallLimit_outside {l1 l0 : Byte} (h : (word16 l1 l0).toNat = 0 ∨ 250 < (word16 l1 l0).toNat) (forwarding fix : Bool)
    (s : State) : actSetStallLimit forwarding fix [l1, l0] s = some (refuse .badValue s) := congrArg some (if_pos h)

theorem setStallLimitTo_fixes (n : Nat) (s : State) :
    (writeItem s.stallLimit n true s fun y => done .empty { s with stallLimit := y }).Fixes { s with stallLimit := ⟨n, true⟩ }
      (writeItem s.stallLimit n false s fun y => done .empty { s with stallLimit := y }) := .writeItem (.done _ _ _)

theorem actSetStallLimit_sameStatus : actSetStallLimit.SameStatus := by
  intro forwarding params s
  unfold actSetStallLimit
  split
  · refine congrArg some ?_
    split
    · rfl
    · exact (setStallLimitTo_fixes _ s).status
  · rfl

theorem actSetLink_sameStatus : actSetLink.SameStatus := by
  intro forwarding params s
  unfold actSetLink
  split
  · split
    · exact congrArg some (setLinkTo_status _ _ s)
    · rfl
  · rfl

theorem actSetReporting_sameStatus : actSetReporting.SameStatus := by
  intro forwarding params s
  unfold actSetReporting
  split
  · rename_i c e rest
    cases listParam rest with
    | none => rfl
    | some items =>
      refine congrArg some ?_
      dsimp only
      split
      · split
        · exact (setReportingTo_fixes _ _ s).status
        · rfl
      · rfl
  · rfl

theorem actSetStreams_sameStatus : actSetStreams.SameStatus := by
  intro forwarding params s
  unfold actSetStreams
  split
  · exact congrArg some (setStreamsTo_fixes _ s).status
  · rfl

/-- Every act a record may have is taken or refused alike with the fix flag and without it (R174). -/
theorem loadAct_sameStatus {kind : Byte} {act : SettingAct} (h : loadAct kind = some act) : act.SameStatus := by
  have one := loadAct_cases h
  simp only [List.mem_cons, List.not_mem_nil, or_false] at one
  rcases one with rfl | rfl | rfl | rfl | rfl | rfl | rfl | rfl | rfl | rfl | rfl | rfl | rfl
  · exact actSetStation_sameStatus
  · exact actSetBayRange_sameStatus
  · exact actSetWindow_sameStatus
  · exact actSetDirected_sameStatus
  · exact actSetPermits_sameStatus
  · exact actSetSpoiled_sameStatus
  · exact actSetQuota_sameStatus
  · exact actSetExchangeTimers_sameStatus
  · exact actSetStallLimit_sameStatus
  · exact actSetLink_sameStatus
  · exact actSetReporting_sameStatus
  · exact actSetStreams_sameStatus
  · exact fun _ _ _ => rfl

end Sys2Proof.Machine
end

section
/-! The settings stand apart from the loader and the management link: a command that writes one does the same whatever stands there (R173,
R186). -/

namespace Sys2Proof.Machine

/-! ## Another loader and another management link -/

/-- The state with this loader and this management link. -/
def State.beside (l : Loader) (m : ManagementLink) (s : State) : State := { s with loader := l, management := m }

/-- The reply with this loader and this management link in its state. -/
def Reply.beside (l : Loader) (m : ManagementLink) (r : Reply) : Reply := { r with state := r.state.beside l m }

/-- The act neither reads nor writes the loader and the management link. -/
def SettingAct.Apart (act : SettingAct) : Prop :=
  ∀ forwarding fix params l m s, act forwarding fix params (s.beside l m) = (act forwarding fix params s).map (Reply.beside l m)

section
variable {l : Loader} {m : ManagementLink} {s : State}

theorem Reply.beside_ite {c : Prop} [Decidable c] {a b a' b' : Reply} (h : a' = a.beside l m) (k : b' = b.beside l m) :
    (if c then a' else b') = (if c then a else b).beside l m := by
  rw [h, k, apply_ite (Reply.beside l m)]

theorem Reply.beside_writeItem {α : Type} [DecidableEq α] {x : Setting α} {v : α} {fix : Bool} {next next' : Setting α → Reply}
    (h : ∀ y, next' y = (next y).beside l m) :
    writeItem x v fix (s.beside l m) next' = (writeItem x v fix s next).beside l m := by
  unfold writeItem
  cases x.write v fix with
  | none => rfl
  | some y => exact h y

end

/-! ## The acts -/

theorem actSetStation_apart : actSetStation.Apart := by
  intro forwarding fix params l m s
  unfold actSetStation
  split
  · exact congrArg some (Reply.beside_ite rfl (Reply.beside_writeItem fun _ => Reply.beside_ite rfl (Reply.beside_ite rfl rfl)))
  · rfl

theorem actSetBayRange_apart : actSetBayRange.Apart := by
  intro forwarding fix params l m s
  unfold actSetBayRange
  split
  · split
    · exact congrArg some (Reply.beside_ite rfl (Reply.beside_writeItem fun _ => Reply.beside_ite rfl rfl))
    · rfl
  · rfl

theorem actSetWindow_apart : actSetWindow.Apart := by
  intro forwarding fix params l m s
  unfold actSetWindow
  split
  · split
    · exact congrArg some (Reply.beside_ite rfl (Reply.beside_writeItem fun _ => Reply.beside_ite rfl rfl))
    · rfl
  · rfl

theorem actSetDirected_apart : actSetDirected.Apart := by
  intro forwarding fix params l m s
  unfold actSetDirected
  split
  · split
    · exact congrArg some (Reply.beside_ite rfl (Reply.beside_writeItem fun _ => rfl))
    · rfl
  · rfl

theorem actSetPermits_apart : actSetPermits.Apart := by
  intro forwarding fix params l m s
  unfold actSetPermits
  split
  · split
    · exact congrArg some (Reply.beside_writeItem fun _ => rfl)
    · rfl
  · rfl

theorem actSetSpoiled_apart : actSetSpoiled.Apart := by
  intro forwarding fix params l m s
  unfold actSetSpoiled
  split
  · split
    · exact congrArg some (Reply.beside_writeItem fun _ => rfl)
    · rfl
  · rfl

theorem actSetQuota_apart : actSetQuota.Apart := by
  intro forwarding fix params l m s
  unfold actSetQuota
  split
  · split
    · exact congrArg some (Reply.beside_ite rfl (Reply.beside_writeItem fun _ => rfl))
    · rfl
  · rfl

theorem actSetExchangeTimers_apart : actSetExchangeTimers.Apart := by
  intro forwarding fix params l m s
  unfold actSetExchangeTimers
  split
  · exact congrArg some (Reply.beside_ite rfl (Reply.beside_writeItem fun _ => rfl))
  · rfl

theorem actSetStallLimit_apart : actSetStallLimit.Apart := by
  intro forwarding fix params l m s
  unfold actSetStallLimit
  split
  · exact congrArg some (Reply.beside_ite rfl (Reply.beside_writeItem fun _ => rfl))
  · rfl

theorem actSetReporting_apart : actSetReporting.Apart := by
  intro forwarding fix params l m s
  unfold actSetReporting
  split
  · rename_i c e rest
    cases listParam rest with
    | none => rfl
    | some items =>
      refine congrArg some ?_
      dsimp only
      split
      · split
        · exact Reply.beside_writeItem fun _ => rfl
        · rfl
      · rfl
  · rfl

theorem actSetStreams_apart : actSetStreams.Apart := by
  intro forwarding fix params l m s
  unfold actSetStreams
  split
  · exact congrArg some (Reply.beside_ite rfl (Reply.beside_ite rfl rfl))
  · rfl

/-- An act that stands apart leaves the loader and the management link as they are. -/
theorem SettingAct.Apart.kept {act : SettingAct} (h : act.Apart) {forwarding fix : Bool} {params : List Byte} {s : State} {r : Reply}
    (e : act forwarding fix params s = some r) : r.state.loader = s.loader ∧ r.state.management = s.management := by
  have same := h forwarding fix params s.loader s.management s
  have self : s.beside s.loader s.management = s := rfl
  rw [self, e] at same
  have fixed : r = r.beside s.loader s.management := Option.some.inj same
  rw [fixed]
  exact ⟨rfl, rfl⟩

/-! ## The commands that a record may hold too -/

/-- A command that writes a setting, SET LINK and OPEN ROUTING apart, runs the act of its kind's record, which stands apart. -/
theorem body_of_setting {i : Instr} {kind : Byte} {m : HostMsg} (hm : i.message = some (kind, m)) (own : ∀ k n, i ≠ .badKindMessage k n)
    (h : kind ∈ [(0x10 : Byte), 0x11, 0x12, 0x13, 0x14, 0x15, 0x30, 0x31, 0x38, 0x50, 0x60]) :
    ∃ act, loadAct kind = some act ∧ act.Apart ∧ i.inStart = false ∧ isCommandKind kind = true
      ∧ i.body = State.runAct ⟨kind, m⟩ fun params s => act s.isForwarding false params s := by
  cases i
  case badKindMessage k n => exact absurd rfl (own k n)
  case setStation => cases hm; exact ⟨_, rfl, actSetStation_apart, rfl, rfl, rfl⟩
  case setBayRange => cases hm; exact ⟨_, rfl, actSetBayRange_apart, rfl, rfl, rfl⟩
  case setWindow => cases hm; exact ⟨_, rfl, actSetWindow_apart, rfl, rfl, rfl⟩
  case setDirected => cases hm; exact ⟨_, rfl, actSetDirected_apart, rfl, rfl, rfl⟩
  case setPermits => cases hm; exact ⟨_, rfl, actSetPermits_apart, rfl, rfl, rfl⟩
  case setSpoiled => cases hm; exact ⟨_, rfl, actSetSpoiled_apart, rfl, rfl, rfl⟩
  case setQuota => cases hm; exact ⟨_, rfl, actSetQuota_apart, rfl, rfl, rfl⟩
  case setExchangeTimers => cases hm; exact ⟨_, rfl, actSetExchangeTimers_apart, rfl, rfl, rfl⟩
  case setStallLimit => cases hm; exact ⟨_, rfl, actSetStallLimit_apart, rfl, rfl, rfl⟩
  case setReporting => cases hm; exact ⟨_, rfl, actSetReporting_apart, rfl, rfl, rfl⟩
  case setStreams => cases hm; exact ⟨_, rfl, actSetStreams_apart, rfl, rfl, rfl⟩
  all_goals cases hm
  all_goals exact absurd h (by decide)

/-- Such a command is answered as its record would be, the checks taking the router as it is (R173, R175). -/
theorem answers_as_record {i : Instr} {kind : Byte} {m : HostMsg} {s : State} {l : Loader} (hm : i.message = some (kind, m))
    (own : ∀ k n, i ≠ .badKindMessage k n)
    (hk : kind ∈ [(0x10 : Byte), 0x11, 0x12, 0x13, 0x14, 0x15, 0x30, 0x31, 0x38, 0x50, 0x60]) (h : TakenOutsideStart s ⟨kind, m⟩)
    (hl : l.pendingOpen = s.isForwarding) :
    Answers i s ⟨kind, m⟩ (runRecord ⟨0, kind :: m.params⟩ { s with loader := l }).status
        (runRecord ⟨0, kind :: m.params⟩ { s with loader := l }).values
        { (runRecord ⟨0, kind :: m.params⟩ { s with loader := l }).state with loader := s.loader }
      ∧ (runRecord ⟨0, kind :: m.params⟩ { s with loader := l }).state.loader = l
      ∧ (runRecord ⟨0, kind :: m.params⟩ { s with loader := l }).state.management = s.management := by
  obtain ⟨act, load, apart, out, command, body⟩ := body_of_setting hm own hk
  have he := exec_of_command hm own s
  rw [out, body] at he
  have run : runRecord ⟨0, kind :: m.params⟩ { s with loader := l }
      = (act s.isForwarding false m.params (s.beside l s.management)).getD (refuse .badLength (s.beside l s.management)) :=
    (runRecord_act rfl rfl command load).trans (by rw [show ({ s with loader := l } : State).loader.pendingOpen = _ from hl]; rfl)
  have taken := apart s.isForwarding false m.params s.loader s.taken.management s
  rw [run, apart]
  cases reply : act s.isForwarding false m.params s with
  | none =>
    rw [reply] at taken
    exact ⟨h.badLength he taken, rfl, rfl⟩
  | some r =>
    rw [reply] at taken
    exact ⟨h.answers he rfl taken, rfl, rfl⟩

end Sys2Proof.Machine
end

section
/-! The proof about the records of a load (R173 to R177). -/

namespace Sys2Proof.Machine

/-! ## The tests of a record (R173) -/

theorem flagOfByte_eq_none {flag : Byte} (h0 : flag ≠ 0) (h1 : flag ≠ 1) : flagOfByte flag = none := by
  cases h : flagOfByte flag with
  | none => rfl
  | some b =>
    have e := (flagOfByte_eq_some_iff flag b).mp h
    cases b
    · exact absurd e h0
    · exact absurd e h1

theorem flagOfByte_decide {flag : Byte} (h : flag = 0 ∨ flag = 1) : flagOfByte flag = some (decide (flag = 1)) := by
  rcases h with rfl | rfl <;> rfl

section
variable {flag kind : Byte} (params : List Byte) (s : State)

theorem runRecord_badFlag (h0 : flag ≠ 0) (h1 : flag ≠ 1) : runRecord ⟨flag, kind :: params⟩ s = refuse .badValue s := by
  simp only [runRecord, flagOfByte_eq_none h0 h1]

theorem runRecord_badKind (hf : flag = 0 ∨ flag = 1) (bad : isCommandKind kind = false) :
    runRecord ⟨flag, kind :: params⟩ s = refuse .badKind s := by
  simp only [runRecord, flagOfByte_decide hf, bad, Bool.not_false, if_true]

end

/-- A record of an allowed kind runs its act with its flag. -/
theorem runRecord_run {flag kind : Byte} {params : List Byte} {act : SettingAct} {s : State} (hf : flag = 0 ∨ flag = 1)
    (hk : isCommandKind kind = true) (ha : loadAct kind = some act) :
    runRecord ⟨flag, kind :: params⟩ s = (act s.loader.pendingOpen (decide (flag = 1)) params s).getD (refuse .badLength s) :=
  runRecord_act (flagOfByte_decide hf) rfl hk ha

theorem runRecord_some {flag kind : Byte} {params : List Byte} {act : SettingAct} {s : State} {r : Reply} (hf : flag = 0 ∨ flag = 1)
    (hk : isCommandKind kind = true) (ha : loadAct kind = some act)
    (h : act s.loader.pendingOpen (decide (flag = 1)) params s = some r) : runRecord ⟨flag, kind :: params⟩ s = r := by
  rw [runRecord_run hf hk ha, h]
  rfl

/-- The kinds that a load may hold (R173). -/
theorem loadAct_eq_none {kind : Byte}
    (h : kind ∉ [(0x10 : Byte), 0x11, 0x12, 0x13, 0x14, 0x15, 0x30, 0x31, 0x38, 0x40, 0x50, 0x60, 0x72]) : loadAct kind = none := by
  simp only [List.mem_cons, List.not_mem_nil, or_false, not_or, ← BitVec.toNat_inj] at h
  unfold loadAct
  split
  case h_14 => rfl
  all_goals
    rename_i e
    rw [e] at h
    simp at h

/-- A record's kind whose parameters have a fixed length, and what its act says to another length (R195). -/
theorem loadAct_length {kind : Byte} {n : Nat}
    (h : (kind, n) ∈ [((0x10 : Byte), 1), (0x11, 3), (0x12, 10), (0x13, 10), (0x14, 3), (0x15, 2), (0x30, 3), (0x31, 4), (0x38, 2),
      (0x40, 4), (0x60, 2), (0x72, 0)]) :
    isCommandKind kind = true ∧ ∃ act, loadAct kind = some act
      ∧ ∀ forwarding fix params s, params.length ≠ n → act forwarding fix params s = none := by
  simp only [List.mem_cons, List.not_mem_nil, or_false, Prod.mk.injEq] at h
  rcases h with ⟨rfl, rfl⟩ | ⟨rfl, rfl⟩ | ⟨rfl, rfl⟩ | ⟨rfl, rfl⟩ | ⟨rfl, rfl⟩ | ⟨rfl, rfl⟩ | ⟨rfl, rfl⟩ | ⟨rfl, rfl⟩ | ⟨rfl, rfl⟩
    | ⟨rfl, rfl⟩ | ⟨rfl, rfl⟩ | ⟨rfl, rfl⟩
  all_goals
    refine ⟨rfl, _, rfl, fun forwarding fix params s wrong => ?_⟩
    dsimp only [actSetStation, actSetBayRange, actSetWindow, actSetDirected, actSetPermits, actSetSpoiled, actSetQuota,
      actSetExchangeTimers, actSetStallLimit, actSetLink, actSetStreams, actOpenRoutingRecord]
    split
    · exact absurd rfl wrong
    · rfl

/-- A record that is not DONE changes nothing (R173). -/
theorem runRecord_whole (r : LoadRecord) (s : State) : (runRecord r s).Whole s := by
  unfold runRecord
  split
  · exact whole_refuse _ _
  · exact whole_refuse _ _
  · split
    · exact whole_refuse _ _
    · split
      · exact whole_refuse _ _
      · rename_i fix kind params _ _ _ _ act load
        cases reply : act s.loader.pendingOpen fix params s with
        | none => exact whole_refuse _ _
        | some q => exact loadAct_whole load _ _ _ _ _ reply

/-- The flag of a record decides nothing about its status (R174). -/
theorem runRecord_status (kind : Byte) (params : List Byte) (s : State) :
    (runRecord ⟨1, kind :: params⟩ s).status = (runRecord ⟨0, kind :: params⟩ s).status := by
  cases hk : isCommandKind kind with
  | false => rw [runRecord_badKind params s (.inr rfl) hk, runRecord_badKind params s (.inl rfl) hk]
  | true =>
    cases load : loadAct kind with
    | none => rw [runRecord_notInLoad params s (.inr rfl) hk load, runRecord_notInLoad params s (.inl rfl) hk load]
    | some act =>
      have same := loadAct_sameStatus load s.loader.pendingOpen params s
      rw [runRecord_run (.inr rfl) hk load, runRecord_run (.inl rfl) hk load]
      show ((act s.loader.pendingOpen true params s).getD _).status = ((act s.loader.pendingOpen false params s).getD _).status
      cases h1 : act s.loader.pendingOpen true params s with
      | none =>
        rw [h1] at same
        rw [Option.map_eq_none_iff.mp same.symm]
      | some r1 =>
        rw [h1] at same
        obtain ⟨r0, h0, status⟩ := Option.map_eq_some_iff.mp same.symm
        rw [h0]
        exact status.symm

/-! ## Replay -/

/-- The loader after a record with this report. -/
def State.recorded (index : Nat) (rest : List LoadRecord) (report : LoadReport) (t : State) : State :=
  State.afterRecord index rest (t.setLoader { t.loader with report := report })

theorem State.replay_record {s : State} {index : Nat} {r : LoadRecord} {rest : List LoadRecord}
    (h : s.loader.state = .start (.replaying index (r :: rest))) :
    s.replay = (runRecord r s).state.recorded index rest ((runRecord r s).state.loader.report.record index (runRecord r s).status) := by
  unfold State.replay
  rw [h]
  rfl

theorem LoadReport.record_done (index : Nat) (x : LoadReport) : x.record index .done = { x with executed := x.executed + 1 } := rfl

theorem LoadReport.record_refused {status : Status} (h : status ≠ .done) (index : Nat) (x : LoadReport) :
    x.record index status
      = { x with refused := x.refused + 1, firstRefused := x.firstRefused.orElse fun _ => some (index, status) } := if_neg h

/-- A record that runs goes on with the load and is counted. -/
theorem State.replay_done {s : State} {index : Nat} {r : LoadRecord} {rest : List LoadRecord}
    (h : s.loader.state = .start (.replaying index (r :: rest))) (done : (runRecord r s).status = .done) :
    s.replay = (runRecord r s).state.recorded index rest
      { (runRecord r s).state.loader.report with executed := (runRecord r s).state.loader.report.executed + 1 } := by
  rw [State.replay_record h, done, LoadReport.record_done]

theorem State.replay_refused {s : State} {index : Nat} {r : LoadRecord} {rest : List LoadRecord}
    (h : s.loader.state = .start (.replaying index (r :: rest))) (refused : (runRecord r s).status ≠ .done) :
    s.replay = s.recorded index rest
      { s.loader.report with
        refused := s.loader.report.refused + 1
        firstRefused := s.loader.report.firstRefused.orElse fun _ => some (index, (runRecord r s).status) } := by
  rw [State.replay_record h, runRecord_whole r s refused, LoadReport.record_refused refused]

/-! ## Records by kind -/

/-- A record with the fix flag that is DONE leaves the item written and fixed (R174). -/
theorem runRecord_fixes {kind : Byte} {params : List Byte} {act : SettingAct} {s t : State} {r1 r0 : Reply}
    (hk : isCommandKind kind = true) (ha : loadAct kind = some act) (h : act s.loader.pendingOpen true params s = some r1)
    (fixes : r1.Fixes t r0) (done : (runRecord ⟨1, kind :: params⟩ s).status = .done) : (runRecord ⟨1, kind :: params⟩ s).state = t := by
  rw [runRecord_some (.inr rfl) hk ha h] at done ⊢
  exact fixes.state done

/-- SET STATION with a station of no bay's range, its item not fixed (R26). -/
theorem runRecord_setStation {flag st : Byte} {s : State} (hf : flag = 0 ∨ flag = 1) (h255 : st ≠ 255) (h0 : st ≠ 0)
    (free : s.routes.ownStation.fixed = false) (outside : ∀ b, (s.routes.bays.get b).range.value.holds st = false) :
    runRecord ⟨flag, [0x10, st]⟩ s = done .empty { s with routes := { s.routes with ownStation := ⟨st, decide (flag = 1)⟩ } } := by
  have unfixed : s.routes.ownStation.fixed = true → s.routes.ownStation.value = st := fun k => absurd (free.symm.trans k) Bool.false_ne_true
  have noConflict : ¬(st ≠ 0 ∧ s.routes.inSomeRange st = true) := fun ⟨_, k⟩ => by
    obtain ⟨b, hb⟩ := (RouteTables.inSomeRange_iff s.routes st).mp k
    exact Bool.false_ne_true ((outside b).symm.trans hb)
  have act : actSetStation s.loader.pendingOpen (decide (flag = 1)) [st] s = some (setStationTo st s.loader.pendingOpen (decide (flag = 1)) s) :=
    rfl
  refine (runRecord_some hf rfl rfl act).trans ?_
  rw [setStationTo_taken _ _ h255 unfixed, if_neg noConflict, if_neg fun k => h0 k.1, free, Bool.false_or]
  rfl

/-- SET STATION that clears the station (R26, R175). -/
theorem runRecord_clearStation {flag : Byte} {s : State} (hf : flag = 0 ∨ flag = 1) (free : s.routes.ownStation.fixed = false) :
    runRecord ⟨flag, [0x10, 0]⟩ s
      = if s.loader.pendingOpen = true then refuse .wrongState s
        else done .empty { s with routes := { s.routes with ownStation := ⟨0, decide (flag = 1)⟩ } } := by
  have unfixed : s.routes.ownStation.fixed = true → s.routes.ownStation.value = 0 := fun k => absurd (free.symm.trans k) Bool.false_ne_true
  have act : actSetStation s.loader.pendingOpen (decide (flag = 1)) [0] s = some (setStationTo 0 s.loader.pendingOpen (decide (flag = 1)) s) :=
    rfl
  refine (runRecord_some hf rfl rfl act).trans ?_
  rw [setStationTo_taken _ _ (by decide) unfixed, if_neg fun k => k.1 rfl, free, Bool.false_or]
  simp only [true_and]
  rfl

/-- OPEN ROUTING in a record (R175). -/
theorem runRecord_openRouting {flag : Byte} {s : State} (hf : flag = 0 ∨ flag = 1) :
    runRecord ⟨flag, [0x72]⟩ s
      = if s.routes.ownStation.value = 0 ∨ s.loader.pendingOpen = true then refuse .wrongState s
        else done .empty { s with loader := { s.loader with pendingOpen := true } } :=
  runRecord_some hf rfl (act := actOpenRoutingRecord) rfl rfl

/-- SET LINK in a record (R121). -/
theorem runRecord_setLink {flag p e m1 m0 : Byte} {port : Port} {enable : Bool} (hf : flag = 0 ∨ flag = 1) (hp : Port.ofByte p = some port)
    (he : flagOfByte e = some enable) (s : State) :
    runRecord ⟨flag, [0x40, p, e, m1, m0]⟩ s = setLinkTo port ⟨enable, (word16 m1 m0).toNat⟩ (decide (flag = 1)) s :=
  runRecord_some hf rfl (act := actSetLink) rfl (actSetLink_some hp he _ _ s)

/-- SET REPORTING of a known category: it lacks its list, names a value that is none, or writes its item. -/
theorem actSetReporting_cases {k : Byte} {cat : Category} (hk : Category.ofByte k = some cat) (e : Byte) (rest : List Byte) (s : State) :
    (∀ forwarding fix, actSetReporting forwarding fix (k :: e :: rest) s = none)
    ∨ (∀ forwarding fix, actSetReporting forwarding fix (k :: e :: rest) s = some (refuse .badValue s))
    ∨ ∃ x, ∀ forwarding fix, actSetReporting forwarding fix (k :: e :: rest) s = some (setReportingTo cat x fix s) := by
  unfold actSetReporting
  dsimp only
  cases listParam rest with
  | none => exact .inl fun _ _ => rfl
  | some items =>
    refine .inr ?_
    rw [hk]
    cases flagOfByte e with
    | none => exact .inl fun _ _ => rfl
    | some enable =>
      cases names : conditionNames (fun c => c.category == cat) items with
      | none => exact .inl fun _ _ => by simp only [Option.map_some, names]
      | some l => exact .inr ⟨⟨enable, inOrder l⟩, fun _ _ => by simp only [Option.map_some, names]⟩

/-- An item written without the fix flag holds the value. -/
theorem setReportingTo_done {cat : Category} {x : Reporting} {s : State} (h : (setReportingTo cat x false s).status = .done) :
    ((setReportingTo cat x false s).state.conditions.reporting.get cat).value = x := by
  unfold setReportingTo at h ⊢
  by_cases fixed : (s.conditions.reporting.get cat).fixed = true ∧ (s.conditions.reporting.get cat).value ≠ x
  · rw [writeItem_fixed fixed.1 fixed.2] at h
    cases h
  · have same : (s.conditions.reporting.get cat).fixed = true → (s.conditions.reporting.get cat).value = x :=
      fun k => by_contra fun ne => fixed ⟨k, ne⟩
    rw [writeItem_taken same]
    exact congrArg Setting.value (PerCategory.get_set_same _ _ _)

/-- SET REPORTING with the fix flag (R143, R174). -/
theorem runRecord_setReporting {k e n : Byte} {items : List Byte} {cat : Category} {s : State} (hk : Category.ofByte k = some cat)
    (done : (runRecord ⟨1, 0x50 :: k :: e :: n :: items⟩ s).status = .done) :
    ((runRecord ⟨1, 0x50 :: k :: e :: n :: items⟩ s).state.conditions.reporting.get cat).fixed = true
      ∧ (runRecord ⟨1, 0x50 :: k :: e :: n :: items⟩ s).state
        = { s with conditions :=
            { s.conditions with
              reporting := s.conditions.reporting.set cat
                ⟨((runRecord ⟨0, 0x50 :: k :: e :: n :: items⟩ s).state.conditions.reporting.get cat).value, true⟩ } } := by
  have plain := (runRecord_status 0x50 (k :: e :: n :: items) s).symm.trans done
  rcases actSetReporting_cases hk e (n :: items) s with h | h | ⟨x, h⟩
  · rw [runRecord_run (.inr rfl) rfl (act := actSetReporting) rfl, h] at done
    cases done
  · rw [runRecord_some (.inr rfl) rfl (act := actSetReporting) rfl (h _ _)] at done
    cases done
  · have run : runRecord ⟨0, 0x50 :: k :: e :: n :: items⟩ s = setReportingTo cat x false s :=
      runRecord_some (.inl rfl) rfl (act := actSetReporting) rfl (h _ _)
    rw [run] at plain ⊢
    have state := runRecord_fixes rfl (act := actSetReporting) rfl (h _ _) (setReportingTo_fixes cat x s) done
    rw [state]
    exact ⟨congrArg Setting.fixed (PerCategory.get_set_same _ _ _), by rw [setReportingTo_done plain]⟩

/-- SET STALL LIMIT with the fix flag (R113, R174). -/
theorem runRecord_setStallLimit {l1 l0 : Byte} {s : State} (done : (runRecord ⟨1, [0x38, l1, l0]⟩ s).status = .done) :
    (runRecord ⟨1, [0x38, l1, l0]⟩ s).state = { s with stallLimit := ⟨(word16 l1 l0).toNat, true⟩ } := by
  by_cases outside : (word16 l1 l0).toNat = 0 ∨ 250 < (word16 l1 l0).toNat
  · rw [runRecord_some (.inr rfl) rfl (act := actSetStallLimit) rfl (actSetStallLimit_outside outside _ _ s)] at done
    cases done
  · obtain ⟨h1, h⟩ := not_or.mp outside
    exact runRecord_fixes rfl (act := actSetStallLimit) rfl (actSetStallLimit_within h1 (Nat.not_lt.mp h) _ _ s)
      (setStallLimitTo_fixes _ s) done

/-- SET STREAMS with the fix flag (R158, R174). -/
theorem runRecord_setStreams {params : List Byte} {s : State} (done : (runRecord ⟨1, 0x60 :: params⟩ s).status = .done) :
    (runRecord ⟨1, 0x60 :: params⟩ s).state
      = { (runRecord ⟨0, 0x60 :: params⟩ s).state with
        notification := { (runRecord ⟨0, 0x60 :: params⟩ s).state.notification with countFixed := true } } := by
  by_cases two : params.length = 2
  · obtain ⟨n1, n0, rfl⟩ := List.length_eq_two.mp two
    have run : runRecord ⟨0, [0x60, n1, n0]⟩ s = setStreamsTo (word16 n1 n0).toNat false s :=
      runRecord_some (.inl rfl) rfl (act := actSetStreams) rfl (actSetStreams_two _ _ n1 n0 s)
    rw [run]
    exact runRecord_fixes rfl (act := actSetStreams) rfl (actSetStreams_two _ _ n1 n0 s) (setStreamsTo_fixes _ s) done
  · obtain ⟨command, act, load, lacks⟩ := loadAct_length (kind := 0x60) (n := 2) (by decide)
    rw [runRecord_run (.inr rfl) command load, lacks _ _ _ _ two] at done
    cases done

/-- OPEN ROUTING in a record has nothing to fix (R175). -/
theorem runRecord_openRouting_flag (params : List Byte) (s : State) :
    runRecord ⟨1, 0x72 :: params⟩ s = runRecord ⟨0, 0x72 :: params⟩ s := by
  rw [runRecord_run (.inr rfl) rfl (act := actOpenRoutingRecord) rfl, runRecord_run (.inl rfl) rfl (act := actOpenRoutingRecord) rfl]
  rfl

/-- Settles O46: the replay by what the record comes to, the records by their tests and their kinds. -/
theorem loadRecords : Obligations.LoadRecords := by
  refine ⟨fun index r rest s h => ⟨fun done => ?ran, fun refused => ?refused⟩, runRecord_whole,
    fun flag kind params s => ⟨runRecord_badFlag params s, runRecord_badKind params s,
      fun hf hk out => runRecord_notInLoad params s hf hk (loadAct_eq_none out), fun hf => ⟨fun length mem wrong => ?length, fun hk bad => ?list⟩,
      fun st hf hk hp h255 h0 free outside => ?fixStation, fun hf => ?status, fun hf done => ?fixed, fun hf hk hp free => ?clear,
      fun hf hk p e m1 m0 hp => ⟨fun bad => ?badLink, fun port enable hport he => ?setLink⟩,
      fun st hf hk hp h255 h0 free outside _ => ?station, fun hf hk hp => ?openRouting⟩,
    fun i kind m s l hm own mem h hl => answers_as_record hm own mem h hl⟩
  case ran =>
    refine happens_of_event (f := State.replay) rfl ((State.replay_done h done).trans ?_)
    cases rest with
    | nil => rfl
    | cons x xs => rfl
  case refused =>
    refine happens_of_event (f := State.replay) rfl ((State.replay_refused h refused).trans ?_)
    cases rest with
    | nil => cases s.loader.report.firstRefused <;> rfl
    | cons x xs => cases s.loader.report.firstRefused <;> rfl
  case length =>
    obtain ⟨command, act, load, lacks⟩ := loadAct_length mem
    rw [runRecord_run hf command load, lacks _ _ _ _ wrong]
    rfl
  case list =>
    subst hk
    rw [runRecord_run hf rfl (act := actSetReporting) rfl, actSetReporting_none bad]
    rfl
  case fixStation =>
    subst hf hk hp
    exact runRecord_setStation (.inr rfl) h255 h0 free outside
  case station =>
    subst hf hk hp
    exact runRecord_setStation (.inl rfl) h255 h0 free outside
  case status =>
    subst hf
    exact runRecord_status kind params s
  case fixed =>
    subst hf
    refine ⟨fun b f l bay hk hp hb => ?_, fun b k b3 b2 b1 b0 l3 l2 l1 l0 bay w hk hp hb hw => ?_,
      fun b3 b2 b1 b0 l3 l2 l1 l0 b f bay on hk hp hb hon => ?_, fun b up pe bay upstream peer hk hp hb hup hpe => ?_,
      fun p d port drop hk hp hport hd => ?_, fun p n1 n0 port hk hp hport => ?_, fun t1 t0 q1 q0 hk hp => ?_, fun l1 l0 hk hp => ?_,
      fun k e n items cat hk hp hcat => ?_, fun hk => ?_, fun hk => ?_⟩
    all_goals subst hk
    · subst hp
      exact runRecord_fixes rfl (act := actSetBayRange) rfl (actSetBayRange_some hb _ _ s) (setBayRangeTo_fixes bay _ s) done
    · subst hp
      exact runRecord_fixes rfl (act := actSetWindow) rfl (actSetWindow_some hb hw _ _ s) (setWindowTo_fixes bay w _ s) done
    · subst hp
      exact runRecord_fixes rfl (act := actSetDirected) rfl (actSetDirected_some hb hon _ _ s) (setDirectedTo_fixes _ s) done
    · subst hp
      exact runRecord_fixes rfl (act := actSetPermits) rfl (actSetPermits_some hb hup hpe _ _ s) (setPermitsTo_fixes bay _ s) done
    · subst hp
      exact runRecord_fixes rfl (act := actSetSpoiled) rfl (actSetSpoiled_some hport hd _ _ s) (setSpoiledTo_fixes port _ s) done
    · subst hp
      exact runRecord_fixes rfl (act := actSetQuota) rfl (actSetQuota_some hport _ _ s) (setQuotaTo_fixes port _ s) done
    · subst hp
      exact runRecord_fixes rfl (act := actSetExchangeTimers) rfl rfl (setTimersTo_fixes _ s) done
    · subst hp
      exact runRecord_setStallLimit done
    · subst hp
      exact runRecord_setReporting hcat done
    · exact runRecord_setStreams done
    · exact congrArg Reply.state (runRecord_openRouting_flag params s)
  case clear =>
    subst hk hp
    refine ⟨fun opened => ?_, fun closed => ?_⟩
    · exact (runRecord_clearStation hf free).trans (if_pos opened)
    · exact (runRecord_clearStation hf free).trans (if_neg (Bool.eq_false_iff.mp closed))
  case badLink =>
    subst hk hp
    exact runRecord_some hf rfl (act := actSetLink) rfl (actSetLink_badValue bad _ _ s)
  case setLink =>
    subst hk hp
    have run := runRecord_setLink (m1 := m1) (m0 := m0) hf hport he s
    refine ⟨fun max same => ⟨fun disabled on => ?_, fun up off => ?_, fun down ne off => ?_, fun stays => ?_⟩, fun bad => ?_,
      fun max fixed ne => ?_⟩
    · exact run.trans (setLinkTo_enables max same rfl disabled on)
    · exact run.trans (setLinkTo_leavesUp max same rfl up off)
    · exact run.trans (setLinkTo_disables max same rfl down ne off)
    · exact run.trans (setLinkTo_same max same rfl stays)
    · exact run.trans (setLinkTo_badMax bad _ _ _)
    · exact run.trans (setLinkTo_fixed max fixed ne)
  case openRouting =>
    subst hk hp
    refine ⟨fun own pend => ?_, fun h => ?_⟩
    · exact (runRecord_openRouting hf).trans (if_neg (not_or.mpr ⟨own, Bool.eq_false_iff.mp pend⟩))
    · exact (runRecord_openRouting hf).trans (if_pos h)

end Sys2Proof.Machine
end
